-- ==== Sys2Proof/Word.lean ====
section
/-! DEFINITION. The word types of the FKT-418: what the manual treats as bits. -/

namespace Sys2Proof

/-- A word of the record link and of a record field (R9, R164). -/
abbrev Word := BitVec 16

/-- A byte of a tyre telegram (R139). -/
abbrev Byte := BitVec 8

/-- A reading of the 1 µs timestamp counter, which wraps after 2³² µs (section 3.1). -/
abbrev Stamp := BitVec 32

/-- A tyre sensor's 24-bit ID (R9). -/
abbrev SensorId := BitVec 24

/-- A raw 10-bit conversion of an analog input (section 2.1). -/
abbrev Raw := BitVec 10

end Sys2Proof
end

