-- ==== Sys2Proof/Config.lean ====
section
/-! DEFINITION. What the manual leaves open and the model leaves free: opaque constants no proof can see into. -/

namespace Sys2Proof

/-- The speed quotient over a span of 0 µs between two edges of different windows, or between an edge and
the window end: R33 and R34 divide by the span and give no value for it (only R32 does, taking S as 1).
A FREE VALUE, a function of the numerator circumference × 100000; log entry 4. -/
opaque Config.zeroSpanQuotient : Nat → Nat

end Sys2Proof
end

