-- ==== Sys2Proof/Syntax.lean ====
section
/-! DEFINITION. The commands of the FKT-418: one constructor per row of spec/opcode_table.json. -/

namespace Sys2Proof

/-- The blocks that take a scan completion, each on its own (R18). The manual lets them take one scan
completion in any order (R48, R70, R76, R81, R175). -/
inductive ScanAgent where
  | loadUnit
  | liftController
  | pressureTarget
  | channel (c : Fin 4)
  | valveDriver
  | antiLock
  | operatingState
  deriving DecidableEq, Repr

/-- What one scan samples (R18, R94): the eleven raw readings, and for each of the thirteen outputs
(bits 0 to 3 inlet, 4 to 7 exhaust, 8 to 11 backup, 12 lift, as in R176) whether its current lies below
the open-load threshold. -/
structure ScanInputs where
  demand     : Raw
  reservoir  : Raw
  delivered  : Vector Raw 4
  bellows    : Vector Raw 4
  supply     : Raw
  lowCurrent : BitVec 13
  deriving DecidableEq, Repr

/-- The commands. A request of the record link stands for the rise of SELECT that ends its transaction;
its operands are the header fields the request uses or echoes and its argument words (R167). -/
inductive Instr where
  /-- R180: power is applied; the LAYOUT straps read `straps` if the reset ends here (R1). -/
  | powerOn (straps : BitVec 2)
  /-- R180: the logic supply falls below 4.2 V. -/
  | logicSupplyLow
  /-- R180: the logic supply rises above 4.4 V. -/
  | logicSupplyRestored (straps : BitVec 2)
  /-- R180: the RESET line goes low. -/
  | resetLineAssert
  /-- R180: the RESET line is released. -/
  | resetLineRelease (straps : BitVec 2)
  /-- R172. -/
  | initTimerExpiry
  /-- R96. -/
  | failsafeAssert
  /-- R96. -/
  | failsafeRelease
  /-- R18: the scan's readings, and the order in which the blocks take the completion. -/
  | scanCompletion (readings : ScanInputs) (order : List ScanAgent)
  /-- R30: the timestamp counter at the window end, the line checks that report OPEN LINE (bit w for
  wheel-end w), and whether the Anti-Lock Unit takes the sample set before the Rollover Monitor (R101). -/
  | sampleSet (now : Stamp) (openLines : BitVec 8) (antiLockFirst : Bool)
  /-- R31: a rising edge on a wheel-speed input, with its timestamp. -/
  | wheelEdge (w : Fin 8) (now : Stamp)
  /-- R95: the output whose current exceeds the short-circuit threshold. -/
  | shortCircuitTrip (o : Fin 13)
  /-- R92. -/
  | changeoverGapExpiry (c : Fin 4)
  /-- R94. -/
  | blankingTimerExpiry (o : Fin 13)
  /-- R62. -/
  | raiseTimerExpiry
  /-- R65. -/
  | loweringTimerExpiry
  /-- R89. -/
  | supplyTimerExpiry (c : Fin 4)
  /-- R99. -/
  | exerciseTimerExpiry (c : Fin 4)
  /-- R109. -/
  | holdTimerExpiry (c : Fin 4)
  /-- R110. -/
  | stepTimerExpiry (c : Fin 4)
  /-- R127. -/
  | testTimerExpiry
  /-- R124. -/
  | testSpacingExpiry
  /-- R129. -/
  | interventionMinExpiry
  /-- R130. -/
  | rampStepExpiry
  /-- R138. -/
  | lineToSpacing
  /-- R138. -/
  | lineToMarking
  /-- R138. -/
  | jamTimerExpiry
  /-- R138. -/
  | markTimerExpiry
  /-- R136: the samples of the character (eight data bits, the parity bit if there is one, the stop bit;
  1 is marking) and the Tyre Supervisor's clock in ms (R141). -/
  | characterComplete (data : Byte) (parity stop : Bool) (nowMs : Nat)
  /-- R140. -/
  | gapTimerExpiry
  /-- R145. -/
  | agingExpiry
  /-- R153. -/
  | learnTimerExpiry
  /-- R164. -/
  | selectFall
  /-- R165: a transaction without clocks ends. -/
  | emptyTransaction
  /-- R165: a malformed transaction ends; its header if at least one whole word arrived. -/
  | frameError (header : Option Word)
  /-- R166: a transaction ends that is not taken. -/
  | initTransaction
  /-- R167: a header whose kind code is not listed. -/
  | unknownRequest (kind : BitVec 6) (index : BitVec 5)
  /-- R167. -/
  | nop (index : BitVec 5)
  /-- R168. -/
  | lookup (table : BitVec 3) (index : BitVec 5) (group : BitVec 2)
  /-- R168. -/
  | lookupNext (index : BitVec 5) (group : BitVec 2)
  /-- R11. -/
  | amend (table : BitVec 3) (index : BitVec 5) (field value : Word)
  /-- R150. -/
  | enrol (table : BitVec 3) (index : BitVec 5) (idHigh idLow : Word)
  /-- R151. -/
  | retire (table : BitVec 3) (index : BitVec 5)
  /-- R152. -/
  | learn (table : BitVec 3) (index : BitVec 5)
  /-- R154. -/
  | cancelLearn (index : BitVec 5)
  /-- R59. -/
  | liftCommand (index : BitVec 5) (mode : Word)
  /-- R97. -/
  | exercise (table : BitVec 3) (index : BitVec 5) (argument : Word)
  /-- R173. -/
  | goActive (index : BitVec 5)
  /-- R175. -/
  | goStandby (index : BitVec 5)
  /-- R180. -/
  | softReset (index : BitVec 5)
  /-- R178. -/
  | ackFaults (index : BitVec 5)
  /-- R170. -/
  | setAttention (index : BitVec 5) (enables : Word)
  /-- R135: half a bit time after the line fell to spacing it is still spacing. -/
  | startBitTaken
  deriving DecidableEq, Repr

end Sys2Proof
end

