-- ==== Sys2Proof/Machine/Records.lean ====
section
/-! DEFINITION. The types of the seven record tables and of every block's own state. -/

namespace Sys2Proof.Machine

/-- A timer: stopped (`none`), or running for the duration, in µs, it was started for. -/
abbrev Timer := Option Nat

/-- Sections 12.1: the device states. -/
inductive DeviceState where
  | init | standby | active | waitRelease
  deriving DecidableEq, Repr

/-- A side of the trailer, facing forward. -/
inductive Side where
  | left | right
  deriving DecidableEq, Repr

/-- The side a channel brakes (R2). -/
inductive ChannelSide where
  | left | right | both
  deriving DecidableEq, Repr

/-- R55. -/
inductive LoadState where
  | live | held
  deriving DecidableEq, Repr

/-- Section 4.6. -/
inductive LiftState where
  | notLiftable | down | raising | up | lowering
  deriving DecidableEq, Repr

/-- R59. -/
inductive LiftMode where
  | auto | manualUp | manualDown
  deriving DecidableEq, Repr

/-- R37. -/
inductive SensorState where
  | ok | noSignal | openLine | disabled
  deriving DecidableEq, Repr

/-- The modes of the reference speed (section 3.5). -/
inductive ReferenceMode where
  | seeking | tracking | holding
  deriving DecidableEq, Repr

/-- Section 6.2. -/
inductive ControllerState where
  | off | electronic | supplyWait | exercise | fallback
  deriving DecidableEq, Repr

/-- R83. -/
inductive FallbackReason where
  | noReason | fault | failsafe | supplyVoltage | demandSensor | notActive
  deriving DecidableEq, Repr

/-- Section 6.2. -/
inductive ValveAction where
  | apply | hold | vent | allOff
  deriving DecidableEq, Repr

/-- R80. -/
inductive WinningSource where
  | noSource | service | rollover | antilock | exercise
  deriving DecidableEq, Repr

/-- The three actions an EXERCISE may name (R97). -/
inductive ExerciseAction where
  | apply | hold | vent
  deriving DecidableEq, Repr

/-- R99. -/
inductive ExerciseEnd where
  | noEnd | expired | braking | moving | standby | fallback
  deriving DecidableEq, Repr

/-- R104. -/
inductive Wish where
  | free | release | hold
  deriving DecidableEq, Repr

/-- R106. -/
inductive AntiLockPolicy where
  | selectLow | selectHigh
  deriving DecidableEq, Repr

/-- Section 7.3. -/
inductive AntiLockState where
  | off | follow | release | hold | reapply
  deriving DecidableEq, Repr

/-- Section 8.1. -/
inductive RolloverState where
  | off | monitor | alert | test | intervene | recover | degraded
  deriving DecidableEq, Repr

/-- R125 to R127. -/
inductive TestResult where
  | noResult | noLift | lift
  deriving DecidableEq, Repr

/-- R137. -/
inductive Parity where
  | noParity | odd | even
  deriving DecidableEq, Repr

/-- R149. -/
inductive TyreState where
  | unpaired | learning | live | missing
  deriving DecidableEq, Repr

/-- R157. -/
inductive AlarmLevel where
  | noAlarm | lowWarn | lowAlarm | flat
  deriving DecidableEq, Repr

/-- R153. -/
inductive LearnResult where
  | noResult | success | timeout | cancelled
  deriving DecidableEq, Repr

/-- The valve or valves a changeover gap timer was started for (R92, R100). -/
inductive GapNote where
  | inlet | exhaust | both
  deriving DecidableEq, Repr

/-- The result codes of the result word (section 11.5). -/
inductive Result where
  | noResult | done | doneClamped | refusedFrame | refusedState | refusedAbsent | refusedRange
  | refusedBusy | refusedDuplicate | refusedConfig
  deriving DecidableEq, Repr

/-- The seven record tables (section 1.3). -/
inductive TableId where
  | device | axle | wheel | tyre | channel | candidate | rollover
  deriving DecidableEq, Repr

/-- The instances of the twelve fault kinds (section 12.2). -/
inductive FaultId where
  | valveOpen (o : Fin 13)
  | valveShort (o : Fin 13)
  | delivered (c : Fin 4)
  | demand
  | reservoir
  | bellows (a : Fin 4)
  | speed (w : Fin 8)
  | supplyWait (c : Fin 4)
  | lift
  | supplyLow
  | jam
  | linkFrame
  deriving DecidableEq, Repr

/-- One fault instance: its present condition and its latched mark (R176). -/
structure FaultMark where
  present : Bool
  latched : Bool
  deriving DecidableEq, Repr

/-- The fault set (section 12.2): a mark for every instance of every kind. -/
structure FaultSet where
  valveOpen  : Vector FaultMark 13
  valveShort : Vector FaultMark 13
  delivered  : Vector FaultMark 4
  demand     : FaultMark
  reservoir  : FaultMark
  bellows    : Vector FaultMark 4
  speed      : Vector FaultMark 8
  supplyWait : Vector FaultMark 4
  lift       : FaultMark
  supplyLow  : FaultMark
  jam        : FaultMark
  linkFrame  : FaultMark
  deriving DecidableEq, Repr

/-- The DEVICE record's own fields, the Operating-State Controller and the pins it takes. -/
structure Device where
  /-- Field 0; INIT is not readable (section 12.4). -/
  state             : DeviceState
  /-- Field 1: the layout code (R1). -/
  layout            : BitVec 2
  /-- The logic supply holds the part in reset (R180). -/
  supplyFail        : Bool
  /-- The RESET line is low (R180). -/
  resetLow          : Bool
  /-- The FAILSAFE line is asserted (R96). -/
  failsafe          : Bool
  /-- R172. -/
  initTimer         : Timer
  /-- Field 4 (R177). -/
  faultMask         : Word
  /-- Field 5 (R179). -/
  restarted         : Bool
  /-- Field 7 (R170). -/
  attentionEnable   : BitVec 6
  /-- Field 8. -/
  demand            : Nat
  /-- Field 9. -/
  reservoir         : Nat
  /-- Field 10, in mV. -/
  valveSupply       : Nat
  /-- Field 11 (R25). -/
  braking           : Bool
  /-- Field 12: D_MIN (R26). -/
  dMin              : Nat
  /-- Field 13 (R46). -/
  referenceSpeed    : Nat
  /-- Field 14 (R46). -/
  referenceLost     : Bool
  /-- Field 15 (R54). -/
  fTot              : Nat
  /-- Field 16 (R90). -/
  supplyOn          : Nat
  /-- Field 17 (R95). -/
  stopOnValveFault  : Bool
  /-- Field 18, in ms (R93). -/
  changeoverGap     : Nat
  /-- Field 19, in ms (R93). -/
  blankingTime      : Nat
  /-- Field 20: SLIP_REL (R105). -/
  slipRel           : Nat
  /-- Field 21 (R137). -/
  divisor           : Nat
  /-- Field 22 (R137). -/
  parity            : Parity
  /-- Fields 23 to 29: the line counters (R136, R140, R141). -/
  parityErrors      : Nat
  framingErrors     : Nat
  breakErrors       : Nat
  gapDiscards       : Nat
  checkDiscards     : Nat
  rangeDiscards     : Nat
  telegramsAccepted : Nat
  /-- Field 30, in s (R159). -/
  missingTimeout    : Nat
  deriving DecidableEq, Repr

/-- What the Analog Scan Unit keeps for one pressure input (R21, R22). -/
structure AnalogInput where
  hold   : Nat
  fault  : Bool
  streak : Nat
  deriving DecidableEq, Repr

/-- The Analog Scan Unit (chapter 2). -/
structure Analog where
  scanTimer : Timer
  demand    : AnalogInput
  reservoir : AnalogInput
  delivered : Vector AnalogInput 4
  bellows   : Vector AnalogInput 4
  deriving DecidableEq, Repr

/-- The Speed Capture Unit's state outside the WHEEL records (chapter 3). -/
structure Capture where
  /-- The free-running timestamp counter, as last read. -/
  timestamp   : Stamp
  windowTimer : Timer
  mode        : ReferenceMode
  /-- Consecutive window ends without a valid wheel-end (R45). -/
  lostCount   : Nat
  deriving DecidableEq, Repr

/-- The Load Unit's state outside the AXLE records (R55). -/
structure LoadUnit where
  loadState    : LoadState
  releaseCount : Nat
  deriving DecidableEq, Repr

/-- The Lift Controller's state outside the AXLE records (section 4.6). -/
structure LiftController where
  raiseTimer    : Timer
  loweringTimer : Timer
  lightCount    : Nat
  deriving DecidableEq, Repr

/-- A point of an axle's calibration curve (R52). -/
structure CurvePoint where
  bellows : Nat
  load    : Nat
  deriving DecidableEq, Repr

/-- An AXLE record with what the Load Unit keeps per axle (section 4.8). -/
structure Axle where
  present         : Bool
  twin            : Bool
  liftable        : Bool
  bellowsRaw      : Nat
  bellowsFiltered : Nat
  /-- The filter has had no input since the reset (R50). -/
  filterEmpty     : Bool
  /-- The frozen bellows value while the axle has a bellows fault (R51). -/
  frozen          : Option Nat
  load            : Nat
  loadFraction    : Nat
  l0              : Nat
  l1              : Nat
  /-- The points in use; their number is the curve point count (R13). -/
  curve           : List CurvePoint
  trackWidth      : Nat
  bellowsFault    : Bool
  changeMark      : Bool
  liftState       : LiftState
  liftMode        : LiftMode
  fRaise          : Nat
  fLower          : Nat
  bUp             : Nat
  bDown           : Nat
  /-- The Load Unit saw the axle down at its previous scan completion (R57). -/
  seenDown        : Bool
  deriving DecidableEq, Repr

/-- A WHEEL record with what the Speed Capture Unit keeps per wheel-end (sections 3.1 to 3.8, 7.7). -/
structure Wheel where
  present       : Bool
  channel       : Fin 4
  enabled       : Bool
  teeth         : Nat
  circumference : Nat
  speed         : Nat
  /-- The speed published at the previous window end, carried in the sample set (R30). -/
  previousSpeed : Nat
  sensorState   : SensorState
  bearing       : Bool
  suspect       : Bool
  valid         : Bool
  /-- The open window: its edge count and its first and last edges (R31). -/
  edgeCount     : Nat
  firstEdge     : Stamp
  lastEdge      : Stamp
  /-- The last-edge time (section 3.2). -/
  lastEdgeTime  : Option Stamp
  /-- The line check reported OPEN LINE at the latest window end (R37). -/
  lineOpen      : Bool
  noSignal      : Bool
  noSignalCount : Nat
  slip          : Option Nat
  deceleration  : Int
  wish          : Wish
  deriving DecidableEq, Repr

/-- The rate history of a tyre (R157): the P20 and arrival time, in ms, of the latest telegram. -/
structure RateHistory where
  p20  : Nat
  time : Nat
  deriving DecidableEq, Repr

/-- A TYRE record with what the Tyre Supervisor and the Record Link keep per position (section 10.8). -/
structure Tyre where
  present          : Bool
  state            : TyreState
  id               : Option SensorId
  level            : AlarmLevel
  bearing          : Bool
  changeMark       : Bool
  nominal          : Nat
  lastGauge        : Option Nat
  lastTemperature  : Option Int
  p20              : Option Nat
  high             : Bool
  hot              : Bool
  rapid            : Bool
  batteryLow       : Bool
  age              : Nat
  learnResult      : LearnResult
  learnTimer       : Timer
  rateHistory      : Option RateHistory
  /-- The Record Link's mark of a learning end outstanding at this position (R169). -/
  learnOutstanding : Bool
  deriving DecidableEq, Repr

/-- A CHANNEL record with the timers of its Channel Controller, of the Anti-Lock Unit and of the Valve
Driver Stage, and the Load Unit's handover (sections 5.11, 6.10, 7.7). The arbiter's inputs are the
service target, the rollover request, the anti-lock state and the cap: each is written and handed over in
one event, so each has one home here. -/
structure Channel where
  present        : Bool
  side           : ChannelSide
  groupFirst     : Fin 4
  groupLast      : Fin 4
  state          : ControllerState
  reason         : FallbackReason
  action         : ValveAction
  winning        : WinningSource
  gEmpty         : Nat
  gLaden         : Nat
  pLim           : Nat
  fraction       : Nat
  groupBearing   : Bool
  gain           : Nat
  target         : Nat
  band           : Nat
  commanded      : Nat
  delivered      : Nat
  rolloverRequest : Nat
  exerciseAction : Option ExerciseAction
  lastEnd        : ExerciseEnd
  policy         : AntiLockPolicy
  antiLock       : AntiLockState
  cap            : Option Nat
  releaseCount   : Nat
  /-- The channel fraction and group-bearing indication the Load Unit last handed over (R70). -/
  handFraction   : Nat
  handBearing    : Bool
  supplyTimer    : Timer
  exerciseTimer  : Timer
  holdTimer      : Timer
  stepTimer      : Timer
  gapTimer       : Timer
  gapNote        : GapNote
  deriving DecidableEq, Repr

/-- One of the thirteen outputs of the Valve Driver Stage (R91, R94). -/
structure Output where
  requested : Bool
  energised : Bool
  blanking  : Timer
  checked   : Bool
  lowCount  : Nat
  deriving DecidableEq, Repr

/-- The ROLLOVER record and the Rollover Monitor (sections 8.1, 8.11). -/
structure Rollover where
  state         : RolloverState
  raw           : Option Int
  filtered      : Int
  threshold     : Nat
  alertLevel    : Nat
  axle          : Option (Fin 4)
  inner         : Option Side
  testResult    : TestResult
  pTest         : Nat
  pRoll         : Nat
  aEmpty        : Nat
  aLaden        : Nat
  slipLift      : Nat
  interventions : Nat
  tests         : Nat
  level         : Nat
  testTimer     : Timer
  spacingTimer  : Timer
  minTimer      : Timer
  rampTimer     : Timer
  calm          : Nat
  /-- A DEGRADED condition of R117 held at the latest sample set (read by R130). -/
  degradedSeen  : Bool
  deriving DecidableEq, Repr

/-- The Telegram Receiver and its assembler (sections 9.1, 9.2). -/
structure Receiver where
  /-- The receive line is spacing. -/
  spacing      : Bool
  armed        : Bool
  /-- An armed receiver has seen the line fall and will sample it again after half a bit time (R135). -/
  startPending : Bool
  /-- A character in progress, with the parity under which its start bit was taken (R137). -/
  character    : Option Parity
  jam          : Bool
  jamTimer     : Timer
  markTimer    : Timer
  gapTimer     : Timer
  /-- The partial telegram; the assembler is in HUNT when it is empty and in COLLECT otherwise (R139). -/
  collected    : List Byte
  deriving DecidableEq, Repr

/-- The four flags of a telegram (section 11.5). -/
structure TelegramFlags where
  motion       : Bool
  batteryLow   : Bool
  learnTrigger : Bool
  fastRate     : Bool
  deriving DecidableEq, Repr

/-- An entry of the candidate list (section 9.5). -/
structure Candidate where
  id            : SensorId
  heard         : Nat
  lastGauge     : Nat
  previousGauge : Option Nat
  flags         : TelegramFlags
  age           : Nat
  deriving DecidableEq, Repr

/-- The Tyre Supervisor's state outside the TYRE records (sections 9.5, 10.4). -/
structure Supervisor where
  /-- The candidate list, the oldest entry at the head. -/
  candidates : List Candidate
  agingTimer : Timer
  /-- The Supervisor's clock of 1 ms resolution, as last read (R141). -/
  clock      : Nat
  deriving DecidableEq, Repr

/-- SELECT and the transaction it frames (R164, R166): high; low in a transaction that can be served; low
in one that began before a reset or in INIT and is not taken. -/
inductive Select where
  | high | serving | unserved
  deriving DecidableEq, Repr

/-- A pending response (R164, R167). -/
structure Response where
  result : Result
  kind   : BitVec 6
  index  : BitVec 5
  data   : Vector Word 8
  deriving DecidableEq, Repr

/-- The Record Link (chapter 11). The TYRE, LEARN and LOAD sources are pending by the marks of the
records and are not stored a second time. -/
structure Link where
  select           : Select
  /-- Output words 0 to 9 of the transaction last begun: what the part drives on data out. -/
  dataOut          : Vector Word 10
  /-- Every output word from 10 onward: zeros, or ones where data out is driven high (R164, R166). -/
  dataRest         : Word
  response         : Response
  cursorTable      : TableId
  cursorIndex      : Nat
  faultPending     : Bool
  rolloverPending  : Bool
  candidatePending : Bool
  deriving DecidableEq, Repr

end Sys2Proof.Machine
end

