-- ==== Sys2Proof/Machine/Layout.lean ====
section
/-! DEFINITION. The trailer layout: what exists, and which channel brakes what (R1 to R4). -/

namespace Sys2Proof.Machine

/-- How many axles the layout code gives (table of section 1.1). -/
def axleCount (layout : BitVec 2) : Nat :=
  match layout.toNat with
  | 0 => 2
  | 1 => 3
  | 2 => 3
  | _ => 4

/-- How many modulator channels the layout code gives (table of section 1.1). -/
def channelCount (layout : BitVec 2) : Nat :=
  match layout.toNat with
  | 0 => 2
  | 1 => 2
  | 2 => 3
  | _ => 4

/-- R2: an axle exists when its number is listed for the layout code. -/
def axleExists (layout : BitVec 2) (a : Fin 4) : Bool := decide (a.val < axleCount layout)

/-- R2: a channel exists when its number is listed for the layout code. -/
def channelExists (layout : BitVec 2) (c : Fin 4) : Bool := decide (c.val < channelCount layout)

/-- The axle of a wheel-end: its index is 2 × axle + side (R2). -/
def axleOfWheel (w : Fin 8) : Fin 4 := ⟨w.val / 2, by omega⟩

/-- The side of a wheel-end (R2). -/
def sideOfWheel (w : Fin 8) : Side := if w.val % 2 = 0 then .left else .right

/-- The wheel-end on a side of an axle (R2). -/
def wheelOf (a : Fin 4) (side : Side) : Fin 8 :=
  match side with
  | .left => ⟨2 * a.val, by omega⟩
  | .right => ⟨2 * a.val + 1, by omega⟩

/-- The axle of a tyre position: its index is 4 × axle + 2 × side + place (R3). -/
def axleOfTyre (p : Fin 16) : Fin 4 := ⟨p.val / 4, by omega⟩

/-- The side of a tyre position (R3). -/
def sideOfTyre (p : Fin 16) : Side := if p.val / 2 % 2 = 0 then .left else .right

/-- Whether a tyre position is an INNER one (R3). -/
def isInner (p : Fin 16) : Bool := decide (p.val % 2 = 1)

/-- The OUTER tyre position of a wheel-end (R3). -/
def outerTyre (w : Fin 8) : Fin 16 := ⟨2 * w.val, by omega⟩

/-- The INNER tyre position of a wheel-end (R3). -/
def innerTyre (w : Fin 8) : Fin 16 := ⟨2 * w.val + 1, by omega⟩

/-- The side a channel brakes in a layout (table of section 1.1). -/
def channelSide (layout : BitVec 2) (c : Fin 4) : ChannelSide :=
  if layout.toNat = 2 ∧ c.val = 2 then .both
  else if c.val % 2 = 0 then .left else .right

/-- The lowest axle of a channel's group (table of section 1.1). -/
def groupFirst (_layout : BitVec 2) (c : Fin 4) : Fin 4 := if c.val < 2 then 0 else 2

/-- The highest axle of a channel's group (table of section 1.1). -/
def groupLast (layout : BitVec 2) (c : Fin 4) : Fin 4 :=
  match layout.toNat with
  | 0 => 1
  | 1 => 2
  | 2 => if c.val < 2 then 1 else 2
  | _ => if c.val < 2 then 1 else 3

/-- The channel a wheel-end belongs to (second table of section 1.1). -/
def channelOfWheel (layout : BitVec 2) (w : Fin 8) : Fin 4 :=
  match layout.toNat with
  | 2 => if w.val < 4 then ⟨w.val % 2, by omega⟩ else 2
  | 3 => if w.val < 4 then ⟨w.val % 2, by omega⟩ else ⟨2 + w.val % 2, by omega⟩
  | _ => ⟨w.val % 2, by omega⟩

/-- Whether a channel's side is, or takes in, a side of the trailer. -/
def ChannelSide.covers : ChannelSide → Side → Bool
  | .both, _ => true
  | .left, .left => true
  | .right, .right => true
  | .left, .right => false
  | .right, .left => false

/-- Whether a channel is a side channel of a side: a BOTH channel is none (R125). -/
def ChannelSide.isOn : ChannelSide → Side → Bool
  | .left, .left => true
  | .right, .right => true
  | .left, .right => false
  | .right, .left => false
  | .both, _ => false

/-- The other side of the trailer. -/
def Side.opposite : Side → Side
  | .left => .right
  | .right => .left

/-- The outputs of a channel, numbered as the bits of DEVICE field 31 (R176). -/
def inletOf (c : Fin 4) : Fin 13 := ⟨c.val, by omega⟩
/-- See `inletOf`. -/
def exhaustOf (c : Fin 4) : Fin 13 := ⟨4 + c.val, by omega⟩
/-- See `inletOf`. -/
def backupOf (c : Fin 4) : Fin 13 := ⟨8 + c.val, by omega⟩
/-- The lift output: bit 12 of DEVICE field 31. -/
def liftOutput : Fin 13 := 12

end Sys2Proof.Machine
end

