-- ==== Sys2Proof/Machine/Defaults.lean ====
section
/-! DEFINITION. The values of every piece of state after a full reset, and the fixed times of the manual. -/

namespace Sys2Proof.Machine

/-- The scan timer's period: 5 ms (R18). -/
def scanPeriod : Nat := 5000
/-- The window timer's period: 10 ms (R30). -/
def windowPeriod : Nat := 10000
/-- The aging timer's period: 1 s (R145). -/
def agingPeriod : Nat := 1000000
/-- The INIT timer: 20 ms (R172). -/
def initTime : Nat := 20000
/-- The raise timer: 6 s (R61). -/
def raiseTime : Nat := 6000000
/-- The lowering timer: 6 s (R63). -/
def loweringTime : Nat := 6000000
/-- The supply timer: 3 s (R88). -/
def supplyTime : Nat := 3000000
/-- The anti-lock hold timer: 200 ms (R108). -/
def holdTime : Nat := 200000
/-- The anti-lock step timer: 50 ms (R109). -/
def stepTime : Nat := 50000
/-- The test timer: 400 ms (R125). -/
def testTime : Nat := 400000
/-- The test spacing timer: 1000 ms (R124). -/
def spacingTime : Nat := 1000000
/-- The intervention minimum timer: 500 ms (R128). -/
def interventionTime : Nat := 500000
/-- The ramp step timer: 50 ms (R130). -/
def rampTime : Nat := 50000
/-- The learn timer: 120 s (R152). -/
def learnTime : Nat := 120000000

/-- R17, R68: an AXLE record at its defaults. -/
def freshAxle (present : Bool) : Axle where
  present := present
  twin := true
  liftable := false
  bellowsRaw := 0
  bellowsFiltered := 0
  filterEmpty := true
  frozen := none
  load := 0
  loadFraction := 0
  l0 := 180
  l1 := 900
  curve := [⟨0, 180⟩, ⟨600, 900⟩]
  trackWidth := 204
  bellowsFault := false
  changeMark := false
  liftState := .notLiftable
  liftMode := .auto
  fRaise := 300
  fLower := 900
  bUp := 30
  bDown := 80
  seenDown := false

/-- R47, R114: a WHEEL record at its defaults. -/
def freshWheel (present : Bool) (channel : Fin 4) : Wheel where
  present := present
  channel := channel
  enabled := true
  teeth := 100
  circumference := 3200
  speed := 0
  previousSpeed := 0
  sensorState := .ok
  bearing := false
  suspect := false
  valid := false
  edgeCount := 0
  firstEdge := 0
  lastEdge := 0
  lastEdgeTime := none
  lineOpen := false
  noSignal := false
  noSignalCount := 0
  slip := none
  deceleration := 0
  wish := .free

/-- R162: a TYRE record at its defaults. -/
def freshTyre (present : Bool) : Tyre where
  present := present
  state := .unpaired
  id := none
  level := .noAlarm
  bearing := false
  changeMark := false
  nominal := 800
  lastGauge := none
  lastTemperature := none
  p20 := none
  high := false
  hot := false
  rapid := false
  batteryLow := false
  age := 0
  learnResult := .noResult
  learnTimer := none
  rateHistory := none
  learnOutstanding := false

/-- R78, R100, R114: a CHANNEL record at its defaults; the gap timer runs from the reset, noted for both
valves (R100). -/
def freshChannel (present : Bool) (side : ChannelSide) (first last : Fin 4) : Channel where
  present := present
  side := side
  groupFirst := first
  groupLast := last
  state := .off
  reason := .noReason
  action := .allOff
  winning := .noSource
  gEmpty := 410
  gLaden := 1024
  pLim := 850
  fraction := 0
  groupBearing := false
  gain := 410
  target := 0
  band := 15
  commanded := 0
  delivered := 0
  rolloverRequest := 0
  exerciseAction := none
  lastEnd := .noEnd
  policy := .selectLow
  antiLock := .off
  cap := none
  releaseCount := 0
  handFraction := 0
  handBearing := false
  supplyTimer := none
  exerciseTimer := none
  holdTimer := none
  stepTimer := none
  gapTimer := some 4000
  gapNote := .both

/-- R100: an output de-energised and unchecked. -/
def freshOutput : Output where
  requested := false
  energised := false
  blanking := none
  checked := false
  lowCount := 0

/-- R134: the ROLLOVER record at its defaults. -/
def freshRollover : Rollover where
  state := .off
  raw := none
  filtered := 0
  threshold := 450
  alertLevel := 337
  axle := none
  inner := none
  testResult := .noResult
  pTest := 60
  pRoll := 450
  aEmpty := 450
  aLaden := 300
  slipLift := 307
  interventions := 0
  tests := 0
  level := 0
  testTimer := none
  spacingTimer := none
  minTimer := none
  rampTimer := none
  calm := 0
  degradedSeen := false

/-- R29: an input's hold value and fault filter after either reset. -/
def freshInput : AnalogInput := ⟨0, false, 0⟩

/-- R29: the Analog Scan Unit after either reset, the scan timer stopped. -/
def freshAnalog : Analog where
  scanTimer := none
  demand := freshInput
  reservoir := freshInput
  delivered := Vector.replicate 4 freshInput
  bellows := Vector.replicate 4 freshInput

/-- R47: the Speed Capture Unit after either reset, the window timer stopped. -/
def freshCapture : Capture := ⟨0, none, .seeking, 0⟩

/-- R68. -/
def freshLoadUnit : LoadUnit := ⟨.live, 0⟩

/-- R68. -/
def freshLift : LiftController := ⟨none, none, 0⟩

/-- A fault instance neither present nor latched. -/
def clearMark : FaultMark := ⟨false, false⟩

/-- R180: after either reset the fault set is clear. -/
def clearFaults : FaultSet where
  valveOpen := Vector.replicate 13 clearMark
  valveShort := Vector.replicate 13 clearMark
  delivered := Vector.replicate 4 clearMark
  demand := clearMark
  reservoir := clearMark
  bellows := Vector.replicate 4 clearMark
  speed := Vector.replicate 8 clearMark
  supplyWait := Vector.replicate 4 clearMark
  lift := clearMark
  supplyLow := clearMark
  jam := clearMark
  linkFrame := clearMark

/-- R148: the Telegram Receiver after either reset, with the line at the given level. -/
def freshReceiver (spacing : Bool) : Receiver where
  spacing := spacing
  armed := false
  startPending := false
  character := none
  jam := false
  jamTimer := none
  markTimer := none
  gapTimer := none
  collected := []

/-- R148: the candidate list empty, the aging timer stopped. -/
def freshSupervisor : Supervisor := ⟨[], none, 0⟩

/-- R171: the reset response. -/
def resetResponse : Response := ⟨.noResult, 0, 0, Vector.replicate 8 0⟩

/-- R166: data out driven high throughout. -/
def allOnes : Vector Word 10 := Vector.replicate 10 0xFFFF

/-- R171: the Record Link after either reset, with SELECT as given. -/
def freshLink (select : Select) : Link where
  select := select
  dataOut := allOnes
  dataRest := 0xFFFF
  response := resetResponse
  cursorTable := .device
  cursorIndex := 0
  faultPending := false
  rolloverPending := false
  candidatePending := false

/-- R17, R180: the DEVICE record at its defaults, for the pins as given. -/
def freshDevice (layout : BitVec 2) (supplyFail resetLow failsafe : Bool) : Device where
  state := .init
  layout := layout
  supplyFail := supplyFail
  resetLow := resetLow
  failsafe := failsafe
  initTimer := none
  faultMask := 0
  restarted := true
  attentionEnable := 0x3F
  demand := 0
  reservoir := 0
  valveSupply := 0
  braking := false
  dMin := 20
  referenceSpeed := 0
  referenceLost := false
  fTot := 0
  supplyOn := 450
  stopOnValveFault := false
  changeoverGap := 4
  blankingTime := 6
  slipRel := 205
  divisor := 26
  parity := .noParity
  parityErrors := 0
  framingErrors := 0
  breakErrors := 0
  gapDiscards := 0
  checkDiscards := 0
  rangeDiscards := 0
  telegramsAccepted := 0
  missingTimeout := 600

/-- R2, R17: the AXLE records after a full reset. -/
def freshAxles (layout : BitVec 2) : Vector Axle 4 :=
  Vector.ofFn fun a => freshAxle (axleExists layout a)

/-- R2, R17: the WHEEL records after a full reset. -/
def freshWheels (layout : BitVec 2) : Vector Wheel 8 :=
  Vector.ofFn fun w => freshWheel (axleExists layout (axleOfWheel w)) (channelOfWheel layout w)

/-- R3, R17: the TYRE records after a full reset; every TWIN holds 1. -/
def freshTyres (layout : BitVec 2) : Vector Tyre 16 :=
  Vector.ofFn fun p => freshTyre (axleExists layout (axleOfTyre p))

/-- R2, R17: the CHANNEL records after a full reset. -/
def freshChannels (layout : BitVec 2) : Vector Channel 4 :=
  Vector.ofFn fun c =>
    freshChannel (channelExists layout c) (channelSide layout c) (groupFirst layout c)
      (groupLast layout c)

end Sys2Proof.Machine
end

