-- ==== Sys2Proof/Machine/Operands.lean ====
section
/-! DEFINITION. The computations of the manual, each over plain quantities: conversions, filters, loads,
gains, speeds, slips, thresholds, tyre levels, and the codes of the enumerated fields. -/

namespace Sys2Proof.Machine

/-- "Clamped to a range": the nearer end of the range outside it (Arithmetic, chapter 0). -/
def clampNat (lo hi v : Nat) : Nat := max lo (min hi v)

/-- As `clampNat`, for signed quantities. -/
def clampInt (lo hi v : Int) : Int := max lo (min hi v)

/-! ### Pressure and supply inputs -/

/-- R20: the band and conversion of a pressure reading; `none` is out of range. -/
def pressureOfRaw (r : Raw) : Option Nat :=
  if r.toNat ≤ 50 then none
  else if r.toNat ≤ 101 then some 0
  else if r.toNat ≤ 921 then some ((r.toNat - 102) * 1000 / 819)
  else if r.toNat ≤ 972 then some 1000
  else none

/-- R21, R22: an input's hold value, fault state and streak after a scan's reading. -/
def AnalogInput.next (i : AnalogInput) (r : Raw) : AnalogInput :=
  match pressureOfRaw r, i.fault with
  | none, false =>
    if 3 ≤ i.streak + 1 then ⟨i.hold, true, 0⟩ else ⟨i.hold, false, i.streak + 1⟩
  | some p, false => ⟨p, false, 0⟩
  | some p, true => if 3 ≤ i.streak + 1 then ⟨p, false, 0⟩ else ⟨p, true, i.streak + 1⟩
  | none, true => ⟨i.hold, true, 0⟩

/-- R27: the valve supply in mV. -/
def supplyOfRaw (r : Raw) : Nat := r.toNat * 32

/-- R27: VALVE_SUPPLY_LOW after a scan, from the condition before and the supply just written. -/
def supplyLowAfter (before : Bool) (mv : Nat) : Bool :=
  if before then decide (mv < 19000) else decide (mv < 18000)

/-! ### Wheel speed -/

/-- The time in µs from one timestamp to a later one, modulo 2³² (section 3.1). -/
def span (earlier later : Stamp) : Nat := (later - earlier).toNat

/-- circumference × 100000 / (teeth × span), truncated. For a span of 0, which R33 and R34 leave without
a value, the quotient is free (log entry 4). -/
def spanQuotient (circumference teeth s : Nat) : Nat :=
  if s = 0 then Config.zeroSpanQuotient (circumference * 100000)
  else circumference * 100000 / (teeth * s)

/-- The speed of a wheel-end at a window end and its last-edge time afterwards (R32, R33, R34). -/
def windowSpeed (w : Wheel) (now : Stamp) : Nat × Option Stamp :=
  if 2 ≤ w.edgeCount then
    (min 6000 (w.circumference * 100000 * (w.edgeCount - 1) /
        (w.teeth * max 1 (span w.firstEdge w.lastEdge))),
      some w.lastEdge)
  else if w.edgeCount = 1 then
    match w.lastEdgeTime with
    | some t => (min 6000 (spanQuotient w.circumference w.teeth (span t w.lastEdge)), some w.lastEdge)
    | none => (0, some w.lastEdge)
  else
    match w.lastEdgeTime with
    | none => (0, none)
    | some t =>
      if 250000 ≤ span t now then (0, none)
      else (min 6000 (min w.speed (spanQuotient w.circumference w.teeth (span t now))), some t)

/-- R35: the deceleration of a wheel-end over a window, in cm/s². -/
def decelerationOf (previous new : Nat) : Int :=
  clampInt (-2000) 2000 (((previous : Int) - (new : Int)) * 100)

/-- R38: the no-signal condition and its count after a window end. -/
def noSignalNext (established : Bool) (count speed : Nat) (bearing : Bool) (reference : Nat) :
    Bool × Nat :=
  if established then
    if 0 < speed then (if 100 ≤ count + 1 then (false, 0) else (true, count + 1)) else (true, 0)
  else
    if speed = 0 ∧ bearing = true ∧ 278 ≤ reference then
      (if 200 ≤ count + 1 then (true, 0) else (false, count + 1))
    else (false, 0)

/-- R37: the sensor state, by the first row that holds. -/
def sensorStateOf (enabled lineOpen noSignal masked : Bool) : SensorState :=
  if !enabled then .disabled
  else if lineOpen && !masked then .openLine
  else if noSignal && !masked then .noSignal
  else .ok

/-- The reference speed's state: value, mode, window ends without a valid wheel-end, REFERENCE_LOST. -/
structure Reference where
  speed : Nat
  mode  : ReferenceMode
  count : Nat
  lost  : Bool
  deriving DecidableEq, Repr

/-- R44, R45: the reference speed after a window end; `candidate` is the largest speed among the valid
wheel-ends, if there is one. -/
def Reference.next (r : Reference) (candidate : Option Nat) : Reference :=
  match candidate, r.mode with
  | some v, .seeking => ⟨v, .tracking, 0, false⟩
  | some v, .tracking => ⟨max (r.speed - 12) (min (r.speed + 15) v), .tracking, 0, false⟩
  | some v, .holding => ⟨max (r.speed - 12) (min (r.speed + 15) v), .tracking, 0, false⟩
  | none, .tracking => ⟨r.speed, .holding, 1, false⟩
  | none, .holding =>
    if 50 ≤ r.count + 1 then ⟨0, .seeking, 0, true⟩ else ⟨r.speed, .holding, r.count + 1, false⟩
  | none, .seeking => ⟨0, .seeking, 0, r.lost⟩

/-! ### Axle load -/

/-- R49: one step of the bellows filter toward its input. -/
def filterStep (filtered input : Nat) : Nat :=
  ((filtered : Int) + ((input : Int) - (filtered : Int)).tdiv 8).toNat

/-- R52 case 3: the load between two points of the curve. -/
def CurvePoint.interpolate (p q : CurvePoint) (b : Nat) : Nat :=
  ((p.load : Int) + (((q.load : Int) - (p.load : Int)) * ((b : Int) - (p.bellows : Int))).tdiv
    ((q.bellows : Int) - (p.bellows : Int))).toNat

/-- R52 case 3: the load on the lowest segment whose bellows pressures enclose `b`. -/
def segmentLoad : List CurvePoint → Nat → Nat
  | p :: q :: rest, b =>
    if p.bellows ≤ b ∧ b < q.bellows then p.interpolate q b else segmentLoad (q :: rest) b
  | [p], _ => p.load
  | [], _ => 0

/-- R52: the load a curve gives for a filtered bellows pressure. -/
def curveLoad (curve : List CurvePoint) (b : Nat) : Nat :=
  match curve with
  | [] => 0
  | p :: rest =>
    let last := (p :: rest).getLastD p
    if b ≤ p.bellows then p.load
    else if last.bellows ≤ b then last.load
    else segmentLoad (p :: rest) b

/-- R53, R54: (load − low) × 1024 / (high − low), truncated and clamped to 0 to 1024; 0 when the
denominator is 0 or negative. -/
def loadFractionOf (load low high : Nat) : Nat :=
  if high ≤ low then 0
  else (clampInt 0 1024 ((((load : Int) - (low : Int)) * 1024).tdiv ((high : Int) - (low : Int)))).toNat

/-- R13: a curve after an amendment of its point count. -/
def resizeCurve (curve : List CurvePoint) (n : Nat) : List CurvePoint :=
  curve.take n ++ List.replicate (n - curve.length) (curve.getLastD ⟨0, 0⟩)

/-! ### Brake pressure -/

/-- R73: the gain of a channel. -/
def gainOf (gEmpty gLaden fraction : Nat) : Nat :=
  ((gEmpty : Int) + ((((gLaden : Int) - (gEmpty : Int)) * (fraction : Int) + 512).tdiv 1024)).toNat

/-- R74, R75: the service target of a channel whose gate is open. -/
def targetOf (demand gain pLim : Nat) : Nat := min ((demand * gain + 512) / 1024) pLim

/-- R80 step 2: the cap acts in these anti-lock states. -/
def AntiLockState.capped : AntiLockState → Bool
  | .release | .hold | .reapply => true
  | .off | .follow => false

/-- R80 step 1: the uncapped request U. -/
def Channel.uncapped (c : Channel) : Nat := max c.target c.rolloverRequest

/-- R80 step 2: U, or the smaller of U and the cap where the cap acts. -/
def Channel.capApplied (c : Channel) : Nat :=
  if c.antiLock.capped then min c.uncapped (c.cap.getD 0) else c.uncapped

/-- R80 step 3: the commanded pressure. -/
def Channel.command (c : Channel) : Nat := min c.capApplied c.pLim

/-- R80: the winning source, by the first row that applies. -/
def Channel.arbiterSource (c : Channel) : WinningSource :=
  if c.antiLock.capped = true ∧ c.cap.getD 0 < c.uncapped then .antilock
  else if c.command = 0 then .noSource
  else if c.target < c.rolloverRequest then .rollover
  else .service

/-- R79, R80: the arbiter forms the command and the winning source afresh; in EXERCISE the winning source
field shows EXERCISE (section 6.7). -/
def Channel.arbitrate (c : Channel) : Channel :=
  { c with
    commanded := c.command
    winning := if c.state = .exercise then .exercise else c.arbiterSource }

/-- R86: the loop action for a command, a delivered pressure and a band. -/
def loopAction (c p b : Nat) : ValveAction :=
  if c = 0 ∧ b < p then .vent
  else if c = 0 ∧ p ≤ b then .hold
  else if p + b < c then .apply
  else if c + b < p then .vent
  else .hold

/-- The valve action that drives an exercise (R98). -/
def ExerciseAction.valve : ExerciseAction → ValveAction
  | .apply => .apply
  | .hold => .hold
  | .vent => .vent

/-! ### Anti-lock control -/

/-- R102, R126: the slip of a wheel-end against a reference. -/
def slipOf (v speed : Nat) : Nat := if v ≤ speed then 0 else (v - speed) * 1024 / v

/-- R104: the release condition. -/
def releaseCondition (slipRel slip : Nat) (decel : Int) : Bool :=
  decide (slipRel ≤ slip) || (decide (1500 ≤ decel) && decide (51 ≤ slip))

/-- R104: the recovery condition. -/
def recoveryCondition (slipRel slip : Nat) (decel : Int) : Bool :=
  decide (slip < slipRel / 2) || decide (decel ≤ -300)

/-- R104: the wish of a valid wheel-end at a reference of 150 or more. -/
def wishAfter (before : Wish) (slipRel slip : Nat) (decel : Int) : Wish :=
  if releaseCondition slipRel slip decel then .release
  else
    match before with
    | .free => .free
    | .release => if recoveryCondition slipRel slip decel then .hold else .release
    | .hold => if slip < 51 then .free else .hold

/-! ### Rollover -/

/-- R119: the raw lateral acceleration. -/
def lateralRaw (v left right width : Nat) : Int :=
  clampInt (-2000) 2000 (((v : Int) * ((left : Int) - (right : Int))).tdiv (width : Int))

/-- R120: one step of the lateral filter. -/
def lateralFilter (filtered raw : Int) : Int := filtered + (raw - filtered).tdiv 4

/-- R121: the tipping threshold before the outer-tyre cut. -/
def thresholdOf (aEmpty aLaden fTot : Nat) : Nat :=
  ((aEmpty : Int) - ((((aEmpty : Int) - (aLaden : Int)) * (fTot : Int) + 512).tdiv 1024)).toNat

/-- R122: the threshold after the outer-tyre cut. -/
def thresholdCut (t : Nat) : Nat := t - t / 8

/-- R122: the alert level of a threshold. -/
def alertOf (t : Nat) : Nat := t * 3 / 4

/-- R125: the inner side is opposite the outer side, which the sign of a_f names; a_f = 0, which no
alert level of the settings' ranges admits, leaves it as it was (log entry 21). -/
def innerSide (filtered : Int) (before : Option Side) : Option Side :=
  if 0 < filtered then some .right else if filtered < 0 then some .left else before

/-! ### Tyres -/

/-- R135: the character time in µs: 10 bit times without parity, 11 with it. -/
def characterTime (divisor : Nat) (parity : Parity) : Nat :=
  match parity with
  | .noParity => 10 * (4 * divisor)
  | .odd => 11 * (4 * divisor)
  | .even => 11 * (4 * divisor)

/-- A valid telegram as it is handed over (R141). -/
structure Arrival where
  id          : SensorId
  pAbs        : Nat
  /-- The temperature byte, °C + 50. -/
  temperature : Nat
  flags       : TelegramFlags
  time        : Nat
  deriving DecidableEq, Repr

/-- R142: the gauge pressure. -/
def Arrival.gauge (a : Arrival) : Nat := a.pAbs - 101

/-- R156 step 1: the pressure normalised to 20 °C, floored at 0. T + 273 is the byte + 223. -/
def Arrival.p20 (a : Arrival) : Nat :=
  (a.pAbs * 293 + (a.temperature + 223) / 2) / (a.temperature + 223) - 101

/-- R156: T in °C. -/
def Arrival.celsius (a : Arrival) : Int := (a.temperature : Int) - 50

/-- R157: the level by the three thresholds, each raised by `margin`. -/
def levelAt (nominal margin p20 : Nat) : AlarmLevel :=
  if p20 < max 100 (nominal / 2) + margin then .flat
  else if p20 < nominal * 4 / 5 + margin then .lowAlarm
  else if p20 < nominal * 9 / 10 + margin then .lowWarn
  else .noAlarm

/-- R157: the order of severity. -/
def AlarmLevel.severity : AlarmLevel → Nat
  | .noAlarm => 0
  | .lowWarn => 1
  | .lowAlarm => 2
  | .flat => 3

/-- R157: the alarm level after an update. -/
def levelAfter (before : AlarmLevel) (nominal p20 : Nat) : AlarmLevel :=
  if before.severity < (levelAt nominal 0 p20).severity then levelAt nominal 0 p20
  else if (levelAt nominal 10 p20).severity < before.severity then levelAt nominal 10 p20
  else before

/-- R157: HIGH after an update. -/
def highAfter (before : Bool) (nominal p20 : Nat) : Bool :=
  if nominal * 5 / 4 < p20 then true
  else if p20 + 10 ≤ nominal * 5 / 4 then false
  else before

/-- R157: HOT after an update. -/
def hotAfter (before : Bool) (celsius : Int) : Bool :=
  if 115 ≤ celsius then true else if celsius ≤ 105 then false else before

/-- R157: RAPID after an update. -/
def rapidAfter (before : Bool) (history : Option RateHistory) (p20 time : Nat) : Bool :=
  match history with
  | none => before
  | some h =>
    if time - h.time ≤ 120000 then
      let rate := (((h.p20 : Int) - (p20 : Int)) * 60000).tdiv ((max 1 (time - h.time) : Nat) : Int)
      if 30 ≤ rate then true else if rate < 10 then false else before
    else before

/-! ### Codes of the enumerated fields -/

/-- DEVICE field 0; INIT is not readable and shows as STANDBY's code (section 12.4). -/
def DeviceState.code : DeviceState → Nat
  | .init => 0 | .standby => 0 | .active => 1 | .waitRelease => 2

/-- AXLE field 3. -/
def LoadState.code : LoadState → Nat
  | .live => 0 | .held => 1

/-- AXLE field 14. -/
def LiftState.code : LiftState → Nat
  | .notLiftable => 0 | .down => 1 | .raising => 2 | .up => 3 | .lowering => 4

/-- AXLE field 15. -/
def LiftMode.code : LiftMode → Nat
  | .auto => 0 | .manualUp => 1 | .manualDown => 2

/-- R59: the lift mode of a code. -/
def LiftMode.ofCode : Nat → LiftMode
  | 0 => .auto
  | 1 => .manualUp
  | _ => .manualDown

/-- WHEEL field 6. -/
def SensorState.code : SensorState → Nat
  | .ok => 0 | .noSignal => 1 | .openLine => 2 | .disabled => 3

/-- CHANNEL field 1. -/
def ChannelSide.code : ChannelSide → Nat
  | .left => 0 | .right => 1 | .both => 2

/-- ROLLOVER field 6. -/
def Side.code : Side → Nat
  | .left => 0 | .right => 1

/-- CHANNEL field 4. -/
def ControllerState.code : ControllerState → Nat
  | .off => 0 | .electronic => 1 | .supplyWait => 2 | .exercise => 3 | .fallback => 4

/-- CHANNEL field 5. -/
def FallbackReason.code : FallbackReason → Nat
  | .noReason => 0 | .fault => 1 | .failsafe => 2 | .supplyVoltage => 3 | .demandSensor => 4
  | .notActive => 5

/-- CHANNEL field 6. -/
def ValveAction.code : ValveAction → Nat
  | .apply => 0 | .hold => 1 | .vent => 2 | .allOff => 3

/-- CHANNEL field 7. -/
def WinningSource.code : WinningSource → Nat
  | .noSource => 0 | .service => 1 | .rollover => 2 | .antilock => 3 | .exercise => 4

/-- CHANNEL field 19. -/
def ExerciseAction.code : ExerciseAction → Nat
  | .apply => 0 | .hold => 1 | .vent => 2

/-- CHANNEL field 20. -/
def ExerciseEnd.code : ExerciseEnd → Nat
  | .noEnd => 0 | .expired => 1 | .braking => 2 | .moving => 3 | .standby => 4 | .fallback => 5

/-- WHEEL field 18. -/
def Wish.code : Wish → Nat
  | .free => 0 | .release => 1 | .hold => 2

/-- CHANNEL field 24. -/
def AntiLockPolicy.code : AntiLockPolicy → Nat
  | .selectLow => 0 | .selectHigh => 1

/-- CHANNEL field 25. -/
def AntiLockState.code : AntiLockState → Nat
  | .off => 0 | .follow => 1 | .release => 2 | .hold => 3 | .reapply => 4

/-- ROLLOVER field 0. -/
def RolloverState.code : RolloverState → Nat
  | .off => 0 | .monitor => 1 | .alert => 2 | .test => 3 | .intervene => 4 | .recover => 5
  | .degraded => 6

/-- ROLLOVER field 7. -/
def TestResult.code : TestResult → Nat
  | .noResult => 0 | .noLift => 1 | .lift => 2

/-- DEVICE field 22. -/
def Parity.code : Parity → Nat
  | .noParity => 0 | .odd => 1 | .even => 2

/-- R137: the parity of a code. -/
def Parity.ofCode : Nat → Parity
  | 0 => .noParity
  | 1 => .odd
  | _ => .even

/-- TYRE field 2. -/
def TyreState.code : TyreState → Nat
  | .unpaired => 0 | .learning => 1 | .live => 2 | .missing => 3

/-- TYRE field 17. -/
def LearnResult.code : LearnResult → Nat
  | .noResult => 0 | .success => 1 | .timeout => 2 | .cancelled => 3

/-- The result codes of section 11.5. -/
def Result.code : Result → Nat
  | .noResult => 0 | .done => 1 | .doneClamped => 2 | .refusedFrame => 3 | .refusedState => 4
  | .refusedAbsent => 5 | .refusedRange => 6 | .refusedBusy => 7 | .refusedDuplicate => 8
  | .refusedConfig => 9

/-- The table ids of section 1.3. -/
def TableId.code : TableId → Nat
  | .device => 0 | .axle => 1 | .wheel => 2 | .tyre => 3 | .channel => 4 | .candidate => 5
  | .rollover => 6

/-- The table of an id; 7 is none (R5). -/
def TableId.ofCode (code : BitVec 3) : Option TableId :=
  match code.toNat with
  | 0 => some .device
  | 1 => some .axle
  | 2 => some .wheel
  | 3 => some .tyre
  | 4 => some .channel
  | 5 => some .candidate
  | 6 => some .rollover
  | _ => none

/-- How many indices a table's range holds (section 1.3). -/
def TableId.size : TableId → Nat
  | .device => 1 | .axle => 4 | .wheel => 8 | .tyre => 16 | .channel => 4 | .candidate => 8
  | .rollover => 1

end Sys2Proof.Machine
end

