-- ==== Sys2Proof/Machine/State.lean ====
section
/-! DEFINITION. The machine's state, the reasons a step can stop, and the state after reset. -/

namespace Sys2Proof.Machine

/-- Everything the manual gives the part, and the queue of the commands that are waiting. -/
structure State where
  /-- The commands that are waiting, first in, first out. -/
  pending    : List Instr
  device     : Device
  faults     : FaultSet
  analog     : Analog
  capture    : Capture
  loadUnit   : LoadUnit
  lift       : LiftController
  axles      : Vector Axle 4
  wheels     : Vector Wheel 8
  tyres      : Vector Tyre 16
  channels   : Vector Channel 4
  outputs    : Vector Output 13
  rollover   : Rollover
  receiver   : Receiver
  supervisor : Supervisor
  link       : Link
  deriving DecidableEq, Repr

/-- The reasons a step can fault: none. The manual gives every command an effect in every state, so no
meaning of this model faults (safe: nothing is cut off). -/
inductive Fault where
  deriving DecidableEq, Repr

/-- The reasons a step can be refused. -/
inductive Refusal where
  /-- A command without a meaning yet, raised by its arm of exec alone (safe). No arm raises it now. -/
  | notModelled (mnemonic : String)
  deriving DecidableEq, Repr

/-- The machine right after a full reset, at the start of INIT (R17, R172, R180), with every pin at the
level its pull gives it: LAYOUT straps open and so read as 0 (section 1.1), FAILSAFE and RESET high, the
receive line marking, SELECT high (log entry 3). -/
def State.reset : State where
  pending := []
  device := { freshDevice 0 false false false with initTimer := some initTime }
  faults := clearFaults
  analog := { freshAnalog with scanTimer := some scanPeriod }
  capture := { freshCapture with windowTimer := some windowPeriod }
  loadUnit := freshLoadUnit
  lift := freshLift
  axles := freshAxles 0
  wheels := freshWheels 0
  tyres := freshTyres 0
  channels := freshChannels 0
  outputs := Vector.replicate 13 freshOutput
  rollover := freshRollover
  receiver := freshReceiver false
  supervisor := { freshSupervisor with agingTimer := some agingPeriod }
  link := freshLink .high

end Sys2Proof.Machine
end

