-- ==== Sys2Proof/Machine/Flags.lean ====
section
/-! DEFINITION. The conditions the manual reads off the state: what is down, what is faulty, which outputs
may be energised, which fallback reason holds, which attention source is pending, and the status word. -/

namespace Sys2Proof.Machine

/-- R41: an axle is down in the lift states DOWN and NOT_LIFTABLE. -/
def LiftState.isDown : LiftState → Bool
  | .down | .notLiftable => true
  | .raising | .up | .lowering => false

/-- R2, R41: an existing axle that is down. -/
def axleDown (s : State) (a : Fin 4) : Bool := s.axles[a].present && s.axles[a].liftState.isDown

/-- R180: some cause holds the part in full reset. -/
def held (s : State) : Bool := s.device.supplyFail || s.device.resetLow

/-- R166, R180: the link serves transactions. -/
def linkServes (s : State) : Bool := !held s && s.device.state != .init

/-- R107, R116: the device is ACTIVE or WAIT_RELEASE. -/
def inControl (s : State) : Bool := s.device.state == .active || s.device.state == .waitRelease

/-! ### Faults -/

/-- The bit of an instance's kind (table of section 12.2). -/
def FaultId.bit : FaultId → Nat
  | .valveOpen _ => 0
  | .valveShort _ => 1
  | .delivered _ => 2
  | .demand => 3
  | .reservoir => 4
  | .bellows _ => 5
  | .speed _ => 6
  | .supplyWait _ => 7
  | .lift => 8
  | .supplyLow => 9
  | .jam => 10
  | .linkFrame => 11

/-- Whether a kind is latched (table of section 12.2). -/
def FaultId.isLatched : FaultId → Bool
  | .supplyLow | .jam => false
  | .valveOpen _ | .valveShort _ | .delivered _ | .demand | .reservoir | .bellows _ | .speed _
  | .supplyWait _ | .lift | .linkFrame => true

/-- The mark of an instance. -/
def FaultSet.get (f : FaultSet) : FaultId → FaultMark
  | .valveOpen o => f.valveOpen[o]
  | .valveShort o => f.valveShort[o]
  | .delivered c => f.delivered[c]
  | .demand => f.demand
  | .reservoir => f.reservoir
  | .bellows a => f.bellows[a]
  | .speed w => f.speed[w]
  | .supplyWait c => f.supplyWait[c]
  | .lift => f.lift
  | .supplyLow => f.supplyLow
  | .jam => f.jam
  | .linkFrame => f.linkFrame

/-- The fault set with one instance's mark replaced. -/
def FaultSet.set (f : FaultSet) (m : FaultMark) : FaultId → FaultSet
  | .valveOpen o => { f with valveOpen := f.valveOpen.set o m }
  | .valveShort o => { f with valveShort := f.valveShort.set o m }
  | .delivered c => { f with delivered := f.delivered.set c m }
  | .demand => { f with demand := m }
  | .reservoir => { f with reservoir := m }
  | .bellows a => { f with bellows := f.bellows.set a m }
  | .speed w => { f with speed := f.speed.set w m }
  | .supplyWait c => { f with supplyWait := f.supplyWait.set c m }
  | .lift => { f with lift := m }
  | .supplyLow => { f with supplyLow := m }
  | .jam => { f with jam := m }
  | .linkFrame => { f with linkFrame := m }

/-- R177: the mask bit of an instance's kind. -/
def masked (s : State) (f : FaultId) : Bool := s.device.faultMask.getLsbD f.bit

/-- An instance is present or latched. -/
def faulty (s : State) (f : FaultId) : Bool :=
  (s.faults.get f).present || (s.faults.get f).latched

/-- VALVE_SUPPLY_LOW is present (R28). -/
def supplyLow (s : State) : Bool := s.faults.supplyLow.present

/-- R51: an axle's bellows fault. -/
def bellowsFaulty (s : State) (a : Fin 4) : Bool := faulty s (.bellows a)

/-- A VALVE_OPEN or VALVE_SHORT of an output, present or latched. -/
def outputFaulty (s : State) (o : Fin 13) : Bool :=
  faulty s (.valveOpen o) || faulty s (.valveShort o)

/-- A valve fault of a channel's inlet, exhaust or backup output (R83). -/
def channelValveFault (s : State) (c : Fin 4) : Bool :=
  outputFaulty s (inletOf c) || outputFaulty s (exhaustOf c) || outputFaulty s (backupOf c)

/-- A valve fault of any existing channel (R83). -/
def anyValveFault (s : State) : Bool :=
  (List.finRange 4).any fun c => s.channels[c].present && channelValveFault s c

/-- R83: the fallback reason of a channel, the first that holds. -/
def fallbackReason (s : State) (c : Fin 4) : FallbackReason :=
  if !inControl s then .notActive
  else if s.device.failsafe then .failsafe
  else if supplyLow s then .supplyVoltage
  else if faulty s .demand then .demandSensor
  else if faulty s (.delivered c) || channelValveFault s c
      || (s.device.stopOnValveFault && anyValveFault s) then .fault
  else .noReason

/-! ### Outputs -/

/-- R91: the part may energise outputs at all. -/
def outputsEnabled (s : State) : Bool := inControl s && !s.device.failsafe && !supplyLow s

/-- R91: the output's channel exists, or the output is the lift output. -/
def outputExists (s : State) (o : Fin 13) : Bool :=
  if h : o.val < 12 then (s.channels[o.val % 4]'(by omega)).present else true

/-- R91 without the lockout of R92: an output requested on may be energised. -/
def outputAllowed (s : State) (o : Fin 13) : Bool :=
  outputsEnabled s && outputExists s o && !s.faults.valveShort[o].latched

/-- R92: the changeover gap leaves the inlet free. -/
def gapFreesInlet (c : Channel) : Bool := c.gapTimer == none || c.gapNote == .inlet

/-- R92: the changeover gap leaves the exhaust free. -/
def gapFreesExhaust (c : Channel) : Bool := c.gapTimer == none || c.gapNote == .exhaust

/-! ### The lift axle -/

/-- The liftable axle: the existing axle whose LIFTABLE field holds 1 (section 4.6). -/
def liftAxle (s : State) : Option (Fin 4) :=
  (List.finRange 4).find? fun a => s.axles[a].present && s.axles[a].liftable

/-- The Rollover Monitor's state is ALERT, TEST, INTERVENE or RECOVER. -/
def RolloverState.alarmed : RolloverState → Bool
  | .alert | .test | .intervene | .recover => true
  | .off | .monitor | .degraded => false

/-- What lowers a raised axle and stops a raise alike (R62, R63), braking and load apart. -/
def liftForbidden (s : State) (a : Fin 4) : Bool :=
  s.device.state != .active || s.device.failsafe || supplyLow s || bellowsFaulty s a
    || outputFaulty s liftOutput

/-- R61: the raise conditions, with the light count as it stands. -/
def mayRaise (s : State) (a : Fin 4) : Bool :=
  !liftForbidden s a && !s.device.braking && !s.rollover.state.alarmed
    && (s.axles[a].liftMode == .manualUp
      || (s.axles[a].liftMode == .auto && decide (2000 ≤ s.lift.lightCount)))

/-- R62: the raise inhibitors. -/
def raiseInhibited (s : State) (a : Fin 4) : Bool :=
  liftForbidden s a || s.device.braking || s.axles[a].liftMode == .manualDown

/-- R63: a raised axle is overloaded. -/
def overloaded (s : State) (a : Fin 4) : Bool := decide (s.axles[a].fLower ≤ s.device.fTot)

/-- R63: the causes that lower a raised axle. -/
def mustLower (s : State) (a : Fin 4) : Bool :=
  liftForbidden s a || s.axles[a].liftMode == .manualDown || overloaded s a
    || s.rollover.state.alarmed

/-- Section 4.5: the monitor is in INTERVENE or RECOVER. -/
def RolloverState.intervening : RolloverState → Bool
  | .intervene | .recover => true
  | .off | .monitor | .alert | .test | .degraded => false

/-! ### Wheel-ends -/

/-- R42: the speed-suspect flag of a wheel-end, from its tyres' alarm levels. -/
def speedSuspect (s : State) (w : Fin 8) : Bool :=
  s.tyres[outerTyre w].level == .flat
    && (!s.axles[axleOfWheel w].twin || s.tyres[innerTyre w].level == .flat)

/-- R106: the counted wheel-ends of a channel. -/
def countedWheels (s : State) (c : Fin 4) : List (Fin 8) :=
  (List.finRange 8).filter fun w =>
    s.wheels[w].present && s.wheels[w].valid && s.wheels[w].channel == c

/-- R106: the selected wish of a channel is RELEASE. -/
def selectsRelease (s : State) (c : Fin 4) : Bool :=
  match s.channels[c].policy with
  | .selectLow => (countedWheels s c).any fun w => s.wheels[w].wish == .release
  | .selectHigh => (countedWheels s c).all fun w => s.wheels[w].wish == .release

/-- R109 row 2: every counted wheel-end has slip below 51. -/
def slipsSettled (s : State) (c : Fin 4) : Bool :=
  (countedWheels s c).all fun w =>
    match s.wheels[w].slip with
    | some x => decide (x < 51)
    | none => false

/-- R107: the run conditions of a channel's anti-lock state machine. -/
def antiLockRuns (s : State) (c : Fin 4) : Bool :=
  inControl s && (s.device.braking || decide (0 < s.channels[c].rolloverRequest))
    && decide (150 ≤ s.device.referenceSpeed) && !(countedWheels s c).isEmpty

/-! ### The Rollover Monitor's inputs -/

/-- R118: the estimating axle. -/
def estimatingAxle (s : State) : Option (Fin 4) :=
  (List.finRange 4).find? fun a =>
    axleDown s a && s.wheels[wheelOf a .left].valid && s.wheels[wheelOf a .right].valid

/-- R117: a DEGRADED condition holds. -/
def degradedCondition (s : State) : Bool :=
  estimatingAxle s == none || faulty s .demand
    || (List.finRange 4).all fun c => !s.channels[c].present || s.channels[c].state == .fallback

/-- R122: some existing tyre on the outer side, on an axle that is down, is at LOW_ALARM or FLAT. -/
def outerTyreSoft (s : State) (outer : Side) : Bool :=
  (List.finRange 16).any fun p =>
    s.tyres[p].present && axleDown s (axleOfTyre p) && sideOfTyre p == outer
      && (s.tyres[p].level == .lowAlarm || s.tyres[p].level == .flat)

/-- R126: an inner wheel-end shows lift. -/
def innerLift (s : State) (inner : Side) : Bool :=
  (List.finRange 8).any fun w =>
    sideOfWheel w == inner && axleDown s (axleOfWheel w) && s.wheels[w].valid
      && (decide (s.rollover.slipLift ≤ slipOf s.device.referenceSpeed s.wheels[w].speed)
        || s.wheels[w].wish == .release)

/-! ### Device state -/

/-- R175: the release conditions. -/
def releaseConditions (s : State) : Bool :=
  ((List.finRange 4).all fun c => !s.channels[c].present ||
      (s.channels[c].commanded == 0 && s.channels[c].state != .exercise))
    && !s.rollover.state.alarmed

/-- R173 reason 2: the bellows pressures are strictly increasing. -/
def curveIncreasing : List CurvePoint → Bool
  | p :: q :: rest => decide (p.bellows < q.bellows) && curveIncreasing (q :: rest)
  | _ => true

/-- R173 reason 3: no point's load is below the load of the point before it. -/
def curveLoadsRising : List CurvePoint → Bool
  | p :: q :: rest => decide (p.load ≤ q.load) && curveLoadsRising (q :: rest)
  | _ => true

/-- R173: the first condition of the completeness check that an AXLE record fails, by its reason. -/
def axleIncomplete (a : Axle) : Option Nat :=
  if a.curve.length < 2 ∨ 6 < a.curve.length then some 1
  else if curveIncreasing a.curve = false then some 2
  else if curveLoadsRising a.curve = false then some 3
  else if a.l1 < a.l0 + 50 then some 4
  else none

/-- R173: the condition of the completeness check that a CHANNEL record fails. -/
def channelIncomplete (c : Channel) : Option Nat := if c.gLaden < c.gEmpty then some 5 else none

/-- R173: the completeness check: the table, index and reason of the first failure. -/
def firstIncomplete (s : State) : Option (TableId × Nat × Nat) :=
  match (List.finRange 4).findSome? fun a =>
      if s.axles[a].present then (axleIncomplete s.axles[a]).map fun r => (TableId.axle, a.val, r)
      else none with
  | some x => some x
  | none =>
    (List.finRange 4).findSome? fun c =>
      if s.channels[c].present then
        (channelIncomplete s.channels[c]).map fun r => (TableId.channel, c.val, r)
      else none

/-! ### Attention and the status word -/

/-- R169: the TYRE source is pending while any TYRE record's change mark is set. -/
def tyreMarked (s : State) : Bool :=
  (List.finRange 16).any fun p => s.tyres[p].present && s.tyres[p].changeMark

/-- R169: the LEARN source is pending while any position has a learning end outstanding. -/
def learnOutstanding (s : State) : Bool :=
  (List.finRange 16).any fun p => s.tyres[p].learnOutstanding

/-- R169: the LOAD source is pending while any AXLE record's change mark is set. -/
def axleMarked (s : State) : Bool :=
  (List.finRange 4).any fun a => s.axles[a].present && s.axles[a].changeMark

/-- DEVICE field 6: the pending sources, in the SET_ATTENTION layout (R170). -/
def attentionPending (s : State) : BitVec 6 :=
  BitVec.ofBool s.link.candidatePending ++ BitVec.ofBool (axleMarked s)
    ++ BitVec.ofBool (learnOutstanding s) ++ BitVec.ofBool (tyreMarked s)
    ++ BitVec.ofBool s.link.rolloverPending ++ BitVec.ofBool s.link.faultPending

/-- The pending enabled sources (R170). -/
def attentionRaised (s : State) : BitVec 6 := attentionPending s &&& s.device.attentionEnable

/-- R170: the ATTENTION output is driven low. -/
def attentionLow (s : State) : Bool := linkServes s && attentionRaised s != 0

/-- R169: the code of the highest-priority pending enabled source, 0 for none. -/
def attentionCode (s : State) : Nat :=
  if (attentionRaised s).getLsbD 0 then 1
  else if (attentionRaised s).getLsbD 1 then 2
  else if (attentionRaised s).getLsbD 2 then 3
  else if (attentionRaised s).getLsbD 3 then 4
  else if (attentionRaised s).getLsbD 4 then 5
  else if (attentionRaised s).getLsbD 5 then 6
  else 0

/-- A word with one bit per fault kind, set where `f` holds of the kind's instances (R176). -/
def kindBits (f : FaultMark → Bool) (x : FaultSet) : Word :=
  BitVec.ofNat 4 0
    ++ BitVec.ofBool (f x.linkFrame) ++ BitVec.ofBool (f x.jam) ++ BitVec.ofBool (f x.supplyLow)
    ++ BitVec.ofBool (f x.lift) ++ BitVec.ofBool (x.supplyWait.toList.any f)
    ++ BitVec.ofBool (x.speed.toList.any f) ++ BitVec.ofBool (x.bellows.toList.any f)
    ++ BitVec.ofBool (f x.reservoir) ++ BitVec.ofBool (f x.demand)
    ++ BitVec.ofBool (x.delivered.toList.any f) ++ BitVec.ofBool (x.valveShort.toList.any f)
    ++ BitVec.ofBool (x.valveOpen.toList.any f)

/-- DEVICE field 2 (R176). -/
def faultsPresent (s : State) : Word := kindBits FaultMark.present s.faults

/-- DEVICE field 3 (R176). -/
def faultsLatched (s : State) : Word := kindBits FaultMark.latched s.faults

/-- DEVICE field 31: one bit per output with a latched VALVE_OPEN or VALVE_SHORT (R176). -/
def valveOutputsLatched (s : State) : Word :=
  (List.finRange 13).foldl
    (fun acc o =>
      if s.faults.valveOpen[o].latched || s.faults.valveShort[o].latched then
        acc ||| BitVec.twoPow 16 o.val
      else acc) 0

/-- The number of existing channels in FALLBACK (section 11.5); OFF channels do not count (R82). -/
def fallbackCount (s : State) : Nat :=
  (List.finRange 4).countP fun c => s.channels[c].present && s.channels[c].state == .fallback

/-- The status word of section 11.5. -/
def statusWord (s : State) : Word :=
  BitVec.ofBool (faultsPresent s != 0 || faultsLatched s != 0)
    ++ BitVec.ofBool (attentionRaised s != 0)
    ++ BitVec.ofNat 2 s.device.state.code
    ++ BitVec.ofNat 4 (attentionCode s)
    ++ BitVec.ofBool s.device.restarted
    ++ BitVec.ofBool s.device.failsafe
    ++ BitVec.ofNat 3 s.rollover.state.code
    ++ BitVec.ofNat 3 (fallbackCount s)

/-- The result word of section 11.5. -/
def resultWord (r : Response) : Word :=
  BitVec.ofNat 4 r.result.code ++ r.kind ++ BitVec.ofNat 1 0 ++ r.index

end Sys2Proof.Machine
end

