-- ==== Sys2Proof/Machine/Ops.lean ====
section
/-! DEFINITION. The named operations over the state that the meanings share: writing records, reporting
faults, driving outputs, falling back, handing requests to the arbiters, the device states and the resets. -/

namespace Sys2Proof.Machine

/-- An operation carried out for every index, in ascending order. -/
def forEach (n : Nat) (f : Fin n → State → State) (s : State) : State :=
  (List.finRange n).foldl (fun s i => f i s) s

/-! ### Records -/

/-- The state with one AXLE record replaced. -/
def State.setAxle (s : State) (a : Fin 4) (x : Axle) : State := { s with axles := s.axles.set a x }

/-- The state with one WHEEL record replaced. -/
def State.setWheel (s : State) (w : Fin 8) (x : Wheel) : State :=
  { s with wheels := s.wheels.set w x }

/-- The state with one TYRE record replaced. -/
def State.setTyre (s : State) (p : Fin 16) (x : Tyre) : State := { s with tyres := s.tyres.set p x }

/-- The state with one CHANNEL record replaced. -/
def State.setChannel (s : State) (c : Fin 4) (x : Channel) : State :=
  { s with channels := s.channels.set c x }

/-- The state with one output replaced. -/
def State.setOutput (s : State) (o : Fin 13) (x : Output) : State :=
  { s with outputs := s.outputs.set o x }

/-- R15: the watched fields of an AXLE record differ; the load state, one for the whole trailer, is marked
by the Load Unit itself. -/
def Axle.watchedDiffer (x y : Axle) : Bool :=
  x.liftState != y.liftState || x.bellowsFault != y.bellowsFault

/-- R15: an AXLE record written by an owner event, its change mark set if a watched field changed. -/
def putAxle (a : Fin 4) (x : Axle) (s : State) : State :=
  s.setAxle a { x with changeMark := x.changeMark || s.axles[a].watchedDiffer x }

/-- R15: the watched fields of a TYRE record differ. -/
def Tyre.watchedDiffer (x y : Tyre) : Bool :=
  x.state != y.state || x.level != y.level || x.high != y.high || x.hot != y.hot
    || x.rapid != y.rapid || x.batteryLow != y.batteryLow || x.learnResult != y.learnResult

/-- R15: a TYRE record written by an owner event, its change mark set if a watched field changed. -/
def putTyre (p : Fin 16) (x : Tyre) (s : State) : State :=
  s.setTyre p { x with changeMark := x.changeMark || s.tyres[p].watchedDiffer x }

/-! ### The fault set -/

/-- R176, R177: a report of an instance's condition. A masked kind's report is taken as absent; a latched
kind that becomes present latches, and raises the FAULT source if its mark was clear. -/
def report (f : FaultId) (condition : Bool) (s : State) : State :=
  let old := s.faults.get f
  let now := condition && !masked s f
  let newly := now && !old.present && f.isLatched
  { s with
    faults := s.faults.set ⟨now, old.latched || newly⟩ f
    link := { s.link with faultPending := s.link.faultPending || (newly && !old.latched) } }

/-! ### Outputs -/

/-- R92: the changeover gap timer that an output's de-energising starts. -/
def startGap (o : Fin 13) (s : State) : State :=
  if h : o.val < 4 then
    s.setChannel ⟨o.val, h⟩ { s.channels[o.val] with
      gapTimer := some (s.device.changeoverGap * 1000), gapNote := .inlet }
  else if h : o.val < 8 then
    s.setChannel ⟨o.val - 4, by omega⟩ { s.channels[o.val - 4] with
      gapTimer := some (s.device.changeoverGap * 1000), gapNote := .exhaust }
  else s

/-- R92, R94: an output that is energised goes off: its coil check ends, its VALVE_OPEN condition is
reported absent, and an inlet or exhaust starts its channel's gap timer. -/
def deenergise (o : Fin 13) (s : State) : State :=
  if s.outputs[o].energised then
    startGap o (report (.valveOpen o) false
      (s.setOutput o { freshOutput with requested := s.outputs[o].requested }))
  else s

/-- R91, R94: an output requested on comes on if it may, and its blanking timer starts. -/
def energise (o : Fin 13) (s : State) : State :=
  if outputAllowed s o && !s.outputs[o].energised then
    s.setOutput o { s.outputs[o] with
      energised := true, blanking := some (s.device.blankingTime * 1000), checked := false, lowCount := 0 }
  else s

/-- R91, R92: a request for an output, noted; a request off is served at once. -/
def noteRequest (o : Fin 13) (on : Bool) (s : State) : State :=
  let t := s.setOutput o { s.outputs[o] with requested := on }
  if on then t else deenergise o t

/-- R92: the inlet comes on if it is requested and the lockout and the changeover gap leave it free;
otherwise the request is held. -/
def serveInlet (c : Fin 4) (s : State) : State :=
  if s.outputs[inletOf c].requested && !s.outputs[exhaustOf c].energised
      && gapFreesInlet s.channels[c] then energise (inletOf c) s else s

/-- R92: the exhaust, as `serveInlet`. -/
def serveExhaust (c : Fin 4) (s : State) : State :=
  if s.outputs[exhaustOf c].requested && !s.outputs[inletOf c].energised
      && gapFreesExhaust s.channels[c] then energise (exhaustOf c) s else s

/-- The backup comes on if it is requested and may (R91). -/
def serveBackup (c : Fin 4) (s : State) : State :=
  if s.outputs[backupOf c].requested then energise (backupOf c) s else s

/-- Section 6.2: a channel's valve action is written and its three solenoids are requested by it. What is
not wanted goes off first; an action that arrives while a held request waits replaces it (R92). -/
def requestAction (c : Fin 4) (action : ValveAction) (s : State) : State :=
  let s := s.setChannel c { s.channels[c] with action := action }
  let s := noteRequest (inletOf c) (action == .apply) s
  let s := noteRequest (exhaustOf c) (action == .vent) s
  let s := noteRequest (backupOf c) (action != .allOff) s
  serveExhaust c (serveInlet c (serveBackup c s))

/-- R58: the lift solenoid is requested on or off. -/
def requestLift (on : Bool) (s : State) : State :=
  let s := noteRequest liftOutput on s
  if on then energise liftOutput s else s

/-- R91: every output that may no longer be energised goes off. -/
def dropDisallowed (s : State) : State :=
  forEach 13 (fun o s => if outputAllowed s o then s else deenergise o s) s

/-! ### Channels -/

/-- R79, R80: the arbiter of a channel forms its command afresh. -/
def arbitrate (c : Fin 4) (s : State) : State := s.setChannel c s.channels[c].arbitrate

/-- R131: a ROLLOVER request is handed to an existing channel's arbiter. -/
def handRequest (v : Nat) (c : Fin 4) (s : State) : State :=
  if s.channels[c].present then
    arbitrate c (s.setChannel c { s.channels[c] with rolloverRequest := v })
  else s

/-- R99: the exercise of a channel, if one runs, is over: timer stopped, action absent, the end recorded. -/
def Channel.endExercise (c : Channel) (how : ExerciseEnd) : Channel :=
  { c with
    exerciseTimer := none
    exerciseAction := none
    lastEnd := if c.state = .exercise then how else c.lastEnd }

/-- R84: a channel enters FALLBACK. -/
def enterFallback (c : Fin 4) (s : State) : State :=
  let s := s.setChannel c ({ s.channels[c].endExercise .fallback with
    state := .fallback, reason := fallbackReason s c, supplyTimer := none } : Channel).arbitrate
  requestAction c .allOff (report (.supplyWait c) false s)

/-- R99: an exercise ends other than by FALLBACK: the channel enters ELECTRONIC, holding. -/
def finishExercise (c : Fin 4) (how : ExerciseEnd) (s : State) : State :=
  requestAction c .hold
    (s.setChannel c ({ s.channels[c].endExercise how with state := .electronic } : Channel).arbitrate)

/-- R83, R84: a channel takes an event that may change which reasons hold. -/
def followReason (c : Fin 4) (s : State) : State :=
  if s.channels[c].present && fallbackReason s c != .noReason then
    match s.channels[c].state with
    | .electronic => enterFallback c s
    | .supplyWait => enterFallback c s
    | .exercise => enterFallback c s
    | .fallback => s.setChannel c { s.channels[c] with reason := fallbackReason s c }
    | .off => s
  else s

/-- R83, R91: the Valve Driver Stage and the Channel Controllers take a change of the conditions that
allow outputs or give fallback reasons, at the event that makes it. -/
def settle (s : State) : State := forEach 4 followReason (dropDisallowed s)

/-! ### The lift axle -/

/-- R62, R63: a raised or rising axle goes to LOWERING. -/
def startLowering (a : Fin 4) (s : State) : State :=
  let s := putAxle a { s.axles[a] with liftState := .lowering } s
  requestLift false
    { s with lift := { s.lift with raiseTimer := none, loweringTimer := some loweringTime } }

/-- R64: the forced lowering demand. -/
def forceLowering (s : State) : State :=
  match liftAxle s with
  | none => s
  | some a =>
    match s.axles[a].liftState with
    | .raising => startLowering a s
    | .up => startLowering a s
    | .notLiftable => s
    | .down => s
    | .lowering => s

/-! ### The device state -/

/-- R174: the device state changes; leaving ACTIVE hands the forced lowering demand, and the channels and
the Valve Driver Stage take the change. -/
def setDeviceState (d : DeviceState) (s : State) : State :=
  let t := { s with device := { s.device with state := d } }
  settle (if s.device.state == .active && d != .active then forceLowering t else t)

/-! ### Resets -/

/-- R166: at a reset a transaction in progress will not be taken. -/
def Select.abandon : Select → Select
  | .high => .high
  | .serving => .unserved
  | .unserved => .unserved

/-- R180: a full reset begins: every block is stopped at its full-reset values. The pins and the causes
that hold the reset are left as they stand. -/
def beginFullReset (s : State) : State where
  pending := s.pending
  device := freshDevice s.device.layout s.device.supplyFail s.device.resetLow s.device.failsafe
  faults := clearFaults
  analog := freshAnalog
  capture := freshCapture
  loadUnit := freshLoadUnit
  lift := freshLift
  axles := freshAxles s.device.layout
  wheels := freshWheels s.device.layout
  tyres := freshTyres s.device.layout
  channels := freshChannels s.device.layout
  outputs := Vector.replicate 13 freshOutput
  rollover := freshRollover
  receiver := freshReceiver s.receiver.spacing
  supervisor := freshSupervisor
  link := freshLink s.link.select.abandon

/-- R1, R2, R3: the straps are sampled, the layout code is stored and existence follows it. The gap timers
go on from the moment the outputs went off (R100). -/
def sampleLayout (straps : BitVec 2) (s : State) : State :=
  { s with
    device := { s.device with layout := straps }
    axles := freshAxles straps
    wheels := freshWheels straps
    tyres := freshTyres straps
    channels := Vector.ofFn fun c =>
      { freshChannel (channelExists straps c) (channelSide straps c) (groupFirst straps c)
          (groupLast straps c) with gapTimer := s.channels[c].gapTimer } }

/-- R138: the jam time, 32 character times. -/
def jamTime (s : State) : Nat := 32 * characterTime s.device.divisor s.device.parity

/-- R172: INIT begins: the INIT, scan, window and aging timers start, and the jam timer if the receive
line is spacing (R148). -/
def startInit (s : State) : State :=
  { s with
    device := { s.device with state := .init, restarted := true, initTimer := some initTime }
    analog := { s.analog with scanTimer := some scanPeriod }
    capture := { s.capture with windowTimer := some windowPeriod }
    supervisor := { s.supervisor with agingTimer := some agingPeriod }
    receiver :=
      { s.receiver with jamTimer := if s.receiver.spacing then some (jamTime s) else none } }

/-- R180: when no cause holds the part any longer, the full reset ends and INIT begins. -/
def endFullReset (straps : BitVec 2) (s : State) : State :=
  if held s then s else startInit (sampleLayout straps s)

/-- R180, and the restart column of every DEVICE field table. -/
def Device.restart (d : Device) : Device :=
  { freshDevice d.layout d.supplyFail d.resetLow d.failsafe with
    faultMask := d.faultMask
    attentionEnable := d.attentionEnable
    dMin := d.dMin
    supplyOn := d.supplyOn
    stopOnValveFault := d.stopOnValveFault
    changeoverGap := d.changeoverGap
    blankingTime := d.blankingTime
    slipRel := d.slipRel
    divisor := d.divisor
    parity := d.parity
    missingTimeout := d.missingTimeout }

/-! No block updates the values that a record which does not exist holds, so a restart leaves them as they
stand (R5). -/

/-- R68: an AXLE record at a restart; the liftable axle is LOWERING. -/
def Axle.restart (a : Axle) : Axle :=
  if a.present then { freshAxle true with
    twin := a.twin
    liftable := a.liftable
    l0 := a.l0
    l1 := a.l1
    curve := a.curve
    trackWidth := a.trackWidth
    liftState := if a.liftable then .lowering else .notLiftable
    liftMode := a.liftMode
    fRaise := a.fRaise
    fLower := a.fLower
    bUp := a.bUp
    bDown := a.bDown }
  else a

/-- R47, R114: a WHEEL record at a restart. -/
def Wheel.restart (w : Wheel) : Wheel :=
  if w.present then { freshWheel true w.channel with
    enabled := w.enabled
    teeth := w.teeth
    circumference := w.circumference
    sensorState := if w.enabled then .ok else .disabled }
  else w

/-- R163: a TYRE record at a restart. The LEARN mark is the Record Link's, which clears every one (R171). -/
def Tyre.restart (t : Tyre) : Tyre :=
  if t.present then
    match t.state with
    | .live => { freshTyre true with state := .live, id := t.id, nominal := t.nominal }
    | .missing => { freshTyre true with state := .live, id := t.id, nominal := t.nominal }
    | .learning => { freshTyre true with learnResult := .cancelled, nominal := t.nominal }
    | .unpaired => { freshTyre true with nominal := t.nominal }
  else { t with learnOutstanding := false }

/-- R78, R100, R114: a CHANNEL record at a restart. -/
def Channel.restart (c : Channel) (gapTime : Nat) : Channel :=
  if c.present then { freshChannel true c.side c.groupFirst c.groupLast with
    gEmpty := c.gEmpty
    gLaden := c.gLaden
    pLim := c.pLim
    gain := c.gEmpty
    band := c.band
    policy := c.policy
    gapTimer := some gapTime }
  else c

/-- R134: the ROLLOVER record at a restart. -/
def Rollover.restart (r : Rollover) : Rollover :=
  { freshRollover with
    threshold := r.aEmpty
    alertLevel := alertOf r.aEmpty
    pTest := r.pTest
    pRoll := r.pRoll
    aEmpty := r.aEmpty
    aLaden := r.aLaden
    slipLift := r.slipLift
    interventions := r.interventions
    tests := r.tests }

/-- R180: a restart: every block takes its restart values, and INIT begins at once. After it the liftable
axle is LOWERING with its lowering timer started (R68). -/
def restart (s : State) : State :=
  startInit
    { pending := s.pending
      device := s.device.restart
      faults := clearFaults
      analog := freshAnalog
      capture := freshCapture
      loadUnit := freshLoadUnit
      lift :=
        { freshLift with
          loweringTimer := if (liftAxle s).isSome then some loweringTime else none }
      axles := s.axles.map Axle.restart
      wheels := s.wheels.map Wheel.restart
      tyres := s.tyres.map Tyre.restart
      channels := s.channels.map fun c => c.restart (s.device.changeoverGap * 1000)
      outputs := Vector.replicate 13 freshOutput
      rollover := s.rollover.restart
      receiver := freshReceiver s.receiver.spacing
      supervisor := freshSupervisor
      link := freshLink s.link.select.abandon }

/-! ### Timers -/

/-- R180: while a reset is held no block takes events; otherwise the operation is carried out. -/
def whileRunning (f : State → State) (s : State) : State := if held s then s else f s

end Sys2Proof.Machine
end

