-- ==== Sys2Proof/Machine/Drivers.lean ====
section
/-! DEFINITION. The FAILSAFE line, the short-circuit trip, and the timers of the Valve Driver Stage, the
Lift Controller and the Channel Controllers (chapters 4 and 6). -/

namespace Sys2Proof.Machine

open Host (Outcome)

/-- FAILSAFE_ASSERT (R96, R181): every output goes off, every channel falls back, and the forced lowering
demand is handed. While a reset is held only the line's level is kept (R180). -/
def execFailsafeAssert (s : State) : Outcome State Fault Refusal :=
  .next (whileRunning (fun s => settle (forceLowering s))
    { s with device := { s.device with failsafe := true } })

/-- FAILSAFE_RELEASE (R96): the outputs are free to be requested again. -/
def execFailsafeRelease (s : State) : Outcome State Fault Refusal :=
  .next (whileRunning settle { s with device := { s.device with failsafe := false } })

/-- SHORT_CIRCUIT_TRIP (R95): an energised output goes off at once and VALVE_SHORT is reported; an output
that is off carries no current. -/
def execShortCircuitTrip (o : Fin 13) (s : State) : Outcome State Fault Refusal :=
  .next (whileRunning (fun s =>
    if s.outputs[o].energised then settle (report (.valveShort o) true (deenergise o s)) else s) s)

/-- CHANGEOVER_GAP_EXPIRY (R92): a held request that still stands is served. The gap also passes while a
reset is held (R100; log entry 17). -/
def execChangeoverGapExpiry (c : Fin 4) (s : State) : Outcome State Fault Refusal :=
  .next (if s.channels[c].gapTimer.isSome then
      serveExhaust c (serveInlet c (s.setChannel c { s.channels[c] with gapTimer := none }))
    else s)

/-- BLANKING_TIMER_EXPIRY (R94): an output still energised becomes checked. -/
def execBlankingTimerExpiry (o : Fin 13) (s : State) : Outcome State Fault Refusal :=
  .next (whileRunning (fun s =>
    if s.outputs[o].blanking.isSome then
      s.setOutput o { s.outputs[o] with blanking := none, checked := s.outputs[o].energised }
    else s) s)

/-- RAISE_TIMER_EXPIRY (R62, R66). -/
def execRaiseTimerExpiry (s : State) : Outcome State Fault Refusal :=
  .next (whileRunning (fun s =>
    if s.lift.raiseTimer.isSome then
      let t := { s with lift := { s.lift with raiseTimer := none } }
      match liftAxle s with
      | none => t
      | some a =>
        if s.axles[a].liftState = .raising then report .lift true (startLowering a t) else t
    else s) s)

/-- LOWERING_TIMER_EXPIRY (R65, R66). -/
def execLoweringTimerExpiry (s : State) : Outcome State Fault Refusal :=
  .next (whileRunning (fun s =>
    if s.lift.loweringTimer.isSome then
      let t := { s with lift := { s.lift with loweringTimer := none } }
      match liftAxle s with
      | none => t
      | some a =>
        if s.axles[a].liftState = .lowering then
          let t := putAxle a { s.axles[a] with liftState := .down } t
          if bellowsFaulty s a then t else report .lift true t
        else t
    else s) s)

/-- SUPPLY_TIMER_EXPIRY (R89): the channel keeps holding and its SUPPLY_WAIT fault is reported. -/
def execSupplyTimerExpiry (c : Fin 4) (s : State) : Outcome State Fault Refusal :=
  .next (whileRunning (fun s =>
    if s.channels[c].supplyTimer.isSome then
      let t := s.setChannel c { s.channels[c] with supplyTimer := none }
      if s.channels[c].state = .supplyWait then report (.supplyWait c) true t else t
    else s) s)

/-- EXERCISE_TIMER_EXPIRY (R99). -/
def execExerciseTimerExpiry (c : Fin 4) (s : State) : Outcome State Fault Refusal :=
  .next (whileRunning (fun s =>
    if s.channels[c].exerciseTimer.isSome then
      if s.channels[c].state = .exercise then finishExercise c .expired s
      else s.setChannel c { s.channels[c] with exerciseTimer := none }
    else s) s)

end Sys2Proof.Machine
end

