-- ==== Sys2Proof/Machine/Fields.lean ====
section
/-! DEFINITION. The numbered fields of the seven record tables, as words (R9 and the field tables of every
chapter), and what exists (R5, R8). -/

namespace Sys2Proof.Machine

/-- An unsigned quantity as a field word (R9). -/
def quantity (n : Nat) : Word := BitVec.ofNat 16 n

/-- A signed quantity as a field word, in two's complement (R9). -/
def signedQuantity (i : Int) : Word := BitVec.ofInt 16 i

/-- A flag as a field word (R9). -/
def flag (b : Bool) : Word := if b then 1 else 0

/-- The word an absent optional field reads as (R9). -/
def absentWord : Word := 0x8000

/-- An optional field (R9). -/
def optional {α : Type} (f : α → Word) : Option α → Word
  | some x => f x
  | none => absentWord

/-- The high 8 bits of a sensor ID (R9). -/
def idHigh (id : SensorId) : Word := (id.extractLsb' 16 8).setWidth 16

/-- The low 16 bits of a sensor ID (R9). -/
def idLow (id : SensorId) : Word := id.extractLsb' 0 16

/-- The fields of the DEVICE record (sections 2.7, 3.5, 4.8, 6.10, 7.7, 9.6, 10.4, 11.3, 12.4). -/
def deviceField (s : State) (n : Nat) : Word :=
  match n with
  | 0 => quantity s.device.state.code
  | 1 => quantity s.device.layout.toNat
  | 2 => faultsPresent s
  | 3 => faultsLatched s
  | 4 => s.device.faultMask
  | 5 => flag s.device.restarted
  | 6 => (attentionPending s).setWidth 16
  | 7 => s.device.attentionEnable.setWidth 16
  | 8 => quantity s.device.demand
  | 9 => quantity s.device.reservoir
  | 10 => quantity s.device.valveSupply
  | 11 => flag s.device.braking
  | 12 => quantity s.device.dMin
  | 13 => quantity s.device.referenceSpeed
  | 14 => flag s.device.referenceLost
  | 15 => quantity s.device.fTot
  | 16 => quantity s.device.supplyOn
  | 17 => flag s.device.stopOnValveFault
  | 18 => quantity s.device.changeoverGap
  | 19 => quantity s.device.blankingTime
  | 20 => quantity s.device.slipRel
  | 21 => quantity s.device.divisor
  | 22 => quantity s.device.parity.code
  | 23 => quantity s.device.parityErrors
  | 24 => quantity s.device.framingErrors
  | 25 => quantity s.device.breakErrors
  | 26 => quantity s.device.gapDiscards
  | 27 => quantity s.device.checkDiscards
  | 28 => quantity s.device.rangeDiscards
  | 29 => quantity s.device.telegramsAccepted
  | 30 => quantity s.device.missingTimeout
  | 31 => valveOutputsLatched s
  | _ => 0

/-- A coordinate of a curve point; a point not below the count is absent (R13). -/
def curveField (curve : List CurvePoint) (k : Nat) (f : CurvePoint → Nat) : Word :=
  optional (fun p => quantity (f p)) curve[k]?

/-- The fields of an AXLE record (section 4.8). -/
def axleField (s : State) (a : Fin 4) (n : Nat) : Word :=
  let x := s.axles[a]
  match n with
  | 0 => flag x.present
  | 1 => flag x.twin
  | 2 => flag x.liftable
  | 3 => quantity s.loadUnit.loadState.code
  | 4 => quantity x.bellowsRaw
  | 5 => quantity x.bellowsFiltered
  | 6 => quantity x.load
  | 7 => quantity x.loadFraction
  | 8 => quantity x.l0
  | 9 => quantity x.l1
  | 10 => quantity x.curve.length
  | 11 => quantity x.trackWidth
  | 12 => flag x.bellowsFault
  | 13 => flag x.changeMark
  | 14 => quantity x.liftState.code
  | 15 => quantity x.liftMode.code
  | 16 => curveField x.curve 0 CurvePoint.bellows
  | 17 => curveField x.curve 0 CurvePoint.load
  | 18 => curveField x.curve 1 CurvePoint.bellows
  | 19 => curveField x.curve 1 CurvePoint.load
  | 20 => curveField x.curve 2 CurvePoint.bellows
  | 21 => curveField x.curve 2 CurvePoint.load
  | 22 => curveField x.curve 3 CurvePoint.bellows
  | 23 => curveField x.curve 3 CurvePoint.load
  | 24 => curveField x.curve 4 CurvePoint.bellows
  | 25 => curveField x.curve 4 CurvePoint.load
  | 26 => curveField x.curve 5 CurvePoint.bellows
  | 27 => curveField x.curve 5 CurvePoint.load
  | 28 => quantity x.fRaise
  | 29 => quantity x.fLower
  | 30 => quantity x.bUp
  | 31 => quantity x.bDown
  | _ => 0

/-- The fields of a WHEEL record (sections 3.8, 7.7). -/
def wheelField (x : Wheel) (n : Nat) : Word :=
  match n with
  | 0 => flag x.present
  | 1 => quantity x.channel.val
  | 2 => flag x.enabled
  | 3 => quantity x.teeth
  | 4 => quantity x.circumference
  | 5 => quantity x.speed
  | 6 => quantity x.sensorState.code
  | 7 => flag x.bearing
  | 8 => flag x.suspect
  | 9 => flag x.valid
  | 16 => optional quantity x.slip
  | 17 => signedQuantity x.deceleration
  | 18 => quantity x.wish.code
  | _ => 0

/-- The fields of a TYRE record (section 10.8). -/
def tyreField (p : Fin 16) (x : Tyre) (n : Nat) : Word :=
  match n with
  | 0 => flag x.present
  | 1 => quantity p.val
  | 2 => quantity x.state.code
  | 3 => optional idHigh x.id
  | 4 => optional idLow x.id
  | 5 => quantity x.level.severity
  | 6 => flag x.bearing
  | 7 => flag x.changeMark
  | 8 => quantity x.nominal
  | 9 => optional quantity x.lastGauge
  | 10 => optional signedQuantity x.lastTemperature
  | 11 => optional quantity x.p20
  | 12 => flag x.high
  | 13 => flag x.hot
  | 14 => flag x.rapid
  | 15 => flag x.batteryLow
  | 16 => quantity x.age
  | 17 => quantity x.learnResult.code
  | _ => 0

/-- The fields of a CHANNEL record (sections 5.11, 6.10, 7.7); the energised fields are the outputs'. -/
def channelField (s : State) (c : Fin 4) (n : Nat) : Word :=
  let x := s.channels[c]
  match n with
  | 0 => flag x.present
  | 1 => quantity x.side.code
  | 2 => quantity x.groupFirst.val
  | 3 => quantity x.groupLast.val
  | 4 => quantity x.state.code
  | 5 => quantity x.reason.code
  | 6 => quantity x.action.code
  | 7 => quantity x.winning.code
  | 8 => quantity x.gEmpty
  | 9 => quantity x.gLaden
  | 10 => quantity x.pLim
  | 11 => quantity x.fraction
  | 12 => flag x.groupBearing
  | 13 => quantity x.gain
  | 14 => quantity x.target
  | 15 => quantity x.band
  | 16 => quantity x.commanded
  | 17 => quantity x.delivered
  | 18 => quantity x.rolloverRequest
  | 19 => optional (fun a => quantity (ExerciseAction.code a)) x.exerciseAction
  | 20 => quantity x.lastEnd.code
  | 21 => flag s.outputs[inletOf c].energised
  | 22 => flag s.outputs[exhaustOf c].energised
  | 23 => flag s.outputs[backupOf c].energised
  | 24 => quantity x.policy.code
  | 25 => quantity x.antiLock.code
  | 26 => optional quantity x.cap
  | 27 => quantity x.releaseCount
  | _ => 0

/-- The fields of a candidate entry (section 9.6). -/
def candidateField (x : Candidate) (n : Nat) : Word :=
  match n with
  | 0 => idHigh x.id
  | 1 => idLow x.id
  | 2 => quantity x.heard
  | 3 => quantity x.lastGauge
  | 4 => optional quantity x.previousGauge
  | 5 => quantity x.age
  | 6 => flag x.flags.motion
  | 7 => flag x.flags.batteryLow
  | 8 => flag x.flags.learnTrigger
  | 9 => flag x.flags.fastRate
  | _ => 0

/-- The fields of the ROLLOVER record (section 8.11). -/
def rolloverField (x : Rollover) (n : Nat) : Word :=
  match n with
  | 0 => quantity x.state.code
  | 1 => optional signedQuantity x.raw
  | 2 => signedQuantity x.filtered
  | 3 => quantity x.threshold
  | 4 => quantity x.alertLevel
  | 5 => optional (fun a => quantity (Fin.val a)) x.axle
  | 6 => optional (fun i => quantity (Side.code i)) x.inner
  | 7 => quantity x.testResult.code
  | 8 => quantity x.pTest
  | 9 => quantity x.pRoll
  | 10 => quantity x.aEmpty
  | 11 => quantity x.aLaden
  | 12 => quantity x.slipLift
  | 13 => quantity x.interventions
  | 14 => quantity x.tests
  | 15 => quantity x.level
  | _ => 0

/-- A record named by a table and an index that lies within the table's range (R5). -/
inductive RecordId where
  | device
  | axle (a : Fin 4)
  | wheel (w : Fin 8)
  | tyre (p : Fin 16)
  | channel (c : Fin 4)
  | candidate (k : Fin 8)
  | rollover
  deriving DecidableEq, Repr

/-- R5: the record a table and an index name; `none` when the index lies beyond the table's range. -/
def recordOf (t : TableId) (index : Nat) : Option RecordId :=
  match t with
  | .device => if index = 0 then some .device else none
  | .axle => if h : index < 4 then some (.axle ⟨index, h⟩) else none
  | .wheel => if h : index < 8 then some (.wheel ⟨index, h⟩) else none
  | .tyre => if h : index < 16 then some (.tyre ⟨index, h⟩) else none
  | .channel => if h : index < 4 then some (.channel ⟨index, h⟩) else none
  | .candidate => if h : index < 8 then some (.candidate ⟨index, h⟩) else none
  | .rollover => if index = 0 then some .rollover else none

/-- The table and index of a record. -/
def RecordId.table : RecordId → TableId
  | .device => .device
  | .axle _ => .axle
  | .wheel _ => .wheel
  | .tyre _ => .tyre
  | .channel _ => .channel
  | .candidate _ => .candidate
  | .rollover => .rollover

/-- See `RecordId.table`. -/
def RecordId.index : RecordId → Nat
  | .device => 0
  | .axle a => a.val
  | .wheel w => w.val
  | .tyre p => p.val
  | .channel c => c.val
  | .candidate k => k.val
  | .rollover => 0

/-- R5, R6, R8: the record exists. -/
def recordExists (s : State) : RecordId → Bool
  | .device => true
  | .axle a => s.axles[a].present
  | .wheel w => s.wheels[w].present
  | .tyre p => s.tyres[p].present
  | .channel c => s.channels[c].present
  | .candidate k => decide (k.val < s.supervisor.candidates.length)
  | .rollover => true

/-- The word of a record's numbered field (R9). -/
def fieldWord (s : State) (r : RecordId) (n : Nat) : Word :=
  match r with
  | .device => deviceField s n
  | .axle a => axleField s a n
  | .wheel w => wheelField s.wheels[w] n
  | .tyre p => tyreField p s.tyres[p] n
  | .channel c => channelField s c n
  | .candidate k =>
    match s.supervisor.candidates[k.val]? with
    | some x => candidateField x n
    | none => 0
  | .rollover => rolloverField s.rollover n

/-- R10: the eight words of a group. -/
def groupWords (s : State) (r : RecordId) (group : BitVec 2) : Vector Word 8 :=
  Vector.ofFn fun i => fieldWord s r (8 * group.toNat + i.val)

/-- The named record of a request's header (R5), or the result that refuses it. -/
def namedRecord (s : State) (table : BitVec 3) (index : BitVec 5) : Except Result RecordId :=
  match TableId.ofCode table with
  | none => .error .refusedRange
  | some t =>
    match recordOf t index.toNat with
    | none => .error .refusedRange
    | some r => if recordExists s r then .ok r else .error .refusedAbsent

end Sys2Proof.Machine
end

