-- ==== Sys2Proof/Machine/Tyres.lean ====
section
/-! DEFINITION. The Tyre Supervisor: arrival dispatch, the candidate list, tyre updates, AGING_EXPIRY and
LEARN_TIMER_EXPIRY (chapters 9 and 10). -/

namespace Sys2Proof.Machine

open Host (Outcome)

/-- R149: a position is paired while it is LIVE or MISSING. -/
def TyreState.isPaired : TyreState → Bool
  | .live | .missing => true
  | .unpaired | .learning => false

/-- R142 case 1: the existing paired position that holds an ID. -/
def pairedPosition (s : State) (id : SensorId) : Option (Fin 16) :=
  (List.finRange 16).find? fun p =>
    s.tyres[p].present && s.tyres[p].state.isPaired && s.tyres[p].id == some id

/-- The existing position that is LEARNING, if there is one (R152). -/
def learningPosition (s : State) : Option (Fin 16) :=
  (List.finRange 16).find? fun p => s.tyres[p].present && s.tyres[p].state == .learning

/-- The state with the candidate list replaced. -/
def State.setCandidates (s : State) (l : List Candidate) : State :=
  { s with supervisor := { s.supervisor with candidates := l } }

/-- R146: an ID's entry is removed from the candidate list. -/
def removeCandidate (id : SensorId) (s : State) : State :=
  s.setCandidates (s.supervisor.candidates.filter fun c => c.id != id)

/-- R156, R157: a record takes an arrival, in one operation. -/
def Tyre.update (t : Tyre) (a : Arrival) : Tyre :=
  { t with
    lastGauge := some a.gauge
    lastTemperature := some a.celsius
    p20 := some a.p20
    level := levelAfter t.level t.nominal a.p20
    high := highAfter t.high t.nominal a.p20
    hot := hotAfter t.hot a.celsius
    batteryLow := a.flags.batteryLow
    rapid := rapidAfter t.rapid t.rateHistory a.p20 a.time
    rateHistory := some ⟨a.p20, a.time⟩
    state := .live
    age := 0 }

/-- R150, R153: a pairing starts from level NONE, flags 0, age 0, no data and no rate history. -/
def Tyre.paired (t : Tyre) (id : SensorId) : Tyre :=
  { t with
    state := .live
    id := some id
    lastGauge := none
    lastTemperature := none
    p20 := none
    age := 0
    level := .noAlarm
    high := false
    hot := false
    rapid := false
    batteryLow := false
    rateHistory := none
    learnTimer := none }

/-- R151: a position becomes UNPAIRED: no ID, no data, age 0, level NONE, flags 0, no rate history. -/
def Tyre.unpaired (t : Tyre) : Tyre :=
  { t with
    state := .unpaired
    id := none
    lastGauge := none
    lastTemperature := none
    p20 := none
    age := 0
    level := .noAlarm
    high := false
    hot := false
    rapid := false
    batteryLow := false
    rateHistory := none
    learnTimer := none }

/-- R153: a learning ends without a pairing; its end is outstanding for the LEARN source (R169). -/
def endLearning (p : Fin 16) (result : LearnResult) (s : State) : State :=
  putTyre p { s.tyres[p] with
    state := .unpaired, learnTimer := none, learnResult := result, learnOutstanding := true } s

/-- R142 case 2: the telegram qualifies for the position that is LEARNING. -/
def qualifies (s : State) (a : Arrival) : Bool :=
  a.flags.learnTrigger
    || s.supervisor.candidates.any fun c => c.id == a.id && decide (a.gauge + 40 ≤ c.lastGauge)

/-- R144: a listed entry takes a further telegram. -/
def Candidate.heardAgain (c : Candidate) (a : Arrival) : Candidate :=
  { c with
    heard := min 255 (c.heard + 1)
    previousGauge := some c.lastGauge
    lastGauge := a.gauge
    flags := a.flags
    age := 0 }

/-- R143: a new entry. -/
def Arrival.candidate (a : Arrival) : Candidate := ⟨a.id, 1, a.gauge, none, a.flags, 0⟩

/-- R143, R144: an arrival dispatched to the candidate list. -/
def listCandidate (a : Arrival) (s : State) : State :=
  let l := s.supervisor.candidates
  if l.any fun c => c.id == a.id then
    s.setCandidates (l.map fun c => if c.id == a.id then c.heardAgain a else c)
  else
    let t := s.setCandidates ((if 8 ≤ l.length then l.drop 1 else l) ++ [a.candidate])
    { t with link := { t.link with candidatePending := true } }

/-- R153: a learning succeeds. -/
def learnArrival (p : Fin 16) (a : Arrival) (s : State) : State :=
  removeCandidate a.id (putTyre p { (s.tyres[p].paired a.id).update a with
    learnResult := .success
    learnOutstanding := true
    bearing := axleDown s (axleOfTyre p) } s)

/-- R142: the Tyre Supervisor takes an arrival. The bearing flag is set at it (R160), also at an arrival
between a restart and the first aging expiry, for which R163 says 0: there the model follows R160 (log
entry 34, the model's choice). -/
def takeArrival (a : Arrival) (s : State) : State :=
  match pairedPosition s a.id with
  | some p => putTyre p { s.tyres[p].update a with bearing := axleDown s (axleOfTyre p) } s
  | none =>
    match learningPosition s with
    | some p => if qualifies s a then learnArrival p a s else listCandidate a s
    | none => listCandidate a s

/-- R158: a position at an aging expiry. -/
def Tyre.aged (t : Tyre) (timeout : Nat) : Tyre :=
  let age := if t.state.isPaired then min 65535 (t.age + 1) else t.age
  { t with
    age := age
    rateHistory := if t.state.isPaired ∧ 121 ≤ age then none else t.rateHistory
    state := if t.state = .live ∧ timeout ≤ age then .missing else t.state }

/-- R145: the candidate list at an aging expiry. -/
def ageCandidates (l : List Candidate) : List Candidate :=
  (l.map fun c => { c with age := c.age + 1 }).filter fun c => decide (c.age < 300)

/-- R158, R160: an existing position at an aging expiry. -/
def ageTyre (p : Fin 16) (s : State) : State :=
  if s.tyres[p].present then
    putTyre p { s.tyres[p].aged s.device.missingTimeout with
      bearing := axleDown s (axleOfTyre p) } s
  else s

/-- AGING_EXPIRY (R145, R158, R160). -/
def execAgingExpiry (s : State) : Outcome State Fault Refusal :=
  .next (whileRunning (fun s =>
    if s.supervisor.agingTimer.isSome then
      forEach 16 ageTyre (s.setCandidates (ageCandidates s.supervisor.candidates))
    else s) s)

/-- LEARN_TIMER_EXPIRY (R153): the learning ends with TIMEOUT. -/
def execLearnTimerExpiry (s : State) : Outcome State Fault Refusal :=
  .next (whileRunning (fun s =>
    match learningPosition s with
    | some p => if s.tyres[p].learnTimer.isSome then endLearning p .timeout s else s
    | none => s) s)

end Sys2Proof.Machine
end

