-- ==== Sys2Proof/Machine/Telegram.lean ====
section
/-! DEFINITION. The Telegram Receiver and its assembler (chapter 9). -/

namespace Sys2Proof.Machine

open Host (Outcome)

/-- The state with the receiver replaced. -/
def State.setReceiver (s : State) (r : Receiver) : State := { s with receiver := r }

/-- A line counter raised by 1; it stops at 65535 (R136). -/
def bump (n : Nat) : Nat := min 65535 (n + 1)

/-- The character time under the present settings (R135). -/
def charTime (s : State) : Nat := characterTime s.device.divisor s.device.parity

/-- R138: the jam condition changes and is reported. -/
def setJam (jam : Bool) (s : State) : State :=
  report .jam jam (s.setReceiver { s.receiver with jam := jam })

/-- LINE_TO_SPACING (R135, R138). A receiver that waits, with the line marking until now, has sampled it
marking and is armed (log entry 16). While a reset is held only the line's level is kept. -/
def execLineToSpacing (s : State) : Outcome State Fault Refusal :=
  .next (
    if held s then s.setReceiver { s.receiver with spacing := true }
    else
      let r := s.receiver
      let armed := r.character.isNone && (r.armed || !r.spacing)
      s.setReceiver { r with
        spacing := true
        armed := armed
        startPending := armed
        markTimer := none
        jamTimer := some (jamTime s) })

/-- LINE_TO_MARKING (R135, R138). -/
def execLineToMarking (s : State) : Outcome State Fault Refusal :=
  .next (
    if held s then s.setReceiver { s.receiver with spacing := false }
    else
      let r := s.receiver
      s.setReceiver { r with
        spacing := false
        armed := r.character.isNone
        startPending := false
        jamTimer := none
        markTimer := if r.jam then some (charTime s) else none })

/-- START_BIT_TAKEN (R135, R140): the receiver is disarmed and the assembler's gap timer stops. -/
def execStartBitTaken (s : State) : Outcome State Fault Refusal :=
  .next (whileRunning (fun s =>
    if s.receiver.startPending && s.receiver.spacing then
      s.setReceiver { s.receiver with
        armed := false
        startPending := false
        character := some s.device.parity
        gapTimer := none }
    else s) s)

/-- JAM_TIMER_EXPIRY (R138). -/
def execJamTimerExpiry (s : State) : Outcome State Fault Refusal :=
  .next (whileRunning (fun s =>
    if s.receiver.jamTimer.isSome then
      setJam true (s.setReceiver { s.receiver with jamTimer := none })
    else s) s)

/-- MARK_TIMER_EXPIRY (R138). -/
def execMarkTimerExpiry (s : State) : Outcome State Fault Refusal :=
  .next (whileRunning (fun s =>
    if s.receiver.markTimer.isSome then
      setJam false (s.setReceiver { s.receiver with markTimer := none })
    else s) s)

/-! ### Judging a character and a telegram -/

/-- The outcomes of R136. -/
inductive CharacterOutcome where
  | breakError
  | framingError
  | parityError
  | good (b : Byte)
  deriving DecidableEq, Repr

/-- The number of marking samples among the eight data bits. -/
def markingBits (data : Byte) : Nat := (List.range 8).countP fun i => data.getLsbD i

/-- R136 row 3: the parity of the samples is wrong for the format. -/
def parityWrong (format : Parity) (data : Byte) (parityBit : Bool) : Bool :=
  match format with
  | .noParity => false
  | .odd => decide ((markingBits data + parityBit.toNat) % 2 = 0)
  | .even => decide ((markingBits data + parityBit.toNat) % 2 = 1)

/-- R136: a character judged by the first row that holds. The start sample is spacing, since its start
bit was taken; without parity there is no parity sample. -/
def judgeCharacter (format : Parity) (data : Byte) (parityBit stop : Bool) : CharacterOutcome :=
  if data = 0 ∧ (format = .noParity ∨ parityBit = false) ∧ stop = false then .breakError
  else if stop = false then .framingError
  else if parityWrong format data parityBit then .parityError
  else .good data

/-- R136: the counter a character's outcome raises. -/
def Device.countCharacter (d : Device) : CharacterOutcome → Device
  | .breakError => { d with breakErrors := bump d.breakErrors }
  | .framingError => { d with framingErrors := bump d.framingErrors }
  | .parityError => { d with parityErrors := bump d.parityErrors }
  | .good _ => d

/-- The flags byte of a telegram (section 11.5); bits 7 to 4 are ignored. -/
def TelegramFlags.ofByte (b : Byte) : TelegramFlags :=
  ⟨b.getLsbD 0, b.getLsbD 1, b.getLsbD 2, b.getLsbD 3⟩

/-- The outcomes of R141. -/
inductive TelegramOutcome where
  | checkError
  | rangeError
  | valid (a : Arrival)
  deriving DecidableEq, Repr

/-- R141: nine bytes judged by the first row that holds; `time` is the Supervisor's clock. -/
def judgeTelegram (bytes : List Byte) (time : Nat) : TelegramOutcome :=
  let at' (i : Nat) : Byte := bytes.getD i 0
  let id : SensorId := at' 1 ++ at' 2 ++ at' 3
  let pressure : Nat := (at' 4).toNat * 256 + (at' 5).toNat
  if (bytes.map BitVec.toNat).sum % 256 ≠ 0 then .checkError
  else if 1600 < pressure ∨ 200 < (at' 6).toNat ∨ id = 0 ∨ id = 0xFFFFFF then .rangeError
  else .valid ⟨id, pressure, (at' 6).toNat, TelegramFlags.ofByte (at' 7), time⟩

/-- R141: a judged telegram is counted, and a valid one is handed to the Tyre Supervisor. -/
def takeTelegram (o : TelegramOutcome) (s : State) : State :=
  match o with
  | .checkError => { s with device := { s.device with checkDiscards := bump s.device.checkDiscards } }
  | .rangeError => { s with device := { s.device with rangeDiscards := bump s.device.rangeDiscards } }
  | .valid a =>
    takeArrival a
      { s with device := { s.device with telegramsAccepted := bump s.device.telegramsAccepted } }

/-- R139: the assembler takes a good byte, or (`none`) a byte error. -/
def assemble (b : Option Byte) (s : State) : State :=
  let r := s.receiver
  match b with
  | none => s.setReceiver { r with collected := [], gapTimer := none }
  | some b =>
    if r.collected = [] then
      if b = 0x5C then
        s.setReceiver { r with collected := [b], gapTimer := some (3 * charTime s) }
      else s
    else if r.collected.length < 8 then
      s.setReceiver { r with collected := r.collected ++ [b], gapTimer := some (3 * charTime s) }
    else
      takeTelegram (judgeTelegram (r.collected ++ [b]) s.supervisor.clock)
        (s.setReceiver { r with collected := [], gapTimer := none })

/-- What the assembler is handed for a character (R136). -/
def CharacterOutcome.byte : CharacterOutcome → Option Byte
  | .good b => some b
  | .breakError | .framingError | .parityError => none

/-- CHARACTER_COMPLETE (R136): only a character whose start bit was taken completes. The Supervisor's
clock does not run backward. -/
def execCharacterComplete (data : Byte) (parityBit stop : Bool) (nowMs : Nat) (s : State) :
    Outcome State Fault Refusal :=
  .next (whileRunning (fun s =>
    match s.receiver.character with
    | none => s
    | some format =>
      let o := judgeCharacter format data parityBit stop
      assemble o.byte
        { s with
          device := s.device.countCharacter o
          supervisor := { s.supervisor with clock := max s.supervisor.clock nowMs }
          receiver := { s.receiver with character := none, armed := stop } }) s)

/-- GAP_TIMER_EXPIRY (R140). -/
def execGapTimerExpiry (s : State) : Outcome State Fault Refusal :=
  .next (whileRunning (fun s =>
    if s.receiver.gapTimer.isSome then
      { s with
        device := { s.device with gapDiscards := bump s.device.gapDiscards }
        receiver := { s.receiver with collected := [], gapTimer := none } }
    else s) s)

end Sys2Proof.Machine
end

