-- ==== Sys2Proof/Machine/Amend.lean ====
section
/-! DEFINITION. Amending a field: R11, R12, R13 and the effects the owners' chapters give. -/

namespace Sys2Proof.Machine

/-- What values a setting takes (R9, R11 to R13, R177). -/
inductive Domain where
  /-- Numeric: clamped into the range. -/
  | range (lo hi : Nat)
  /-- Enumerated: the codes below `n`. -/
  | codes (n : Nat)
  /-- The curve point count: refused outside 2 to 6 (R13). -/
  | pointCount
  /-- The fault mask: refused with a bit that cannot be masked (R177). -/
  | mask
  deriving DecidableEq, Repr

/-- An amendable field: its class and its domain. -/
structure Setting where
  standbyOnly : Bool
  domain      : Domain
  deriving DecidableEq, Repr

/-- The amendable fields of each record (the field tables of every chapter); a curve point field is
amendable while its point number is below the count (R13). -/
def settingOf (s : State) (r : RecordId) (n : Nat) : Option Setting :=
  match r with
  | .device =>
    match n with
    | 4 => some ⟨true, .mask⟩
    | 12 => some ⟨false, .range 10 60⟩
    | 16 => some ⟨false, .range 300 700⟩
    | 17 => some ⟨true, .codes 2⟩
    | 18 => some ⟨true, .range 1 30⟩
    | 19 => some ⟨true, .range 1 20⟩
    | 20 => some ⟨false, .range 102 410⟩
    | 21 => some ⟨false, .range 1 65535⟩
    | 22 => some ⟨false, .codes 3⟩
    | 30 => some ⟨false, .range 60 3600⟩
    | _ => none
  | .axle a =>
    match n with
    | 1 => some ⟨true, .codes 2⟩
    | 2 => some ⟨true, .codes 2⟩
    | 8 => some ⟨true, .range 0 2000⟩
    | 9 => some ⟨true, .range 0 2000⟩
    | 10 => some ⟨true, .pointCount⟩
    | 11 => some ⟨true, .range 150 260⟩
    | 15 => some ⟨false, .codes 3⟩
    | 28 => some ⟨false, .range 0 1024⟩
    | 29 => some ⟨false, .range 0 1024⟩
    | 30 => some ⟨false, .range 10 100⟩
    | 31 => some ⟨false, .range 30 300⟩
    | _ =>
      if 16 ≤ n ∧ n < 28 ∧ (n - 16) / 2 < s.axles[a].curve.length then
        some ⟨true, if n % 2 = 0 then .range 0 1000 else .range 0 2000⟩
      else none
  | .wheel _ =>
    match n with
    | 2 => some ⟨false, .codes 2⟩
    | 3 => some ⟨true, .range 40 160⟩
    | 4 => some ⟨true, .range 2000 4000⟩
    | _ => none
  | .tyre _ =>
    match n with
    | 8 => some ⟨false, .range 300 1000⟩
    | _ => none
  | .channel _ =>
    match n with
    | 8 => some ⟨true, .range 100 1024⟩
    | 9 => some ⟨true, .range 100 1024⟩
    | 10 => some ⟨true, .range 100 1000⟩
    | 15 => some ⟨false, .range 5 50⟩
    | 24 => some ⟨false, .codes 2⟩
    | _ => none
  | .candidate _ => none
  | .rollover =>
    match n with
    | 8 => some ⟨false, .range 30 150⟩
    | 9 => some ⟨false, .range 200 700⟩
    | 10 => some ⟨false, .range 200 800⟩
    | 11 => some ⟨false, .range 150 800⟩
    | 12 => some ⟨false, .range 102 512⟩
    | _ => none

/-- The bits of the fault mask that may not be set: 1, 9 and 12 to 15 (R177). -/
def unmaskable : Word := 0xF202

/-- R11 steps 5 and 7: the value stored, and whether it was clamped; `none` is refused with
REFUSED_RANGE. -/
def Domain.accept (d : Domain) (v : Nat) : Option (Nat × Bool) :=
  match d with
  | .range lo hi => some (clampNat lo hi v, clampNat lo hi v != v)
  | .codes n => if v < n then some (v, false) else none
  | .pointCount => if 2 ≤ v ∧ v ≤ 6 then some (v, false) else none
  | .mask => if BitVec.ofNat 16 v &&& unmaskable = 0 then some (v, false) else none

/-- R3: the INNER positions of an axle. -/
def innerPositions (a : Fin 4) : List (Fin 16) :=
  [innerTyre (wheelOf a .left), innerTyre (wheelOf a .right)]

/-- R11 step 6, R13: a structural change is refused with REFUSED_STATE. -/
def structureBlocks (s : State) (r : RecordId) (n v : Nat) : Bool :=
  match r with
  | .axle a =>
    if n = 1 then
      s.axles[a].twin && v == 0 && (innerPositions a).any fun p => s.tyres[p].state != .unpaired
    else if n = 2 then
      if s.axles[a].liftable then v == 0 && s.axles[a].liftState != .down
      else
        v == 1 && (List.finRange 4).any fun b =>
          b != a && s.axles[b].present && s.axles[b].liftable
    else false
  | .device | .wheel _ | .tyre _ | .channel _ | .candidate _ | .rollover => false

/-- R3, R13: TWIN is stored; the INNER positions cease to exist or come into existence. -/
def storeTwin (a : Fin 4) (v : Nat) (s : State) : State :=
  let twin := v == 1
  if s.axles[a].twin = twin then s
  else
    let s := s.setAxle a { s.axles[a] with twin := twin }
    (innerPositions a).foldl
      (fun s p =>
        s.setTyre p
          (if twin then freshTyre true
           else { s.tyres[p] with
             present := false, changeMark := false, learnOutstanding := false })) s

/-- R13, R67: LIFTABLE is stored; the axle starts in LOWERING with mode AUTO, or becomes
NOT_LIFTABLE. -/
def storeLiftable (a : Fin 4) (v : Nat) (s : State) : State :=
  let liftable := v == 1
  if s.axles[a].liftable = liftable then s
  else if liftable then
    let s := putAxle a { s.axles[a] with
      liftable := true, liftState := .lowering, liftMode := .auto } s
    requestLift false { s with lift := ⟨none, some loweringTime, 0⟩ }
  else
    let s := putAxle a { s.axles[a] with liftable := false, liftState := .notLiftable } s
    requestLift false { s with lift := ⟨none, none, 0⟩ }

/-- R13: a coordinate of a curve point is stored. -/
def storePoint (a : Fin 4) (n v : Nat) (s : State) : State :=
  let x := s.axles[a]
  let k := (n - 16) / 2
  s.setAxle a { x with
    curve := x.curve.modify k fun p =>
      if n % 2 = 0 then { p with bellows := v } else { p with load := v } }

/-- R137: a new divisor reloads the bit-rate counter: the character in progress and the partial telegram
are dropped uncounted, and running jam and mark timers start afresh. -/
def storeDivisor (v : Nat) (s : State) : State :=
  let s := { s with device := { s.device with divisor := v } }
  let r := s.receiver
  s.setReceiver { r with
    armed := false
    startPending := false
    character := none
    collected := []
    gapTimer := none
    jamTimer := r.jamTimer.map fun _ => jamTime s
    markTimer := r.markTimer.map fun _ => charTime s }

/-- The instances of every fault kind. -/
def allFaults : List FaultId :=
  (List.finRange 13).map .valveOpen ++ (List.finRange 13).map .valveShort
    ++ (List.finRange 4).map .delivered ++ [.demand, .reservoir]
    ++ (List.finRange 4).map .bellows ++ (List.finRange 8).map .speed
    ++ (List.finRange 4).map .supplyWait ++ [.lift, .supplyLow, .jam, .linkFrame]

/-- R177, R138: the mask is stored, every instance of a kind it masks is cleared, and the receiver
reports its jam condition at once. -/
def storeMask (v : Nat) (s : State) : State :=
  let s := { s with device := { s.device with faultMask := BitVec.ofNat 16 v } }
  let cleared := allFaults.foldl
    (fun (x : FaultSet) f => if masked s f then x.set clearMark f else x) s.faults
  settle (report .jam s.receiver.jam { s with faults := cleared })

/-- R12: an admitted value is stored in its field, with the effects the owner's chapter gives. -/
def store (r : RecordId) (n v : Nat) (s : State) : State :=
  match r with
  | .device =>
    match n with
    | 4 => storeMask v s
    | 12 => { s with device := { s.device with dMin := v } }
    | 16 => { s with device := { s.device with supplyOn := v } }
    | 17 => settle { s with device := { s.device with stopOnValveFault := v == 1 } }
    | 18 => { s with device := { s.device with changeoverGap := v } }
    | 19 => { s with device := { s.device with blankingTime := v } }
    | 20 => { s with device := { s.device with slipRel := v } }
    | 21 => storeDivisor v s
    | 22 => { s with device := { s.device with parity := Parity.ofCode v } }
    | 30 => { s with device := { s.device with missingTimeout := v } }
    | _ => s
  | .axle a =>
    match n with
    | 1 => storeTwin a v s
    | 2 => storeLiftable a v s
    | 8 => s.setAxle a { s.axles[a] with l0 := v }
    | 9 => s.setAxle a { s.axles[a] with l1 := v }
    | 10 => s.setAxle a { s.axles[a] with curve := resizeCurve s.axles[a].curve v }
    | 11 => s.setAxle a { s.axles[a] with trackWidth := v }
    | 15 => s.setAxle a { s.axles[a] with liftMode := LiftMode.ofCode v }
    | 28 => s.setAxle a { s.axles[a] with fRaise := v }
    | 29 => s.setAxle a { s.axles[a] with fLower := v }
    | 30 => s.setAxle a { s.axles[a] with bUp := v }
    | 31 => s.setAxle a { s.axles[a] with bDown := v }
    | _ => storePoint a n v s
  | .wheel w =>
    match n with
    | 2 => s.setWheel w { s.wheels[w] with enabled := v == 1 }
    | 3 => s.setWheel w { s.wheels[w] with teeth := v }
    | 4 => s.setWheel w { s.wheels[w] with circumference := v }
    | _ => s
  | .tyre p =>
    match n with
    | 8 => s.setTyre p { s.tyres[p] with nominal := v }
    | _ => s
  | .channel c =>
    match n with
    | 8 => s.setChannel c { s.channels[c] with gEmpty := v }
    | 9 => s.setChannel c { s.channels[c] with gLaden := v }
    | 10 => arbitrate c (s.setChannel c { s.channels[c] with pLim := v })
    | 15 => s.setChannel c { s.channels[c] with band := v }
    | 24 =>
      s.setChannel c { s.channels[c] with
        policy := if v = 0 then .selectLow else .selectHigh }
    | _ => s
  | .candidate _ => s
  | .rollover =>
    match n with
    | 8 => { s with rollover := { s.rollover with pTest := v } }
    | 9 => { s with rollover := { s.rollover with pRoll := v } }
    | 10 => { s with rollover := { s.rollover with aEmpty := v } }
    | 11 => { s with rollover := { s.rollover with aLaden := v } }
    | 12 => { s with rollover := { s.rollover with slipLift := v } }
    | _ => s

/-- R11 steps 3 to 7 for an existing record. -/
def amendRecord (r : RecordId) (field value : Word) (s : State) : Result × State :=
  match settingOf s r field.toNat with
  | none => (.refusedRange, s)
  | some setting =>
    if setting.standbyOnly && s.device.state != .standby then (.refusedState, s)
    else
      match setting.domain.accept value.toNat with
      | none => (.refusedRange, s)
      | some (v, clamped) =>
        if structureBlocks s r field.toNat v then (.refusedState, s)
        else (if clamped then .doneClamped else .done, store r field.toNat v s)

end Sys2Proof.Machine
end

