-- ==== Sys2Proof/WellFormed.lean ====
section
/-! DEFINITION. Which commands are well formed. The operand types already bound every index and reading;
what is left is checked here. -/

namespace Sys2Proof

/-- The ten blocks that take a scan completion. -/
def allScanAgents : List ScanAgent :=
  [.loadUnit, .liftController, .pressureTarget, .channel 0, .channel 1, .channel 2, .channel 3,
    .valveDriver, .antiLock, .operatingState]

/-- Every block takes a scan completion exactly once. -/
def isScanOrder (order : List ScanAgent) : Bool :=
  allScanAgents.all (fun a => order.count a == 1) && order.length == 10

/-- The frame errors of R165 that depend on the header alone need no check here: any header, or none, may
head a malformed transaction. -/
def Instr.wellFormed : Instr → Bool
  | .scanCompletion _ order => isScanOrder order
  | .unknownRequest kind _ => decide (15 ≤ kind.toNat)
  | .powerOn _ | .logicSupplyLow | .logicSupplyRestored _ | .resetLineAssert | .resetLineRelease _
  | .initTimerExpiry | .failsafeAssert | .failsafeRelease | .sampleSet _ _ _ | .wheelEdge _ _
  | .shortCircuitTrip _ | .changeoverGapExpiry _ | .blankingTimerExpiry _ | .raiseTimerExpiry
  | .loweringTimerExpiry | .supplyTimerExpiry _ | .exerciseTimerExpiry _ | .holdTimerExpiry _
  | .stepTimerExpiry _ | .testTimerExpiry | .testSpacingExpiry | .interventionMinExpiry
  | .rampStepExpiry | .lineToSpacing | .lineToMarking | .jamTimerExpiry | .markTimerExpiry
  | .characterComplete _ _ _ _ | .gapTimerExpiry | .agingExpiry | .learnTimerExpiry | .selectFall
  | .emptyTransaction | .frameError _ | .initTransaction | .nop _ | .lookup _ _ _ | .lookupNext _ _
  | .amend _ _ _ _ | .enrol _ _ _ _ | .retire _ _ | .learn _ _ | .cancelLearn _ | .liftCommand _ _
  | .exercise _ _ _ | .goActive _ | .goStandby _ | .softReset _ | .ackFaults _ | .setAttention _ _
  | .startBitTaken => true

end Sys2Proof
end

