-- ==== Sys2Proof/Decode.lean ====
section
/-! DEFINITION. From bits to commands: the transaction parser of the record link (R165, R167 and the layouts
of section 11.5), its inverse, and the host's decodeTableWord. -/

namespace Sys2Proof

namespace Link

/-- Request header bits 15 to 10: the request kind code (section 11.5). -/
def headerKind (h : Word) : BitVec 6 := h.extractLsb' 10 6

/-- Request header bits 9 to 7: the table id. -/
def headerTable (h : Word) : BitVec 3 := h.extractLsb' 7 3

/-- Request header bits 6 to 2: the index. -/
def headerIndex (h : Word) : BitVec 5 := h.extractLsb' 2 5

/-- Request header bits 1 to 0: the group. -/
def headerGroup (h : Word) : BitVec 2 := h.extractLsb' 0 2

/-- The request header of section 11.5. -/
def header (kind : BitVec 6) (table : BitVec 3) (index : BitVec 5) (group : BitVec 2) : Word :=
  kind ++ table ++ index ++ group

/-- How many words a request needs (R167); an unlisted kind counts as a one-word request. -/
def wordsNeeded (kind : BitVec 6) : Nat :=
  match kind.toNat with
  | 3 => 3
  | 4 => 3
  | 8 => 2
  | 9 => 2
  | 14 => 2
  | _ => 1

/-- The frame errors of R165: `words` are the whole words that arrived, `extraClocks` the clocks after
the last of them. -/
def isFrameError (words : List Word) (extraClocks : Fin 16) : Bool :=
  match words with
  | [] => extraClocks != 0
  | h :: _ =>
    extraClocks != 0 || decide (words.length < wordsNeeded (headerKind h))
      || (words.drop (wordsNeeded (headerKind h))).any (fun w => w != 0)
      || decide (16 < words.length)

/-- The request a header and its argument words spell (R167). -/
def requestOf (h a1 a2 : Word) : Instr :=
  match (headerKind h).toNat with
  | 0 => .nop (headerIndex h)
  | 1 => .lookup (headerTable h) (headerIndex h) (headerGroup h)
  | 2 => .lookupNext (headerIndex h) (headerGroup h)
  | 3 => .amend (headerTable h) (headerIndex h) a1 a2
  | 4 => .enrol (headerTable h) (headerIndex h) a1 a2
  | 5 => .retire (headerTable h) (headerIndex h)
  | 6 => .learn (headerTable h) (headerIndex h)
  | 7 => .cancelLearn (headerIndex h)
  | 8 => .liftCommand (headerIndex h) a1
  | 9 => .exercise (headerTable h) (headerIndex h) a1
  | 10 => .goActive (headerIndex h)
  | 11 => .goStandby (headerIndex h)
  | 12 => .softReset (headerIndex h)
  | 13 => .ackFaults (headerIndex h)
  | 14 => .setAttention (headerIndex h) a1
  | _ => .unknownRequest (headerKind h) (headerIndex h)

/-- The command that the rise of SELECT is, from the whole words clocked in since its fall and the clocks
left over (R165, R167). Total on any bits. -/
def parse (words : List Word) (extraClocks : Fin 16) : Instr :=
  if isFrameError words extraClocks then .frameError words.head?
  else
    match words with
    | [] => .emptyTransaction
    | h :: rest => requestOf h (rest.getD 0 0) (rest.getD 1 0)

/-- The words of the shortest transaction that carries a request; a command that is no request has none.
Header fields a request does not use are 0. -/
def encode : Instr → Option (List Word)
  | .nop i => some [header 0 0 i 0]
  | .lookup t i g => some [header 1 t i g]
  | .lookupNext i g => some [header 2 0 i g]
  | .amend t i f v => some [header 3 t i 0, f, v]
  | .enrol t i hi lo => some [header 4 t i 0, hi, lo]
  | .retire t i => some [header 5 t i 0]
  | .learn t i => some [header 6 t i 0]
  | .cancelLearn i => some [header 7 0 i 0]
  | .liftCommand i m => some [header 8 0 i 0, m]
  | .exercise t i a => some [header 9 t i 0, a]
  | .goActive i => some [header 10 0 i 0]
  | .goStandby i => some [header 11 0 i 0]
  | .softReset i => some [header 12 0 i 0]
  | .ackFaults i => some [header 13 0 i 0]
  | .setAttention i e => some [header 14 0 i 0, e]
  | .unknownRequest k i => some [header k 0 i 0]
  | .powerOn _ | .logicSupplyLow | .logicSupplyRestored _ | .resetLineAssert | .resetLineRelease _
  | .initTimerExpiry | .failsafeAssert | .failsafeRelease | .scanCompletion _ _ | .sampleSet _ _ _
  | .wheelEdge _ _ | .shortCircuitTrip _ | .changeoverGapExpiry _ | .blankingTimerExpiry _
  | .raiseTimerExpiry | .loweringTimerExpiry | .supplyTimerExpiry _ | .exerciseTimerExpiry _
  | .holdTimerExpiry _ | .stepTimerExpiry _ | .testTimerExpiry | .testSpacingExpiry
  | .interventionMinExpiry | .rampStepExpiry | .lineToSpacing | .lineToMarking | .jamTimerExpiry
  | .markTimerExpiry | .characterComplete _ _ _ _ | .gapTimerExpiry | .agingExpiry
  | .learnTimerExpiry | .selectFall | .emptyTransaction | .frameError _ | .initTransaction
  | .startBitTaken => none

end Link

/-- The command that a word spells by the opcode table's bits. No row of spec/opcode_table.json gives
bits: every word spells none (log entry 2). The link's own words are read by `Link.parse`. -/
def decodeTableWord (_nbits _w : Nat) : Option Instr := none

end Sys2Proof
end

