-- ==== Sys2Proof/Machine/Link.lean ====
section
/-! DEFINITION. The Record Link: transactions, the pending response, the lookup cursor and the attention
sources (chapter 11). -/

namespace Sys2Proof.Machine

open Host (Outcome)

/-- R164: the output words of a transaction, sampled at the fall of SELECT: the status word, the result
word of the pending response and its data words. -/
def outputWords (s : State) : Vector Word 10 :=
  Vector.ofFn fun i =>
    if i.val = 0 then statusWord s
    else if i.val = 1 then resultWord s.link.response
    else s.link.response.data.toList.getD (i.val - 2) 0

/-- R164, R166: SELECT falls. While the link serves no transaction the part drives data out high throughout
it and will not take its request. -/
def beginTransaction (s : State) : State :=
  { s with
    link :=
      if linkServes s then
        { s.link with select := .serving, dataOut := outputWords s, dataRest := 0 }
      else { s.link with select := .unserved, dataOut := allOnes, dataRest := 0xFFFF } }

/-- R164: output word `n` of the transaction last begun; the table's last row runs on without end. -/
def Link.outputWord (l : Link) (n : Nat) : Word :=
  if h : n < 10 then l.dataOut[n] else l.dataRest

/-- A command that ends a transaction finds SELECT low, or stands for a whole transaction, its fall first
(log entry 15). -/
def openTransaction (s : State) : State :=
  match s.link.select with
  | .high => beginTransaction s
  | .serving => s
  | .unserved => s

/-- SELECT rises. -/
def closeTransaction (s : State) : State := { s with link := { s.link with select := .high } }

/-- R164, R166: the rise of SELECT, at which `act` is carried out if the transaction is one that the link
serves. -/
def transact (act : State → State) (s : State) : State :=
  let t := openTransaction s
  if t.link.select == .serving && linkServes t then act (closeTransaction t) else closeTransaction t

/-- What a request's owner answers: the result, the index echoed and the data words (R167). -/
structure Reply where
  result : Result
  index  : BitVec 5
  data   : Vector Word 8
  deriving DecidableEq, Repr

/-- Eight zero data words. -/
def noData : Vector Word 8 := Vector.replicate 8 0

/-- A reply with zero data words. -/
def plainReply (result : Result) (index : BitVec 5) : Reply := ⟨result, index, noData⟩

/-- R167: the pending response is prepared. -/
def setResponse (kind : BitVec 6) (r : Reply) (s : State) : State :=
  { s with link := { s.link with response := ⟨r.result, kind, r.index, r.data⟩ } }

/-- R167: a request is checked and applied by its owner, and the response is prepared from the reply. -/
def request (kind : BitVec 6) (owner : State → Reply × State) (s : State) : State :=
  transact (fun t => setResponse kind (owner t).1 (owner t).2) s

/-! ### Transactions without a request -/

/-- SELECT_FALL (R164, R166). -/
def execSelectFall (s : State) : Outcome State Fault Refusal := .next (beginTransaction s)

/-- EMPTY_TRANSACTION (R165): no clocks, no request and no effect. -/
def execEmptyTransaction (s : State) : Outcome State Fault Refusal := .next (transact id s)

/-- INIT_TRANSACTION (R166): the transaction is not taken. -/
def execInitTransaction (s : State) : Outcome State Fault Refusal :=
  .next (closeTransaction (openTransaction s))

/-- R165: what a frame error echoes. -/
def frameReply (header : Option Word) : BitVec 6 × Reply :=
  match header with
  | none => (0, plainReply .refusedFrame 0)
  | some h => (Link.headerKind h, plainReply .refusedFrame (Link.headerIndex h))

/-- FRAME_ERROR (R165): the response is REFUSED_FRAME, and LINK_FRAME is reported present and then
absent. -/
def execFrameError (header : Option Word) (s : State) : Outcome State Fault Refusal :=
  .next (transact (fun t =>
    setResponse (frameReply header).1 (frameReply header).2
      (report .linkFrame false (report .linkFrame true t))) s)

/-- UNKNOWN_REQUEST (R167). -/
def execUnknownRequest (kind : BitVec 6) (index : BitVec 5) (s : State) :
    Outcome State Fault Refusal :=
  .next (request kind (fun t => (plainReply .refusedRange index, t)) s)

/-- NOP (R167). -/
def execNop (index : BitVec 5) (s : State) : Outcome State Fault Refusal :=
  .next (request 0 (fun t => (plainReply .done index, t)) s)

/-! ### Looking records up -/

/-- R15, R169: the change mark, the LEARN mark and the attention source that a response carrying a record's
group clears. -/
def clearLookedUp (r : RecordId) (group : BitVec 2) (s : State) : State :=
  match r with
  | .device =>
    if group = 0 then { s with link := { s.link with faultPending := false } } else s
  | .axle a => s.setAxle a { s.axles[a] with changeMark := false }
  | .wheel _ => s
  | .tyre p => s.setTyre p { s.tyres[p] with changeMark := false, learnOutstanding := false }
  | .channel _ => s
  | .candidate _ => { s with link := { s.link with candidatePending := false } }
  | .rollover => { s with link := { s.link with rolloverPending := false } }

/-- R169: a lookup of the CANDIDATE table refused as absent clears the CANDIDATE source. -/
def clearAbsent (t : TableId) (s : State) : State :=
  match t with
  | .candidate => { s with link := { s.link with candidatePending := false } }
  | .device | .axle | .wheel | .tyre | .channel | .rollover => s

/-- R168: the cursor is set. -/
def setCursor (t : TableId) (index : Nat) (s : State) : State :=
  { s with link := { s.link with cursorTable := t, cursorIndex := index } }

/-- R168: a record's group is answered. -/
def answerRecord (r : RecordId) (group : BitVec 2) (index : BitVec 5) (s : State) : Reply × State :=
  (⟨.done, index, groupWords s r group⟩, clearLookedUp r group s)

/-- R168: LOOKUP at its owner. -/
def lookupOwner (table : BitVec 3) (index : BitVec 5) (group : BitVec 2) (s : State) :
    Reply × State :=
  match TableId.ofCode table with
  | none => (plainReply .refusedRange index, s)
  | some t =>
    match recordOf t index.toNat with
    | none => (plainReply .refusedRange index, s)
    | some r =>
      if recordExists s r then answerRecord r group index (setCursor t index.toNat s)
      else (plainReply .refusedAbsent index, clearAbsent t (setCursor t index.toNat s))

/-- LOOKUP (R168). -/
def execLookup (table : BitVec 3) (index : BitVec 5) (group : BitVec 2) (s : State) :
    Outcome State Fault Refusal :=
  .next (request 1 (lookupOwner table index group) s)

/-- R168: the indices after the cursor's, ascending, wrapping, ending with the cursor's own. -/
def indicesAfter (t : TableId) (index : Nat) : List Nat :=
  (List.range t.size).map fun k => (index + 1 + k) % t.size

/-- R168: the first index after the cursor's whose record exists, with the record. -/
def nextRecord (s : State) (t : TableId) (index : Nat) : Option (Nat × RecordId) :=
  (indicesAfter t index).findSome? fun i =>
    match recordOf t i with
    | none => none
    | some r => if recordExists s r then some (i, r) else none

/-- R168: LOOKUP_NEXT at its owner. -/
def lookupNextOwner (index : BitVec 5) (group : BitVec 2) (s : State) : Reply × State :=
  match nextRecord s s.link.cursorTable s.link.cursorIndex with
  | none => (plainReply .refusedAbsent index, clearAbsent s.link.cursorTable s)
  | some (i, r) =>
    answerRecord r group (BitVec.ofNat 5 i) (setCursor s.link.cursorTable i s)

/-- LOOKUP_NEXT (R168). -/
def execLookupNext (index : BitVec 5) (group : BitVec 2) (s : State) :
    Outcome State Fault Refusal :=
  .next (request 2 (lookupNextOwner index group) s)

/-! ### The attention enables -/

/-- R170: SET_ATTENTION at its owner. -/
def setAttentionOwner (index : BitVec 5) (enables : Word) (s : State) : Reply × State :=
  if 63 < enables.toNat then (plainReply .refusedRange index, s)
  else
    (plainReply .done index,
      { s with device := { s.device with attentionEnable := enables.extractLsb' 0 6 } })

/-- SET_ATTENTION (R170). -/
def execSetAttention (index : BitVec 5) (enables : Word) (s : State) : Outcome State Fault Refusal :=
  .next (request 14 (setAttentionOwner index enables) s)

end Sys2Proof.Machine
end

