-- ==== Sys2Proof/Machine/Requests.lean ====
section
/-! DEFINITION. The requests that other blocks take: AMEND, the tyre requests, LIFT_COMMAND, EXERCISE, and
the Operating-State Controller's (chapters 1, 4, 6, 10, 12). -/

namespace Sys2Proof.Machine

open Host (Outcome)

/-! ### AMEND -/

/-- R11: AMEND at its owner. -/
def amendOwner (table : BitVec 3) (index : BitVec 5) (field value : Word) (s : State) : Reply × State :=
  match namedRecord s table index with
  | .error e => (plainReply e index, s)
  | .ok r => (plainReply (amendRecord r field value s).1 index, (amendRecord r field value s).2)

/-- AMEND (R11 to R13). -/
def execAmend (table : BitVec 3) (index : BitVec 5) (field value : Word) (s : State) :
    Outcome State Fault Refusal :=
  .next (request 3 (amendOwner table index field value) s)

/-! ### The tyre requests -/

/-- R5, R150 steps 1 and 2: the tyre position a request names, or the result that refuses it. -/
def namedTyre (s : State) (table : BitVec 3) (index : BitVec 5) : Except Result (Fin 16) :=
  if table = 3 then
    if h : index.toNat < 16 then
      if s.tyres[index.toNat].present then .ok ⟨index.toNat, h⟩ else .error .refusedAbsent
    else .error .refusedRange
  else .error .refusedRange

/-- R150 steps 3 to 6: the result that refuses an ENROL of an existing position. -/
def enrolRefusal (s : State) (p : Fin 16) (high : Word) (id : SensorId) : Option Result :=
  if 255 < high.toNat ∨ id = 0 ∨ id = 0xFFFFFF then some .refusedRange
  else if s.tyres[p].state = .learning then some .refusedBusy
  else if s.tyres[p].state.isPaired then some .refusedState
  else if (pairedPosition s id).isSome then some .refusedDuplicate
  else none

/-- R150: the 24-bit ID of the two argument words. -/
def idOfWords (high low : Word) : SensorId := high.extractLsb' 0 8 ++ low

/-- R150: ENROL at its owner. -/
def enrolOwner (table : BitVec 3) (index : BitVec 5) (high low : Word) (s : State) : Reply × State :=
  match namedTyre s table index with
  | .error e => (plainReply e index, s)
  | .ok p =>
    match enrolRefusal s p high (idOfWords high low) with
    | some e => (plainReply e index, s)
    | none =>
      (plainReply .done index,
        removeCandidate (idOfWords high low) (putTyre p (s.tyres[p].paired (idOfWords high low)) s))

/-- ENROL (R150, R146). -/
def execEnrol (table : BitVec 3) (index : BitVec 5) (high low : Word) (s : State) :
    Outcome State Fault Refusal :=
  .next (request 4 (enrolOwner table index high low) s)

/-- R151: RETIRE at its owner. -/
def retireOwner (table : BitVec 3) (index : BitVec 5) (s : State) : Reply × State :=
  match namedTyre s table index with
  | .error e => (plainReply e index, s)
  | .ok p =>
    match s.tyres[p].state with
    | .unpaired => (plainReply .refusedState index, s)
    | .learning => (plainReply .done index, endLearning p .cancelled s)
    | .live => (plainReply .done index, putTyre p s.tyres[p].unpaired s)
    | .missing => (plainReply .done index, putTyre p s.tyres[p].unpaired s)

/-- RETIRE (R151). -/
def execRetire (table : BitVec 3) (index : BitVec 5) (s : State) : Outcome State Fault Refusal :=
  .next (request 5 (retireOwner table index) s)

/-- R152: LEARN at its owner. -/
def learnOwner (table : BitVec 3) (index : BitVec 5) (s : State) : Reply × State :=
  match namedTyre s table index with
  | .error e => (plainReply e index, s)
  | .ok p =>
    if s.tyres[p].state = .unpaired ∧ learningPosition s = none then
      (plainReply .done index,
        putTyre p { s.tyres[p] with
          state := .learning, learnResult := .noResult, learnTimer := some learnTime } s)
    else (plainReply .refusedBusy index, s)

/-- LEARN (R152). -/
def execLearn (table : BitVec 3) (index : BitVec 5) (s : State) : Outcome State Fault Refusal :=
  .next (request 6 (learnOwner table index) s)

/-- R154: CANCEL_LEARN at its owner. -/
def cancelLearnOwner (index : BitVec 5) (s : State) : Reply × State :=
  match learningPosition s with
  | none => (plainReply .refusedState index, s)
  | some p => (plainReply .done index, endLearning p .cancelled s)

/-- CANCEL_LEARN (R154). -/
def execCancelLearn (index : BitVec 5) (s : State) : Outcome State Fault Refusal :=
  .next (request 7 (cancelLearnOwner index) s)

/-! ### LIFT_COMMAND -/

/-- R59: LIFT_COMMAND at its owner. -/
def liftCommandOwner (index : BitVec 5) (mode : Word) (s : State) : Reply × State :=
  match liftAxle s with
  | none => (plainReply .refusedAbsent index, s)
  | some a =>
    if mode.toNat < 3 then
      (plainReply .done index,
        s.setAxle a { s.axles[a] with liftMode := LiftMode.ofCode mode.toNat })
    else (plainReply .refusedRange index, s)

/-- LIFT_COMMAND (R59). -/
def execLiftCommand (index : BitVec 5) (mode : Word) (s : State) : Outcome State Fault Refusal :=
  .next (request 8 (liftCommandOwner index mode) s)

/-! ### EXERCISE -/

/-- R97 step 2: the action of an EXERCISE's argument word. -/
def ExerciseAction.ofWord (argument : Word) : Option ExerciseAction :=
  match (argument.extractLsb' 14 2).toNat with
  | 0 => some .apply
  | 1 => some .hold
  | 2 => some .vent
  | _ => none

/-- R97 step 5: the duration, in ms, of an EXERCISE's argument word. -/
def exerciseDuration (argument : Word) : Nat := (argument.extractLsb' 0 14).toNat

/-- R97 step 4. -/
def mayExercise (s : State) (c : Fin 4) : Bool :=
  s.device.state == .active && s.device.referenceSpeed == 0 && !s.device.braking
    && s.channels[c].commanded == 0 && s.channels[c].state == .electronic

/-- R98: an exercise starts. -/
def startExercise (c : Fin 4) (action : ExerciseAction) (ms : Nat) (s : State) : State :=
  requestAction c action.valve
    (s.setChannel c ({ s.channels[c] with
      state := .exercise
      exerciseAction := some action
      exerciseTimer := some (ms * 1000) } : Channel).arbitrate)

/-- R97 steps 2 to 5 for an existing channel. -/
def exerciseChannel (c : Fin 4) (index : BitVec 5) (argument : Word) (s : State) : Reply × State :=
  match ExerciseAction.ofWord argument with
  | none => (plainReply .refusedRange index, s)
  | some action =>
    if s.channels[c].state = .exercise then (plainReply .refusedBusy index, s)
    else if mayExercise s c then
      (plainReply
          (if clampNat 10 2000 (exerciseDuration argument) = exerciseDuration argument then .done
           else .doneClamped) index,
        startExercise c action (clampNat 10 2000 (exerciseDuration argument)) s)
    else (plainReply .refusedState index, s)

/-- R97: EXERCISE at its owner. -/
def exerciseOwner (table : BitVec 3) (index : BitVec 5) (argument : Word) (s : State) :
    Reply × State :=
  if table = 4 then
    if h : index.toNat < 4 then
      if s.channels[index.toNat].present then exerciseChannel ⟨index.toNat, h⟩ index argument s
      else (plainReply .refusedAbsent index, s)
    else (plainReply .refusedRange index, s)
  else (plainReply .refusedRange index, s)

/-- EXERCISE (R97, R98). -/
def execExercise (table : BitVec 3) (index : BitVec 5) (argument : Word) (s : State) :
    Outcome State Fault Refusal :=
  .next (request 9 (exerciseOwner table index argument) s)

/-! ### The Operating-State Controller's requests -/

/-- R173: the reply to a GO_ACTIVE that the completeness check refuses. -/
def configReply (index : BitVec 5) (t : TableId) (i reason : Nat) : Reply :=
  ⟨.refusedConfig, index,
    ((noData.set 0 (quantity t.code)).set 1 (quantity i)).set 2 (quantity reason)⟩

/-- R173: GO_ACTIVE at its owner. -/
def goActiveOwner (index : BitVec 5) (s : State) : Reply × State :=
  match s.device.state with
  | .active => (plainReply .done index, s)
  | .waitRelease => (plainReply .done index, setDeviceState .active s)
  | .standby =>
    match firstIncomplete s with
    | some (t, i, reason) => (configReply index t i reason, s)
    | none => (plainReply .done index, setDeviceState .active s)
  | .init => (plainReply .done index, s)

/-- GO_ACTIVE (R173, R174). -/
def execGoActive (index : BitVec 5) (s : State) : Outcome State Fault Refusal :=
  .next (request 10 (goActiveOwner index) s)

/-- R175: every running exercise ends with the end STANDBY. -/
def endExercises (s : State) : State :=
  forEach 4
    (fun c s =>
      if s.channels[c].present && s.channels[c].state == .exercise then finishExercise c .standby s
      else s) s

/-- R175: GO_STANDBY at its owner. -/
def goStandbyOwner (index : BitVec 5) (s : State) : Reply × State :=
  (plainReply .done index,
    if s.device.state == .active || s.device.state == .waitRelease then
      let t := endExercises s
      setDeviceState (if releaseConditions t then .standby else .waitRelease) t
    else s)

/-- GO_STANDBY (R175). -/
def execGoStandby (index : BitVec 5) (s : State) : Outcome State Fault Refusal :=
  .next (request 11 (goStandbyOwner index) s)

/-- SOFT_RESET (R180, R166): the restart at the rise of SELECT; its own result is never sent, for the
restart leaves the reset response. -/
def execSoftReset (_index : BitVec 5) (s : State) : Outcome State Fault Refusal :=
  .next (transact restart s)

/-- R178: a mark whose condition is absent is cleared. -/
def FaultMark.acknowledged (m : FaultMark) : FaultMark := ⟨m.present, m.latched && m.present⟩

/-- R178: every instance is acknowledged. -/
def FaultSet.acknowledged (f : FaultSet) : FaultSet where
  valveOpen := f.valveOpen.map FaultMark.acknowledged
  valveShort := f.valveShort.map FaultMark.acknowledged
  delivered := f.delivered.map FaultMark.acknowledged
  demand := f.demand.acknowledged
  reservoir := f.reservoir.acknowledged
  bellows := f.bellows.map FaultMark.acknowledged
  speed := f.speed.map FaultMark.acknowledged
  supplyWait := f.supplyWait.map FaultMark.acknowledged
  lift := f.lift.acknowledged
  supplyLow := f.supplyLow.acknowledged
  jam := f.jam.acknowledged
  linkFrame := f.linkFrame.acknowledged

/-- R178: ACK_FAULTS at its owner. -/
def ackFaultsOwner (index : BitVec 5) (s : State) : Reply × State :=
  (plainReply .done index,
    settle { s with
      faults := s.faults.acknowledged
      device := { s.device with restarted := false }
      link := { s.link with faultPending := false } })

/-- ACK_FAULTS (R178, R169). -/
def execAckFaults (index : BitVec 5) (s : State) : Outcome State Fault Refusal :=
  .next (request 13 (ackFaultsOwner index) s)

end Sys2Proof.Machine
end

