-- ==== Sys2Proof/Machine/Resets.lean ====
section
/-! DEFINITION. Power-on, the logic supply, the RESET line and the end of INIT (R172, R180). -/

namespace Sys2Proof.Machine

open Host (Outcome)

/-- POWER_ON (R180): a full reset, which ends at once if neither the logic supply nor the RESET line
holds it. -/
def execPowerOn (straps : BitVec 2) (s : State) : Outcome State Fault Refusal :=
  .next (endFullReset straps (beginFullReset s))

/-- LOGIC_SUPPLY_LOW (R180): the part is held in full reset. A supply already low stays low. -/
def execLogicSupplyLow (s : State) : Outcome State Fault Refusal :=
  .next (if s.device.supplyFail then s
    else beginFullReset { s with device := { s.device with supplyFail := true } })

/-- LOGIC_SUPPLY_RESTORED (R180): if no other cause stands, the reset ends. A supply that was not low
leaves the part as it is. -/
def execLogicSupplyRestored (straps : BitVec 2) (s : State) : Outcome State Fault Refusal :=
  .next (if s.device.supplyFail then
      endFullReset straps { s with device := { s.device with supplyFail := false } }
    else s)

/-- RESET_LINE_ASSERT (R180): the part is held in full reset. A line already low stays low. -/
def execResetLineAssert (s : State) : Outcome State Fault Refusal :=
  .next (if s.device.resetLow then s
    else beginFullReset { s with device := { s.device with resetLow := true } })

/-- RESET_LINE_RELEASE (R180): if no other cause stands, the reset ends. -/
def execResetLineRelease (straps : BitVec 2) (s : State) : Outcome State Fault Refusal :=
  .next (if s.device.resetLow then
      endFullReset straps { s with device := { s.device with resetLow := false } }
    else s)

/-- R82: an existing OFF channel enters FALLBACK. -/
def leaveOff (c : Fin 4) (s : State) : State :=
  if s.channels[c].present && s.channels[c].state == .off then enterFallback c s else s

/-- INIT_TIMER_EXPIRY (R172, R82). -/
def execInitTimerExpiry (s : State) : Outcome State Fault Refusal :=
  .next (whileRunning (fun s =>
    if s.device.initTimer.isSome then
      let s := { s with device := { s.device with initTimer := none } }
      forEach 4 leaveOff (setDeviceState .standby s)
    else s) s)

end Sys2Proof.Machine
end

