-- ==== Sys2Proof/Machine/Scan.lean ====
section
/-! DEFINITION. SCAN_COMPLETION: what the Analog Scan Unit publishes, and what each block that takes the
scan completion does (chapters 2, 4, 5, 6; R112, R175). -/

namespace Sys2Proof.Machine

open Host (Outcome)

/-! ### The Analog Scan Unit -/

/-- R24: the value written for an input at a scan completion: its conversion, or its hold value. -/
def AnalogInput.value (i : AnalogInput) : Nat := i.hold

/-- R18, R19: the inputs after a scan; one whose channel or axle does not exist is skipped. -/
def scanInputs (r : ScanInputs) (s : State) : Analog :=
  { s.analog with
    demand := s.analog.demand.next r.demand
    reservoir := s.analog.reservoir.next r.reservoir
    delivered := Vector.ofFn fun c =>
      if s.channels[c].present then s.analog.delivered[c].next r.delivered[c] else s.analog.delivered[c]
    bellows := Vector.ofFn fun a =>
      if s.axles[a].present then s.analog.bellows[a].next r.bellows[a] else s.analog.bellows[a] }

/-- R24: a channel's delivered pressure is written and its sensor condition reported. -/
def publishDelivered (c : Fin 4) (s : State) : State :=
  if s.channels[c].present then
    report (.delivered c) s.analog.delivered[c].fault
      (s.setChannel c { s.channels[c] with delivered := s.analog.delivered[c].value })
  else s

/-- R23, R24, R51: an axle's bellows raw value is written, and its reported sensor condition, a watched
field. A bellows fault that has ended since the last scan completion (R177, R178) leaves no frozen value, so
that one which begins at this scan completion freezes this scan's value. -/
def publishBellows (a : Fin 4) (s : State) : State :=
  if s.axles[a].present then
    let i := s.analog.bellows[a]
    report (.bellows a) i.fault
      (putAxle a { s.axles[a] with
        bellowsRaw := i.value
        bellowsFault := i.fault && !masked s (.bellows a)
        frozen := if bellowsFaulty s a then s.axles[a].frozen else none } s)
  else s

/-- R18, R24, R25, R27: the working set is written whole: the DEVICE fields and the braking flag, then
every channel's and axle's value, with the conditions reported. -/
def publish (r : ScanInputs) (s : State) : State :=
  let inputs := scanInputs r s
  let mv := supplyOfRaw r.supply
  let low := supplyLowAfter (supplyLow s) mv
  let s :=
    { s with
      analog := inputs
      device :=
        { s.device with
          demand := inputs.demand.value
          reservoir := inputs.reservoir.value
          valveSupply := mv
          braking := decide (s.device.dMin ≤ inputs.demand.value) } }
  let s := report .supplyLow low s
  let s := report .demand s.analog.demand.fault s
  let s := report .reservoir s.analog.reservoir.fault s
  settle (forEach 4 publishBellows (forEach 4 publishDelivered s))

/-! ### The Load Unit -/

/-- R49, R50, R51: an axle's filter takes its step. -/
def Axle.filtered (x : Axle) (faulty : Bool) : Axle :=
  let frozen := if faulty then some (x.frozen.getD x.bellowsRaw) else none
  let input := frozen.getD x.bellowsRaw
  { x with
    frozen := frozen
    bellowsFiltered := if x.filterEmpty then input else filterStep x.bellowsFiltered input
    filterEmpty := false }

/-- R52, R53: an axle's load and load fraction computed afresh from its filtered pressure. -/
def Axle.weighed (x : Axle) : Axle :=
  let load := curveLoad x.curve x.bellowsFiltered
  { x with load := load, loadFraction := loadFractionOf load x.l0 x.l1 }

/-- Section 4.5: the hold condition. -/
def holdCondition (s : State) : Bool := s.device.braking || s.rollover.state.intervening

/-- R55, R56: the load state and the hold release count after a scan completion. -/
def LoadUnit.next (u : LoadUnit) (braking intervening : Bool) : LoadUnit :=
  match u.loadState with
  | .live => if braking || intervening then ⟨.held, 0⟩ else ⟨.live, u.releaseCount⟩
  | .held =>
    if braking then ⟨.held, 0⟩
    else
      let count := min 100 (u.releaseCount + 1)
      if 100 ≤ count ∧ intervening = false then ⟨.live, count⟩ else ⟨.held, count⟩

/-- R48 stages 1 to 3 for one axle, `before` and `after` being the Load Unit's state. -/
def loadAxle (before after : LoadUnit) (a : Fin 4) (s : State) : State :=
  if s.axles[a].present then
    let x := s.axles[a].filtered (bellowsFaulty s a)
    let fresh := x.liftState == .down && !x.seenDown
    let x :=
      match before.loadState, after.loadState with
      | _, .live => x.weighed
      | .held, .held => if fresh then x.weighed else x
      | .live, .held => x
    s.setAxle a { x with
      seenDown := x.liftState.isDown
      changeMark := x.changeMark || before.loadState != after.loadState }
  else s

/-- R54: the sum of a field over the down axles of a set. -/
def sumDown (s : State) (inSet : Fin 4 → Bool) (f : Axle → Nat) : Nat :=
  ((List.finRange 4).map fun a => if axleDown s a && inSet a then f s.axles[a] else 0).sum

/-- R54: the load fraction over the down axles of a set. -/
def fractionOver (s : State) (inSet : Fin 4 → Bool) : Nat :=
  loadFractionOf (sumDown s inSet Axle.load) (sumDown s inSet Axle.l0) (sumDown s inSet Axle.l1)

/-- R2: an axle is in a channel's group. -/
def Channel.hasAxle (c : Channel) (a : Fin 4) : Bool :=
  decide (c.groupFirst.val ≤ a.val) && decide (a.val ≤ c.groupLast.val)

/-- R54, R70: a channel's fraction and group-bearing indication are handed over. -/
def handOver (c : Fin 4) (s : State) : State :=
  if s.channels[c].present then
    let ch := s.channels[c]
    s.setChannel c { ch with
      handFraction := fractionOver s ch.hasAxle
      handBearing := (List.finRange 4).any fun a => axleDown s a && ch.hasAxle a }
  else s

/-- R48: the Load Unit's operation. -/
def loadUnitScan (s : State) : State :=
  let before := s.loadUnit
  let after := before.next s.device.braking s.rollover.state.intervening
  let s := { s with loadUnit := after }
  let s := forEach 4 (loadAxle before after) s
  let s := { s with device := { s.device with fTot := fractionOver s (fun _ => true) } }
  forEach 4 handOver s

/-! ### The Lift Controller -/

/-- R60: the light count after a scan completion. -/
def lightCountAfter (s : State) (a : Fin 4) : Nat :=
  if s.axles[a].liftState = .down ∧ s.device.fTot < s.axles[a].fRaise then
    min 2000 (s.lift.lightCount + 1)
  else 0

/-- R61: a raise starts. -/
def startRaise (a : Fin 4) (s : State) : State :=
  let s := putAxle a { s.axles[a] with liftState := .raising } s
  requestLift true
    { s with lift := { s.lift with raiseTimer := some raiseTime, lightCount := 0 } }

/-- R62: a raise is complete. -/
def completeRaise (a : Fin 4) (s : State) : State :=
  let s := putAxle a { s.axles[a] with liftState := .up } s
  { s with lift := { s.lift with raiseTimer := none } }

/-- R65: a lowering is complete. -/
def completeLowering (a : Fin 4) (s : State) : State :=
  let s := putAxle a { s.axles[a] with liftState := .down } s
  { s with lift := { s.lift with loweringTimer := none, lightCount := 0 } }

/-- R63: an UP axle with a lowering cause; an overload switches MANUAL_UP to AUTO. -/
def lowerRaised (a : Fin 4) (s : State) : State :=
  let switch := overloaded s a && s.axles[a].liftMode == .manualUp
  let s := startLowering a s
  if switch then s.setAxle a { s.axles[a] with liftMode := .auto } else s

/-- R65: a lowering ends at a scan completion at which the pressure is back, unless a bellows fault makes
the comparison say nothing: then the Controller waits out the lowering timer. -/
def lowered (s : State) (a : Fin 4) : Bool :=
  s.axles[a].liftState == .lowering && !bellowsFaulty s a
    && decide (s.axles[a].bDown ≤ s.axles[a].bellowsFiltered)

/-- R60 to R66: the Lift Controller's operation. A lowering that ends at this scan completion ends before
the light count is updated (section 4.7); a raise starts from an axle that was DOWN when the scan
completion was taken (log entry 11). -/
def liftScan (s : State) : State :=
  let s := report .lift false s
  match liftAxle s with
  | none => { s with lift := { s.lift with lightCount := 0 } }
  | some a =>
    let was := s.axles[a].liftState
    let s := if lowered s a then completeLowering a s else s
    let s := { s with lift := { s.lift with lightCount := lightCountAfter s a } }
    match was with
    | .down => if mayRaise s a then startRaise a s else s
    | .raising =>
      if raiseInhibited s a then startLowering a s
      else if s.axles[a].bellowsFiltered < s.axles[a].bUp then completeRaise a s
      else s
    | .up => if mustLower s a then lowerRaised a s else s
    | .lowering => s
    | .notLiftable => s

/-! ### The Pressure Target Unit -/

/-- R69 to R75: a channel's fraction, gain and target. -/
def Channel.targeted (c : Channel) (demand : Nat) (braking : Bool) : Channel :=
  let gain := if c.handBearing then gainOf c.gEmpty c.gLaden c.handFraction else c.gEmpty
  { c with
    fraction := c.handFraction
    groupBearing := c.handBearing
    gain := gain
    target := if braking && c.handBearing then targetOf demand gain c.pLim else 0 }

/-- R69, R76: the Pressure Target Unit's operation; each target is handed to its arbiter. -/
def pressureTargetScan (s : State) : State :=
  forEach 4
    (fun c s =>
      if s.channels[c].present then
        arbitrate c
          (s.setChannel c (s.channels[c].targeted s.device.demand s.device.braking))
      else s) s

/-! ### The Channel Controllers -/

/-- R88: the reservoir passes the supply check for an apply, given the action in force. -/
def supplyPasses (s : State) (inForce : ValveAction) : Bool :=
  faulty s .reservoir
    || (match inForce with
        | .apply => decide (s.device.supplyOn - 50 ≤ s.device.reservoir)
        | .hold | .vent | .allOff => decide (s.device.supplyOn ≤ s.device.reservoir))

/-- R86: the action a channel's loop chooses. -/
def Channel.loop (c : Channel) : ValveAction := loopAction c.commanded c.delivered c.band

/-- R86, R88: the loop of a channel in ELECTRONIC. -/
def runLoop (c : Fin 4) (s : State) : State :=
  match s.channels[c].loop with
  | .apply =>
    if supplyPasses s s.channels[c].action then requestAction c .apply s
    else
      requestAction c .hold
        (s.setChannel c { s.channels[c] with state := .supplyWait, supplyTimer := some supplyTime })
  | .hold => requestAction c .hold s
  | .vent => requestAction c .vent s
  | .allOff => requestAction c .allOff s

/-- R89: the loop of a channel in SUPPLY_WAIT; an APPLY is carried out as HOLD. -/
def runWaitingLoop (c : Fin 4) (s : State) : State :=
  match s.channels[c].loop with
  | .apply => requestAction c .hold s
  | .hold => requestAction c .hold s
  | .vent => requestAction c .vent s
  | .allOff => requestAction c .allOff s

/-- R85 to R89, R99: a Channel Controller takes a scan completion. An exercise that finds the braking flag
at 1 and the reference speed above 0 at one scan completion ends with BRAKING: R99 does not rank the two, and
the flag, written by the scan itself, became 1 first (log entry 33, the model's choice). -/
def channelScan (c : Fin 4) (s : State) : State :=
  if s.channels[c].present then
    match s.channels[c].state with
    | .off => s
    | .electronic => runLoop c s
    | .supplyWait =>
      if decide (s.device.supplyOn ≤ s.device.reservoir) || faulty s .reservoir then
        runLoop c
          (report (.supplyWait c) false
            (s.setChannel c { s.channels[c] with state := .electronic, supplyTimer := none }))
      else runWaitingLoop c s
    | .exercise =>
      if s.device.braking then finishExercise c .braking s
      else if 0 < s.device.referenceSpeed then finishExercise c .moving s
      else s
    | .fallback =>
      if fallbackReason s c = .noReason then
        runLoop c (s.setChannel c { s.channels[c] with state := .electronic, reason := .noReason })
      else s
  else s

/-! ### The Valve Driver Stage -/

/-- R94: the low-reading count of an output after its current is sampled. -/
def Output.sampled (x : Output) (low : Bool) : Output :=
  if x.checked then { x with lowCount := if low then min 3 (x.lowCount + 1) else 0 } else x

/-- R94, R95: the Valve Driver Stage's operation: every checked output is sampled, every VALVE_SHORT
condition is reported absent, the VALVE_OPEN conditions are reported, and the channels follow. -/
def valveDriverScan (low : BitVec 13) (s : State) : State :=
  let s :=
    { s with outputs := Vector.ofFn fun o => s.outputs[o].sampled (low.getLsbD o.val) }
  let s := forEach 13 (fun o s => report (.valveShort o) false s) s
  settle
    (forEach 13
      (fun o s =>
        if s.outputs[o].checked then report (.valveOpen o) (s.outputs[o].lowCount == 3) s else s) s)

/-! ### The Anti-Lock Unit -/

/-- R107, R112: anti-lock control of a channel goes OFF: no cap, no timer. -/
def Channel.antiLockOff (c : Channel) : Channel :=
  { c with antiLock := .off, cap := none, holdTimer := none, stepTimer := none }

/-- R112: the scan completions at which a braking starts (`before` 0, flag 1) or ends. -/
def antiLockScan (before : Bool) (s : State) : State :=
  forEach 4
    (fun c s =>
      if s.channels[c].present then
        if !before && s.device.braking then
          s.setChannel c { s.channels[c] with releaseCount := 0 }
        else if before && !s.device.braking && s.channels[c].rolloverRequest == 0 then
          arbitrate c (s.setChannel c s.channels[c].antiLockOff)
        else s
      else s) s

/-! ### The Operating-State Controller -/

/-- R175: in WAIT_RELEASE the release conditions are tested at each scan completion. -/
def waitReleaseScan (s : State) : State :=
  if s.device.state == .waitRelease && releaseConditions s then setDeviceState .standby s else s

/-! ### The scan completion -/

/-- What a block does when it takes a scan completion; `before` is the braking flag of the scan before. -/
def takeScan (r : ScanInputs) (before : Bool) (agent : ScanAgent) (s : State) : State :=
  match agent with
  | .loadUnit => loadUnitScan s
  | .liftController => liftScan s
  | .pressureTarget => pressureTargetScan s
  | .channel c => channelScan c s
  | .valveDriver => valveDriverScan r.lowCurrent s
  | .antiLock => antiLockScan before s
  | .operatingState => waitReleaseScan s

/-- The order in which the blocks take a scan completion: the order named, each block once; a block that
is not named comes after those that are. -/
def completeOrder (order : List ScanAgent) : List ScanAgent :=
  order.dedup ++ allScanAgents.filter fun a => !order.contains a

/-- R18: the scan timer's expiry: the working set is published, and the blocks take the completion. -/
def scanCompletion (r : ScanInputs) (order : List ScanAgent) (s : State) : State :=
  let before := s.device.braking
  (completeOrder order).foldl (fun s a => takeScan r before a s) (publish r s)

/-- SCAN_COMPLETION. While the scan timer is stopped it does not expire. -/
def execScanCompletion (r : ScanInputs) (order : List ScanAgent) (s : State) :
    Outcome State Fault Refusal :=
  .next (whileRunning (fun s => if s.analog.scanTimer.isSome then scanCompletion r order s else s) s)

end Sys2Proof.Machine
end

