-- ==== Sys2Proof/Machine/AntiLock.lean ====
section
/-! DEFINITION. The Anti-Lock Unit at a sample set, and HOLD_TIMER_EXPIRY and STEP_TIMER_EXPIRY
(chapter 7). -/

namespace Sys2Proof.Machine

open Host (Outcome)

/-- R102 to R104: a wheel-end's slip, deceleration and wish at a sample set with reference `v`. -/
def Wheel.judged (w : Wheel) (v slipRel : Nat) : Wheel :=
  let decel := decelerationOf w.previousSpeed w.speed
  if w.valid = true ∧ 150 ≤ v then
    let slip := slipOf v w.speed
    { w with
      slip := some slip
      deceleration := decel
      wish := wishAfter w.wish slipRel slip decel }
  else { w with slip := none, deceleration := decel, wish := .free }

/-- R101 stages 1 and 2. -/
def judgeWheels (s : State) : State :=
  { s with
    wheels := Vector.ofFn fun w =>
      if s.wheels[w].present then
        s.wheels[w].judged s.device.referenceSpeed s.device.slipRel
      else s.wheels[w] }

/-- R108: an entry to RELEASE. -/
def Channel.enterRelease (c : Channel) : Channel :=
  { c with
    antiLock := .release
    cap := some 0
    holdTimer := none
    stepTimer := none
    releaseCount := min 255 (c.releaseCount + 1) }

/-- R108: FOLLOW has no cap and no timer. -/
def Channel.enterFollow (c : Channel) : Channel :=
  { c with antiLock := .follow, cap := none, holdTimer := none, stepTimer := none }

/-- R108: an entry to HOLD takes the delivered pressure as the cap. -/
def Channel.enterHold (c : Channel) : Channel :=
  { c with antiLock := .hold, cap := some c.delivered, holdTimer := some holdTime, stepTimer := none }

/-- R109, R110: an entry to REAPPLY with the cap unchanged; a cap at or above U enters FOLLOW at once. -/
def Channel.enterReapply (c : Channel) : Channel :=
  if c.uncapped ≤ c.cap.getD 0 then c.enterFollow
  else { c with antiLock := .reapply, holdTimer := none, stepTimer := some stepTime }

/-- R107 to R110: a channel's step at a sample set: `runs` are its run conditions, `release` its selected
wish, `settled` the condition of row 2 of R109. -/
def Channel.antiLockStep (c : Channel) (runs release settled : Bool) : Channel :=
  if runs then
    match c.antiLock with
    | .off => if release then c.enterFollow.enterRelease else c.enterFollow
    | .follow => if release then c.enterRelease else c
    | .release => if release then { c with cap := some 0 } else c.enterHold
    | .hold => if release then c.enterRelease else if settled then c.enterReapply else c
    | .reapply =>
      if release then c.enterRelease
      else if c.uncapped ≤ c.cap.getD 0 then c.enterFollow
      else c
  else c.antiLockOff

/-- R101 stages 3 and 4, R111: a channel steps and its state and cap reach its arbiter. -/
def antiLockChannel (c : Fin 4) (s : State) : State :=
  if s.channels[c].present then
    arbitrate c
      (s.setChannel c
        (s.channels[c].antiLockStep (antiLockRuns s c) (selectsRelease s c) (slipsSettled s c)))
  else s

/-- R101: the Anti-Lock Unit's operation at a sample set. -/
def antiLockSample (s : State) : State := forEach 4 antiLockChannel (judgeWheels s)

/-- HOLD_TIMER_EXPIRY (R109): a channel still in HOLD enters REAPPLY. -/
def execHoldTimerExpiry (c : Fin 4) (s : State) : Outcome State Fault Refusal :=
  .next (whileRunning (fun s =>
    if s.channels[c].holdTimer.isSome then
      arbitrate c (s.setChannel c
        (if s.channels[c].antiLock = .hold then s.channels[c].enterReapply
         else { s.channels[c] with holdTimer := none }))
    else s) s)

/-- R110: the cap rises by 20 kPa, to at most 1000, and the channel follows once it reaches U. -/
def Channel.stepCap (c : Channel) : Channel :=
  let cap := min 1000 (c.cap.getD 0 + 20)
  if c.uncapped ≤ cap then c.enterFollow
  else { c with cap := some cap, stepTimer := some stepTime }

/-- STEP_TIMER_EXPIRY (R110). -/
def execStepTimerExpiry (c : Fin 4) (s : State) : Outcome State Fault Refusal :=
  .next (whileRunning (fun s =>
    if s.channels[c].stepTimer.isSome then
      arbitrate c (s.setChannel c
        (if s.channels[c].antiLock = .reapply then s.channels[c].stepCap
         else { s.channels[c] with stepTimer := none }))
    else s) s)

end Sys2Proof.Machine
end

