-- ==== Sys2Proof/Machine/Rollover.lean ====
section
/-! DEFINITION. The Rollover Monitor at a sample set, and the expiries of its timers (chapter 8). -/

namespace Sys2Proof.Machine

open Host (Outcome)

/-- The state with the ROLLOVER record replaced. -/
def State.setRollover (s : State) (r : Rollover) : State := { s with rollover := r }

/-- R131: every existing channel is handed the same ROLLOVER request, which is the request level. -/
def handAll (v : Nat) (s : State) : State :=
  forEach 4 (handRequest v) (s.setRollover { s.rollover with level := v })

/-- R117, R128: the ROLLOVER attention event. -/
def raiseRollover (s : State) : State := { s with link := { s.link with rolloverPending := true } }

/-- A test that is running ends: its timer stops and the test spacing timer starts (R124, R126). -/
def endTest (result : TestResult) (s : State) : State :=
  if s.rollover.state = .test then
    s.setRollover { s.rollover with
      testResult := result, testTimer := none, spacingTimer := some spacingTime }
  else s

/-- R116, R117: the monitor withdraws: requests 0, every timer but the spacing timer stopped, the raw
value and the estimating axle absent; a running test ends without a result. -/
def withdraw (next : RolloverState) (s : State) : State :=
  let s := endTest .noResult s
  handAll 0 (s.setRollover { s.rollover with
    state := next, raw := none, axle := none, testTimer := none, minTimer := none, rampTimer := none })

/-- R116: the monitor enters OFF; leaving DEGRADED is an attention event (R117). -/
def enterOff (s : State) : State :=
  if s.rollover.state = .off then s
  else if s.rollover.state = .degraded then raiseRollover (withdraw .off s)
  else withdraw .off s

/-- R117: the monitor enters DEGRADED. -/
def enterDegraded (s : State) : State := raiseRollover (withdraw .degraded s)

/-- R116, R117, R120: the monitor enters MONITOR from OFF or DEGRADED, its filter at 0. -/
def enterMonitor (s : State) : State :=
  let t := s.setRollover { s.rollover with state := .monitor, filtered := 0 }
  if s.rollover.state = .degraded then raiseRollover t else t

/-- R116, R117: stages 1 and 2 of a sample set, `degraded` being whether a DEGRADED condition holds. -/
def applyOffAndDegraded (degraded : Bool) (s : State) : State :=
  if !inControl s || (decide (s.device.referenceSpeed < 556) && !s.rollover.state.intervening) then
    enterOff s
  else
    match s.rollover.state with
    | .off => if degraded then enterDegraded s else enterMonitor s
    | .degraded => if degraded then s else enterMonitor s
    | .monitor => if degraded then enterDegraded s else s
    | .alert => if degraded then enterDegraded s else s
    | .test => if degraded then enterDegraded s else s
    | .intervene => s
    | .recover => s

/-- R119: the raw lateral acceleration at this sample set, where it is computed. -/
def rawNow (s : State) : Option Int :=
  match estimatingAxle s with
  | none => none
  | some a =>
    if 556 ≤ s.device.referenceSpeed then
      some (lateralRaw s.device.referenceSpeed s.wheels[wheelOf a .left].speed
        s.wheels[wheelOf a .right].speed s.axles[a].trackWidth)
    else none

/-- R122: the side the sign of a_f names as outer. -/
def outerSide (filtered : Int) : Option Side :=
  if 0 < filtered then some .left else if filtered < 0 then some .right else none

/-- R121, R122: the threshold at this sample set. -/
def thresholdNow (s : State) (filtered : Int) : Nat :=
  let t := thresholdOf s.rollover.aEmpty s.rollover.aLaden s.device.fTot
  match outerSide filtered with
  | none => t
  | some outer => if outerTyreSoft s outer then thresholdCut t else t

/-- Stages 3 and 4: the estimate, the threshold and the alert level. -/
def estimate (s : State) : State :=
  let raw := rawNow s
  let filtered :=
    match raw with
    | some a => lateralFilter s.rollover.filtered a
    | none => s.rollover.filtered
  let threshold := thresholdNow s filtered
  s.setRollover { s.rollover with
    axle := estimatingAxle s
    raw := raw
    filtered := filtered
    threshold := threshold
    alertLevel := alertOf threshold }

/-- |a_f|. -/
def Rollover.magnitude (r : Rollover) : Nat := r.filtered.natAbs

/-- R128: the monitor enters INTERVENE. -/
def enterIntervene (s : State) : State :=
  let r := s.rollover
  let inner :=
    match r.state with
    | .monitor => innerSide r.filtered r.inner
    | .alert => innerSide r.filtered r.inner
    | .off | .test | .intervene | .recover | .degraded => r.inner
  raiseRollover (handAll r.pRoll (s.setRollover { r with
    state := .intervene
    inner := inner
    interventions := min 255 (r.interventions + 1)
    minTimer := some interventionTime
    calm := 0
    rampTimer := none }))

/-- R125: the request a channel is handed at the start of a test. -/
def testRequest (s : State) (inner : Option Side) (c : Fin 4) : Nat :=
  match inner with
  | none => 0
  | some side => if s.channels[c].side.isOn side then s.rollover.pTest else 0

/-- R125: the monitor enters TEST. -/
def enterTest (s : State) : State :=
  let r := s.rollover
  let inner := innerSide r.filtered r.inner
  forEach 4 (fun c s => handRequest (testRequest s inner c) c s) (s.setRollover { r with
    state := .test
    inner := inner
    level := r.pTest
    testResult := .noResult
    tests := min 255 (r.tests + 1)
    testTimer := some testTime })

/-- R124: stage 5 in ALERT. -/
def alertRule (s : State) : State :=
  if s.rollover.threshold ≤ s.rollover.magnitude then enterIntervene s
  else if s.rollover.magnitude < s.rollover.alertLevel then
    s.setRollover { s.rollover with state := .monitor }
  else if s.rollover.spacingTimer.isNone then enterTest s
  else s

/-- R123: stage 5 in MONITOR; a departure hands the forced lowering demand (R64). -/
def monitorRule (s : State) : State :=
  if s.rollover.threshold ≤ s.rollover.magnitude then enterIntervene (forceLowering s)
  else if s.rollover.alertLevel ≤ s.rollover.magnitude then
    alertRule (forceLowering (s.setRollover { s.rollover with state := .alert }))
  else s

/-- R126: stage 5 in TEST. -/
def testRule (s : State) : State :=
  if s.rollover.threshold ≤ s.rollover.magnitude then enterIntervene (endTest .noResult s)
  else if s.rollover.inner.any (innerLift s) then enterIntervene (endTest .lift s)
  else s

/-- R130: the monitor enters RECOVER with its requests as they stand. -/
def enterRecover (s : State) : State :=
  s.setRollover { s.rollover with state := .recover, rampTimer := some rampTime }

/-- R129: the calm count after a sample set in INTERVENE. -/
def Rollover.calmAfter (r : Rollover) : Nat :=
  match r.raw with
  | none => r.calm
  | some _ => if r.magnitude < r.threshold / 2 then min 60 (r.calm + 1) else 0

/-- R129: stage 5 in INTERVENE. -/
def interveneRule (degraded : Bool) (s : State) : State :=
  let s := s.setRollover { s.rollover with calm := s.rollover.calmAfter }
  if s.device.referenceSpeed < 556 then enterRecover s
  else if degraded && s.rollover.minTimer.isNone then enterRecover s
  else if 60 ≤ s.rollover.calm ∧ s.rollover.minTimer = none then enterRecover s
  else s

/-- R130: stage 5 in RECOVER. -/
def recoverRule (degraded : Bool) (s : State) : State :=
  if s.rollover.raw.isSome && decide (s.rollover.threshold ≤ s.rollover.magnitude)
      && decide (556 ≤ s.device.referenceSpeed) && !degraded then enterIntervene s
  else s

/-- R115: the Rollover Monitor's operation at a sample set. -/
def rolloverSample (s : State) : State :=
  let degraded := degradedCondition s
  let s := s.setRollover { s.rollover with degradedSeen := degraded }
  let s := applyOffAndDegraded degraded s
  match s.rollover.state with
  | .off => s
  | .degraded => s
  | .monitor => monitorRule (estimate s)
  | .alert => alertRule (estimate s)
  | .test => testRule (estimate s)
  | .intervene => interveneRule degraded (estimate s)
  | .recover => recoverRule degraded (estimate s)

/-- TEST_TIMER_EXPIRY (R127). -/
def execTestTimerExpiry (s : State) : Outcome State Fault Refusal :=
  .next (whileRunning (fun s =>
    if s.rollover.testTimer.isSome then
      if s.rollover.state = .test then
        let next := if s.rollover.alertLevel ≤ s.rollover.magnitude then RolloverState.alert else .monitor
        let s := endTest .noLift s
        handAll 0 (s.setRollover { s.rollover with state := next })
      else s.setRollover { s.rollover with testTimer := none }
    else s) s)

/-- TEST_SPACING_EXPIRY (R124): the timer is marked not running. -/
def execTestSpacingExpiry (s : State) : Outcome State Fault Refusal :=
  .next (whileRunning (fun s => s.setRollover { s.rollover with spacingTimer := none }) s)

/-- INTERVENTION_MIN_EXPIRY (R129): the timer is marked expired. -/
def execInterventionMinExpiry (s : State) : Outcome State Fault Refusal :=
  .next (whileRunning (fun s => s.setRollover { s.rollover with minTimer := none }) s)

/-- R130: the state in which the ramp ends, by the latest sample set. -/
def leaveRecover (s : State) : State :=
  if !inControl s || decide (s.device.referenceSpeed < 556) then enterOff s
  else if s.rollover.degradedSeen then enterDegraded s
  else s.setRollover { s.rollover with state := .monitor }

/-- RAMP_STEP_EXPIRY (R130). -/
def execRampStepExpiry (s : State) : Outcome State Fault Refusal :=
  .next (whileRunning (fun s =>
    if s.rollover.rampTimer.isSome then
      if s.rollover.state = .recover then
        let level := s.rollover.level - 50
        let s := handAll level s
        if 0 < level then s.setRollover { s.rollover with rampTimer := some rampTime }
        else leaveRecover (s.setRollover { s.rollover with rampTimer := none })
      else s.setRollover { s.rollover with rampTimer := none }
    else s) s)

end Sys2Proof.Machine
end

