-- ==== Sys2Proof/Machine/Sample.lean ====
section
/-! DEFINITION. The Speed Capture Unit: WHEEL_EDGE and the window end of SAMPLE_SET (chapter 3). -/

namespace Sys2Proof.Machine

open Host (Outcome)

/-- R31: an edge is added to the open window. -/
def Wheel.edge (w : Wheel) (now : Stamp) : Wheel :=
  { w with
    edgeCount := min 65535 (w.edgeCount + 1)
    firstEdge := if w.edgeCount = 0 then now else w.firstEdge
    lastEdge := now }

/-- WHEEL_EDGE (R31). The input of a wheel-end that does not exist is not timed (R4). -/
def execWheelEdge (w : Fin 8) (now : Stamp) (s : State) : Outcome State Fault Refusal :=
  .next (whileRunning (fun s =>
    let s := { s with capture := { s.capture with timestamp := now } }
    if s.wheels[w].present then s.setWheel w (s.wheels[w].edge now) else s) s)

/-- R30 stages 1 to 4 for one wheel-end: the window is closed, and its speed, sensor state, bearing,
suspect and valid marks are formed. Bearing in R38 is the lift state of the axle at this window end
(log entry 9). -/
def Wheel.close (w : Wheel) (now : Stamp) (lineOpen down suspect speedMasked : Bool)
    (reference : Nat) : Wheel :=
  let result := windowSpeed w now
  let quiet :=
    if !w.enabled || lineOpen then (false, 0)
    else noSignalNext w.noSignal w.noSignalCount result.1 down reference
  let state := sensorStateOf w.enabled lineOpen quiet.1 speedMasked
  { w with
    speed := result.1
    previousSpeed := w.speed
    sensorState := state
    bearing := down
    suspect := suspect
    valid := state == .ok && down && !suspect
    edgeCount := 0
    firstEdge := 0
    lastEdge := 0
    lastEdgeTime := result.2
    lineOpen := lineOpen
    noSignal := quiet.1
    noSignalCount := quiet.2 }

/-- R30: every existing wheel-end's window is closed. -/
def closeWindows (openLines : BitVec 8) (s : State) : State :=
  { s with
    wheels := Vector.ofFn fun w =>
      if s.wheels[w].present then
        s.wheels[w].close s.capture.timestamp (openLines.getLsbD w.val) (axleDown s (axleOfWheel w))
          (speedSuspect s w) (masked s (.speed w)) s.device.referenceSpeed
      else s.wheels[w] }

/-- R44: the candidate, the largest speed among the valid wheel-ends. -/
def candidateSpeed (s : State) : Option Nat :=
  (((List.finRange 8).filter fun w => s.wheels[w].present && s.wheels[w].valid).map
    fun w => s.wheels[w].speed).max?

/-- R44 to R46: the reference speed is formed and written. -/
def formReference (s : State) : State :=
  let r := (Reference.mk s.device.referenceSpeed s.capture.mode s.capture.lostCount
    s.device.referenceLost).next (candidateSpeed s)
  { s with
    device := { s.device with referenceSpeed := r.speed, referenceLost := r.lost }
    capture := { s.capture with mode := r.mode, lostCount := r.count } }

/-- R40: a wheel-end's speed-sensor condition. -/
def SensorState.isFault : SensorState → Bool
  | .openLine | .noSignal => true
  | .ok | .disabled => false

/-- R40: every existing wheel-end's speed-sensor condition is reported. -/
def reportSensors (s : State) : State :=
  forEach 8
    (fun w s =>
      if s.wheels[w].present then report (.speed w) s.wheels[w].sensorState.isFault s else s) s

/-- R30: the Speed Capture Unit's operation at a window end. -/
def windowEnd (now : Stamp) (openLines : BitVec 8) (s : State) : State :=
  reportSensors
    (formReference
      (closeWindows openLines { s with capture := { s.capture with timestamp := now } }))

end Sys2Proof.Machine
end

