-- ==== Sys2Proof/Machine/SampleSet.lean ====
section
/-! DEFINITION. SAMPLE_SET: the window end, and the two blocks that take the sample set (R30, R101, R115). -/

namespace Sys2Proof.Machine

open Host (Outcome)

/-- R30: a window end and its sample set, taken by the Anti-Lock Unit and the Rollover Monitor in the
order the command names (R101). -/
def sampleSet (now : Stamp) (openLines : BitVec 8) (antiLockFirst : Bool) (s : State) : State :=
  let s := windowEnd now openLines s
  if antiLockFirst then rolloverSample (antiLockSample s) else antiLockSample (rolloverSample s)

/-- SAMPLE_SET. While the window timer is stopped it does not expire. -/
def execSampleSet (now : Stamp) (openLines : BitVec 8) (antiLockFirst : Bool) (s : State) :
    Outcome State Fault Refusal :=
  .next (whileRunning (fun s =>
    if s.capture.windowTimer.isSome then sampleSet now openLines antiLockFirst s else s) s)

end Sys2Proof.Machine
end

