-- ==== Sys2Proof/Machine/Dispatch.lean ====
section
/-! DEFINITION. One arm per command: the meaning that carries it out. -/

namespace Sys2Proof.Machine

/-- The effect of a command on everything but the queue. -/
def exec (i : Instr) (s : State) : Host.Outcome State Fault Refusal :=
  match i with
  | .powerOn straps => Sys2Proof.Machine.execPowerOn straps s
  | .logicSupplyLow => Sys2Proof.Machine.execLogicSupplyLow s
  | .logicSupplyRestored straps => Sys2Proof.Machine.execLogicSupplyRestored straps s
  | .resetLineAssert => Sys2Proof.Machine.execResetLineAssert s
  | .resetLineRelease straps => Sys2Proof.Machine.execResetLineRelease straps s
  | .initTimerExpiry => Sys2Proof.Machine.execInitTimerExpiry s
  | .failsafeAssert => Sys2Proof.Machine.execFailsafeAssert s
  | .failsafeRelease => Sys2Proof.Machine.execFailsafeRelease s
  | .scanCompletion readings order => Sys2Proof.Machine.execScanCompletion readings order s
  | .sampleSet now openLines antiLockFirst => Sys2Proof.Machine.execSampleSet now openLines antiLockFirst s
  | .wheelEdge w now => Sys2Proof.Machine.execWheelEdge w now s
  | .shortCircuitTrip o => Sys2Proof.Machine.execShortCircuitTrip o s
  | .changeoverGapExpiry c => Sys2Proof.Machine.execChangeoverGapExpiry c s
  | .blankingTimerExpiry o => Sys2Proof.Machine.execBlankingTimerExpiry o s
  | .raiseTimerExpiry => Sys2Proof.Machine.execRaiseTimerExpiry s
  | .loweringTimerExpiry => Sys2Proof.Machine.execLoweringTimerExpiry s
  | .supplyTimerExpiry c => Sys2Proof.Machine.execSupplyTimerExpiry c s
  | .exerciseTimerExpiry c => Sys2Proof.Machine.execExerciseTimerExpiry c s
  | .holdTimerExpiry c => Sys2Proof.Machine.execHoldTimerExpiry c s
  | .stepTimerExpiry c => Sys2Proof.Machine.execStepTimerExpiry c s
  | .testTimerExpiry => Sys2Proof.Machine.execTestTimerExpiry s
  | .testSpacingExpiry => Sys2Proof.Machine.execTestSpacingExpiry s
  | .interventionMinExpiry => Sys2Proof.Machine.execInterventionMinExpiry s
  | .rampStepExpiry => Sys2Proof.Machine.execRampStepExpiry s
  | .lineToSpacing => Sys2Proof.Machine.execLineToSpacing s
  | .lineToMarking => Sys2Proof.Machine.execLineToMarking s
  | .jamTimerExpiry => Sys2Proof.Machine.execJamTimerExpiry s
  | .markTimerExpiry => Sys2Proof.Machine.execMarkTimerExpiry s
  | .characterComplete data parity stop nowMs => Sys2Proof.Machine.execCharacterComplete data parity stop nowMs s
  | .gapTimerExpiry => Sys2Proof.Machine.execGapTimerExpiry s
  | .agingExpiry => Sys2Proof.Machine.execAgingExpiry s
  | .learnTimerExpiry => Sys2Proof.Machine.execLearnTimerExpiry s
  | .selectFall => Sys2Proof.Machine.execSelectFall s
  | .emptyTransaction => Sys2Proof.Machine.execEmptyTransaction s
  | .frameError header => Sys2Proof.Machine.execFrameError header s
  | .initTransaction => Sys2Proof.Machine.execInitTransaction s
  | .unknownRequest kind index => Sys2Proof.Machine.execUnknownRequest kind index s
  | .nop index => Sys2Proof.Machine.execNop index s
  | .lookup table index group => Sys2Proof.Machine.execLookup table index group s
  | .lookupNext index group => Sys2Proof.Machine.execLookupNext index group s
  | .amend table index field value => Sys2Proof.Machine.execAmend table index field value s
  | .enrol table index idHigh idLow => Sys2Proof.Machine.execEnrol table index idHigh idLow s
  | .retire table index => Sys2Proof.Machine.execRetire table index s
  | .learn table index => Sys2Proof.Machine.execLearn table index s
  | .cancelLearn index => Sys2Proof.Machine.execCancelLearn index s
  | .liftCommand index mode => Sys2Proof.Machine.execLiftCommand index mode s
  | .exercise table index argument => Sys2Proof.Machine.execExercise table index argument s
  | .goActive index => Sys2Proof.Machine.execGoActive index s
  | .goStandby index => Sys2Proof.Machine.execGoStandby index s
  | .softReset index => Sys2Proof.Machine.execSoftReset index s
  | .ackFaults index => Sys2Proof.Machine.execAckFaults index s
  | .setAttention index enables => Sys2Proof.Machine.execSetAttention index enables s
  | .startBitTaken => Sys2Proof.Machine.execStartBitTaken s

end Sys2Proof.Machine
end

