-- ==== Sys2Proof/Safety.lean ====
section
/-! DEFINITION. What counts as a safe run: the laws of the manual that every state of a run obeys, and the
conditions under which a command is taken. -/

namespace Sys2Proof.Machine

/-! ### When a command is taken -/

/-- No cause holds the part in reset (R180). -/
abbrev Running (s : State) : Prop := s.device.supplyFail = false ∧ s.device.resetLow = false

/-- SELECT is low in a transaction whose request the link will take at its rise (R166, R167). -/
abbrev Served (s : State) : Prop :=
  Running s ∧ s.device.state ≠ .init ∧ s.link.select = .serving

/-- What a served request leaves of the link besides its owner's effect: SELECT is high and the response is
prepared (R167). -/
def Answered (kind : BitVec 6) (r : Reply) (s : State) : State :=
  { s with link := { s.link with select := .high, response := ⟨r.result, kind, r.index, r.data⟩ } }

/-- R64: what a forced lowering demand does to the lift axle, if there is one: RAISING or UP goes to
LOWERING, the raise timer stopped, the lowering timer started and the solenoid off; otherwise nothing. -/
def ForcedLowering (s t : State) : Prop :=
  ∀ a : Fin 4, liftAxle s = some a →
    if s.axles[a].liftState = .raising ∨ s.axles[a].liftState = .up then
      t.axles[a] = { s.axles[a] with liftState := .lowering, changeMark := true }
        ∧ t.lift = { s.lift with raiseTimer := none, loweringTimer := some 6000000 }
        ∧ t.outputs[liftOutput].requested = false ∧ t.outputs[liftOutput].energised = false
    else
      t.axles[a] = s.axles[a] ∧ t.lift = s.lift
        ∧ t.outputs[liftOutput].requested = s.outputs[liftOutput].requested

/-- What both resets leave in the state that no record shows, of the records that exist and of every block
(R29, R47, R68, R78, R100, R114, R134, R148, R162, R163, R171, R180). -/
def ResetInternals (t : State) : Prop :=
  (∀ f ∈ allFaults, t.faults.get f = ⟨false, false⟩)
    ∧ t.analog.demand = ⟨0, false, 0⟩ ∧ t.analog.reservoir = ⟨0, false, 0⟩
    ∧ (∀ c : Fin 4, t.analog.delivered[c] = ⟨0, false, 0⟩)
    ∧ (∀ a : Fin 4, t.analog.bellows[a] = ⟨0, false, 0⟩)
    ∧ t.capture.mode = .seeking ∧ t.capture.lostCount = 0
    ∧ (∀ w : Fin 8, t.wheels[w].present = true →
      let x := t.wheels[w]
      x.previousSpeed = 0 ∧ x.edgeCount = 0 ∧ x.lastEdgeTime = none ∧ x.lineOpen = false
        ∧ x.noSignal = false ∧ x.noSignalCount = 0)
    ∧ t.loadUnit = ⟨.live, 0⟩ ∧ t.lift.raiseTimer = none ∧ t.lift.lightCount = 0
    ∧ (∀ a : Fin 4, t.axles[a].present = true →
      let x := t.axles[a]
      x.filterEmpty = true ∧ x.frozen = none ∧ x.seenDown = false)
    ∧ (∀ c : Fin 4, t.channels[c].present = true →
      let x := t.channels[c]
      x.handFraction = 0 ∧ x.handBearing = false ∧ x.supplyTimer = none ∧ x.exerciseTimer = none
        ∧ x.holdTimer = none ∧ x.stepTimer = none ∧ x.gapNote = .both)
    ∧ (∀ o : Fin 13, t.outputs[o] = ⟨false, false, none, false, 0⟩)
    ∧ t.rollover.testTimer = none ∧ t.rollover.spacingTimer = none ∧ t.rollover.minTimer = none
    ∧ t.rollover.rampTimer = none ∧ t.rollover.calm = 0 ∧ t.rollover.degradedSeen = false
    ∧ (∀ p : Fin 16, t.tyres[p].present = true →
      t.tyres[p].learnTimer = none ∧ t.tyres[p].rateHistory = none)
    ∧ (∀ p : Fin 16, t.tyres[p].learnOutstanding = false)
    ∧ t.supervisor.candidates = []
    ∧ t.link.faultPending = false ∧ t.link.rolloverPending = false
    ∧ t.link.candidatePending = false ∧ (∀ k : Fin 10, t.link.dataOut[k] = 0xFFFF)
    ∧ t.link.dataRest = 0xFFFF

/-! ### The laws -/

/-- R172, R180: the INIT timer runs in INIT only, and a part held in reset stands in INIT with its INIT timer
stopped, the Rollover Monitor OFF and every output neither requested nor energised. -/
def ResetLaw (s : State) : Prop :=
  (s.device.initTimer.isSome = true → s.device.state = .init)
    ∧ (held s = true →
        s.device.state = .init ∧ s.device.initTimer = none ∧ s.rollover.state = .off
          ∧ ∀ o : Fin 13, s.outputs[o].requested = false ∧ s.outputs[o].energised = false)

/-- R91, R92: an output is energised only while the device is in control, FAILSAFE is not
asserted, the valve supply is not low, its channel exists and it has no latched short; and the inlet and
the exhaust of one channel are never energised together. -/
def ValveLaw (s : State) : Prop :=
  (∀ o : Fin 13, s.outputs[o].energised = true →
      (s.device.state = .active ∨ s.device.state = .waitRelease)
        ∧ s.device.failsafe = false
        ∧ s.faults.supplyLow.present = false
        ∧ s.faults.valveShort[o].latched = false
        ∧ ∀ c : Fin 4, (o = inletOf c ∨ o = exhaustOf c ∨ o = backupOf c) →
            s.channels[c].present = true)
    ∧ ∀ c : Fin 4, ¬(s.outputs[inletOf c].energised = true ∧ s.outputs[exhaustOf c].energised = true)

/-- R79, R80: every commanded pressure is the arbiter's function of its latest inputs, at most P_LIM, and
the winning source is the first row of R80's table that applies, EXERCISE in an exercise. -/
def ArbiterLaw (s : State) : Prop :=
  ∀ c : Fin 4, let x := s.channels[c]
    x.commanded ≤ x.pLim
      ∧ x.commanded =
        min
          (if x.antiLock = .release ∨ x.antiLock = .hold ∨ x.antiLock = .reapply then
            min (max x.target x.rolloverRequest) (x.cap.getD 0)
          else max x.target x.rolloverRequest) x.pLim
      ∧ x.winning =
        (if x.state = .exercise then .exercise
        else if (x.antiLock = .release ∨ x.antiLock = .hold ∨ x.antiLock = .reapply)
            ∧ x.cap.getD 0 < max x.target x.rolloverRequest then .antilock
        else if x.commanded = 0 then .noSource
        else if x.target < x.rolloverRequest then .rollover
        else .service)

/-- Section 7.3: a channel has a cap in RELEASE, HOLD and REAPPLY only, its hold timer runs in HOLD only
and its step timer in REAPPLY only, and RELEASE caps at 0. -/
def AntiLockLaw (s : State) : Prop :=
  ∀ c : Fin 4, let x := s.channels[c]
    (x.cap.isSome = true ↔ x.antiLock = .release ∨ x.antiLock = .hold ∨ x.antiLock = .reapply)
      ∧ (x.holdTimer.isSome = true ↔ x.antiLock = .hold)
      ∧ (x.stepTimer.isSome = true ↔ x.antiLock = .reapply)
      ∧ (x.antiLock = .release → x.cap = some 0)

/-- R143, R149, R152: an existing position holds an ID exactly while it is paired, no ID is paired twice,
at most one position is LEARNING, and the candidate list holds at most eight IDs, none twice and none of
them paired. -/
def TyreLaw (s : State) : Prop :=
  (∀ p : Fin 16, s.tyres[p].present = true →
      (s.tyres[p].id.isSome = true ↔ s.tyres[p].state = .live ∨ s.tyres[p].state = .missing))
    ∧ (∀ p q : Fin 16, s.tyres[p].present = true → s.tyres[q].present = true →
        s.tyres[p].id.isSome = true → s.tyres[p].id = s.tyres[q].id → p = q)
    ∧ (∀ p q : Fin 16, s.tyres[p].present = true → s.tyres[q].present = true →
        s.tyres[p].state = .learning → s.tyres[q].state = .learning → p = q)
    ∧ s.supervisor.candidates.length ≤ 8
    ∧ (s.supervisor.candidates.map Candidate.id).Nodup
    ∧ ∀ x ∈ s.supervisor.candidates, ∀ p : Fin 16, s.tyres[p].present = true →
        s.tyres[p].id ≠ some x.id

/-- R58, R62: an existing axle is NOT_LIFTABLE exactly while its LIFTABLE field is 0, at most one existing
axle is liftable, none is RAISING while there is braking, while the Rollover Monitor is in ALERT or worse
or while the device is not ACTIVE, and the lift solenoid is requested exactly while an axle is RAISING or
UP. -/
def LiftLaw (s : State) : Prop :=
  (∀ a : Fin 4, s.axles[a].present = true →
      (s.axles[a].liftState = .notLiftable ↔ s.axles[a].liftable = false))
    ∧ (∀ a b : Fin 4, s.axles[a].present = true → s.axles[b].present = true →
        s.axles[a].liftable = true → s.axles[b].liftable = true → a = b)
    ∧ (∀ a : Fin 4, s.axles[a].present = true → s.axles[a].liftState = .raising →
        s.device.state = .active ∧ s.device.braking = false
          ∧ s.rollover.state ≠ .alert ∧ s.rollover.state ≠ .test
          ∧ s.rollover.state ≠ .intervene ∧ s.rollover.state ≠ .recover)
    ∧ (s.outputs[liftOutput].requested = true ↔
        ∃ a : Fin 4, s.axles[a].present = true ∧
          (s.axles[a].liftState = .raising ∨ s.axles[a].liftState = .up))

/-- R176, R177: a present condition of a latched kind is latched, a kind that is not latched has no mark,
and a masked kind is neither present nor latched. -/
def FaultLaw (s : State) : Prop :=
  ∀ f : FaultId,
    ((s.faults.get f).present = true → f.isLatched = true → (s.faults.get f).latched = true)
      ∧ (f.isLatched = false → (s.faults.get f).latched = false)
      ∧ (s.device.faultMask.getLsbD f.bit = true →
          (s.faults.get f).present = false ∧ (s.faults.get f).latched = false)

/-- Section 8.1, R131, R175: the ROLLOVER request of every existing channel is the request level where the
monitor's state says so and 0 elsewhere; and the monitor is in ALERT or worse only while the device is
ACTIVE or WAIT_RELEASE. -/
def RolloverLaw (s : State) : Prop :=
  (∀ c : Fin 4, s.channels[c].present = true →
      s.channels[c].rolloverRequest =
        (match s.rollover.state with
        | .intervene | .recover => s.rollover.level
        | .test =>
          if (s.rollover.inner = some .left ∧ s.channels[c].side = .left)
              ∨ (s.rollover.inner = some .right ∧ s.channels[c].side = .right) then s.rollover.level
          else 0
        | .off | .monitor | .alert | .degraded => 0))
    ∧ (s.rollover.state = .off ∨ s.rollover.state = .monitor ∨ s.rollover.state = .alert
        ∨ s.rollover.state = .degraded → s.rollover.level = 0)
    ∧ (s.rollover.state = .alert ∨ s.rollover.state = .test ∨ s.rollover.state = .intervene
        ∨ s.rollover.state = .recover → s.device.state = .active ∨ s.device.state = .waitRelease)

/-- A quantity lies within a range. -/
def Within (lo hi v : Nat) : Prop := lo ≤ v ∧ v ≤ hi

/-- R11, R12 and the ranges of every field table: every setting lies within its range, and every curve has
two to six points within theirs. -/
def SettingsLaw (s : State) : Prop :=
  Within 10 60 s.device.dMin ∧ Within 300 700 s.device.supplyOn
    ∧ Within 1 30 s.device.changeoverGap ∧ Within 1 20 s.device.blankingTime
    ∧ Within 102 410 s.device.slipRel ∧ Within 1 65535 s.device.divisor
    ∧ Within 60 3600 s.device.missingTimeout ∧ s.device.faultMask &&& 0xF202 = 0
    ∧ (∀ a : Fin 4, let x := s.axles[a]
        x.l0 ≤ 2000 ∧ x.l1 ≤ 2000 ∧ Within 150 260 x.trackWidth ∧ x.fRaise ≤ 1024
          ∧ x.fLower ≤ 1024 ∧ Within 10 100 x.bUp ∧ Within 30 300 x.bDown
          ∧ Within 2 6 x.curve.length ∧ ∀ p ∈ x.curve, p.bellows ≤ 1000 ∧ p.load ≤ 2000)
    ∧ (∀ w : Fin 8, Within 40 160 s.wheels[w].teeth ∧ Within 2000 4000 s.wheels[w].circumference)
    ∧ (∀ p : Fin 16, Within 300 1000 s.tyres[p].nominal)
    ∧ (∀ c : Fin 4, let x := s.channels[c]
        Within 100 1024 x.gEmpty ∧ Within 100 1024 x.gLaden ∧ Within 100 1000 x.pLim
          ∧ Within 5 50 x.band)
    ∧ Within 30 150 s.rollover.pTest ∧ Within 200 700 s.rollover.pRoll
    ∧ Within 200 800 s.rollover.aEmpty ∧ Within 150 800 s.rollover.aLaden
    ∧ Within 102 512 s.rollover.slipLift

/-- The ranges of the measured and computed fields (the field tables of every chapter). A service target is
at most 1000, P_LIM's own limit, since P_LIM may be amended below it; the commanded pressure is the arbiter's
law. -/
def RangeLaw (s : State) : Prop :=
  (let d := s.device
   d.demand ≤ 1000 ∧ d.reservoir ≤ 1000 ∧ d.valveSupply ≤ 32736 ∧ d.referenceSpeed ≤ 6000
    ∧ d.fTot ≤ 1024 ∧ d.parityErrors ≤ 65535 ∧ d.framingErrors ≤ 65535 ∧ d.breakErrors ≤ 65535
    ∧ d.gapDiscards ≤ 65535 ∧ d.checkDiscards ≤ 65535 ∧ d.rangeDiscards ≤ 65535
    ∧ d.telegramsAccepted ≤ 65535)
    ∧ (s.analog.demand.hold ≤ 1000 ∧ s.analog.reservoir.hold ≤ 1000
      ∧ (∀ c : Fin 4, s.analog.delivered[c].hold ≤ 1000)
      ∧ ∀ a : Fin 4, s.analog.bellows[a].hold ≤ 1000)
    ∧ (∀ c : Fin 4, let x := s.channels[c]
      x.delivered ≤ 1000 ∧ x.fraction ≤ 1024 ∧ x.handFraction ≤ 1024 ∧ Within 100 1024 x.gain
        ∧ x.target ≤ 1000 ∧ x.rolloverRequest ≤ 700 ∧ x.cap.getD 0 ≤ 1000 ∧ x.releaseCount ≤ 255)
    ∧ (∀ a : Fin 4, let x := s.axles[a]
      x.bellowsRaw ≤ 1000 ∧ x.bellowsFiltered ≤ 1000 ∧ x.frozen.getD 0 ≤ 1000 ∧ x.load ≤ 2000
        ∧ x.loadFraction ≤ 1024)
    ∧ (∀ w : Fin 8, let x := s.wheels[w]
      x.speed ≤ 6000 ∧ x.slip.getD 0 ≤ 1024 ∧ -2000 ≤ x.deceleration ∧ x.deceleration ≤ 2000)
    ∧ (∀ p : Fin 16, let x := s.tyres[p]
      x.lastGauge.getD 0 ≤ 1499 ∧ -50 ≤ x.lastTemperature.getD 0
        ∧ x.lastTemperature.getD 0 ≤ 150 ∧ x.p20.getD 0 ≤ 2001 ∧ x.age ≤ 65535)
    ∧ (∀ k ∈ s.supervisor.candidates,
      Within 1 255 k.heard ∧ k.lastGauge ≤ 1499 ∧ k.previousGauge.getD 0 ≤ 1499 ∧ k.age ≤ 299)
    ∧ (let r := s.rollover
       r.threshold ≤ 800 ∧ r.alertLevel ≤ 600 ∧ r.interventions ≤ 255 ∧ r.tests ≤ 255
        ∧ r.level ≤ 700 ∧ -2000 ≤ r.raw.getD 0 ∧ r.raw.getD 0 ≤ 2000 ∧ -2000 ≤ r.filtered
        ∧ r.filtered ≤ 2000)

/-- R166, R168: a transaction that the link will serve is under way only while the link serves, and the
cursor lies within its table's index range. -/
def LinkLaw (s : State) : Prop :=
  (s.link.select = .serving → linkServes s = true) ∧ s.link.cursorIndex < s.link.cursorTable.size

/-- Every law. -/
structure Lawful (s : State) : Prop where
  reset : ResetLaw s
  valves : ValveLaw s
  arbiters : ArbiterLaw s
  antiLock : AntiLockLaw s
  tyres : TyreLaw s
  lift : LiftLaw s
  faults : FaultLaw s
  rollover : RolloverLaw s
  settings : SettingsLaw s
  ranges : RangeLaw s
  link : LinkLaw s

end Sys2Proof.Machine
end

