-- ==== Sys2Proof/Certificates/Slice0/Obligations.lean ====
section
/-! DEFINITION. The statements for the provers. Rule numbers are the manual's; where a statement
rests on a choice of the model its docstring names the log entry. -/

open Sys2Proof Sys2Proof.Machine

/-- A step carries out the command at the front of the queue with the queue's rest; on an empty
queue the part idles (the model's choice, log entry 1). Every command completes in every state,
and no command's effect touches the queue of those that wait (the queue is the model's, log
entry 1; that none faults or is refused is read from the manual, log entry 24). -/
def Obligations.StepCarriesOutFrontOfQueue : Prop :=
  (∀ (i : Instr) (rest : List Instr) (s : State),
      step { s with pending := i :: rest } = exec i { s with pending := rest }
        ∧ step { s with pending := [] } = .next { s with pending := [] })
  ∧ (∀ (i : Instr) (s : State),
      ∃ t, exec i s = .next t ∧ t.pending = s.pending)

/-- R180: while a cause holds the part in reset no block takes events. The pins, the link's SELECT
and the gap that counts from the reset (R100) are the commands left out. R166, R180: while the
part is held, the commands of its pins only move the pin or the cause they name, and the gap
timer that counts from the reset only stops. That the pins' levels are kept and the gap passes
then is the model's choice (log entries 10 and 17). R166: a request or a frame error whose
transaction the link does not serve is not taken. A command that finds SELECT high stands for
the whole transaction (the model's choice, log entry 15). -/
def Obligations.HeldOrUnservedCommandsAreNotTaken : Prop :=
  (∀ (i : Instr) (s : State),
      held s = true →
        (match i with
          | .initTimerExpiry | .scanCompletion _ _ | .sampleSet _ _ _ | .wheelEdge _ _
          | .shortCircuitTrip _ | .blankingTimerExpiry _ | .raiseTimerExpiry | .loweringTimerExpiry
          | .supplyTimerExpiry _ | .exerciseTimerExpiry _ | .holdTimerExpiry _ | .stepTimerExpiry _
          | .testTimerExpiry | .testSpacingExpiry | .interventionMinExpiry | .rampStepExpiry
          | .jamTimerExpiry | .markTimerExpiry | .characterComplete _ _ _ _ | .gapTimerExpiry
          | .agingExpiry | .learnTimerExpiry | .startBitTaken => True
          | .powerOn _ | .logicSupplyLow | .logicSupplyRestored _ | .resetLineAssert
          | .resetLineRelease _ | .failsafeAssert | .failsafeRelease | .changeoverGapExpiry _
          | .lineToSpacing | .lineToMarking | .selectFall | .emptyTransaction | .frameError _
          | .initTransaction | .unknownRequest _ _ | .nop _ | .lookup _ _ _ | .lookupNext _ _
          | .amend _ _ _ _ | .enrol _ _ _ _ | .retire _ _ | .learn _ _ | .cancelLearn _
          | .liftCommand _ _ | .exercise _ _ _ | .goActive _ | .goStandby _ | .softReset _
          | .ackFaults _ | .setAttention _ _ => False) →
        exec i s = .next s)
  ∧ (∀ (straps : BitVec 2) (c : Fin 4) (s : State),
      held s = true →
        exec .failsafeAssert s = .next { s with device := { s.device with failsafe := true } }
          ∧ exec .failsafeRelease s = .next { s with device := { s.device with failsafe := false } }
          ∧ exec .lineToSpacing s = .next { s with receiver := { s.receiver with spacing := true } }
          ∧ exec .lineToMarking s = .next { s with receiver := { s.receiver with spacing := false } }
          ∧ exec .selectFall s = .next { s with link := { s.link with
              select := .unserved, dataOut := Vector.replicate 10 0xFFFF, dataRest := 0xFFFF } }
          ∧ (ResetLaw s → exec (.changeoverGapExpiry c) s = .next
              (s.setChannel c { s.channels[c] with gapTimer := none }))
          ∧ (s.device.supplyFail = true → exec .logicSupplyLow s = .next s)
          ∧ (s.device.resetLow = true → exec .resetLineAssert s = .next s)
          ∧ (s.device.supplyFail = false → exec (.logicSupplyRestored straps) s = .next s)
          ∧ (s.device.resetLow = false → exec (.resetLineRelease straps) s = .next s)
          ∧ (s.device.supplyFail = true → s.device.resetLow = true →
            exec (.logicSupplyRestored straps) s = .next
                { s with device := { s.device with supplyFail := false } }
              ∧ exec (.resetLineRelease straps) s = .next
                { s with device := { s.device with resetLow := false } }))
  ∧ (∀ (i : Instr) (s : State),
      (Link.encode i).isSome = true ∨ (∃ h, i = .frameError h) ∨ i = .emptyTransaction
          ∨ i = .initTransaction →
        (s.link.select = .unserved ∨ s.link.select = .serving ∧ (¬Running s ∨ s.device.state = .init) →
            exec i s = .next { s with link := { s.link with select := .high } })
          ∧ (s.link.select = .high → ∃ t, exec .selectFall s = .next t ∧ exec i s = exec i t))

/-- Section 11.5 and R165: the words of every well-formed request, padded with zeros up to 16 words,
are read back as that request. -/
def Obligations.RequestWordsParse : Prop :=
  ∀ (i : Instr) (ws : List Word) (k : Nat),
    i.wellFormed = true → Link.encode i = some ws → ws.length + k ≤ 16 →
      Link.parse (ws ++ List.replicate k 0) 0 = i

/-- R165: a transaction is a frame error exactly when a clock is left over, its request's words are
missing, a padding word is not zero or it is longer than 16 words; one without clocks is none. -/
def Obligations.FrameErrorIffMalformed : Prop :=
  ∀ (ws : List Word) (x : Fin 16),
    let need : Word → Nat := fun h =>
      match (h >>> 10).toNat with
      | 3 => 3
      | 4 => 3
      | 8 => 2
      | 9 => 2
      | 14 => 2
      | _ => 1
    ((∃ h, Link.parse ws x = .frameError h) ↔
        (x ≠ 0 ∨ ∃ h rest, ws = h :: rest ∧
          (ws.length < need h ∨ (∃ w ∈ ws.drop (need h), w ≠ 0) ∨ 16 < ws.length)))
      ∧ (∀ h, Link.parse ws x = .frameError h → h = ws.head?)
      ∧ (Link.parse ws x = .emptyTransaction ↔ ws = [] ∧ x = 0)

/-- A full reset that ends at once leaves the layout of the straps, every field of every existing
record at the default of its field table and every other state of the blocks at its reset value
(R1 to R3, R17, R29, R47, R68, R100, R114, R134, R148, R162 and R171), and starts INIT (R172).
DEVICE field 0 in INIT is not readable; that its word is 0 is the model's choice (log entry 26),
and so is 0 for the two clocks (log entry 7). -/
def Obligations.FullResetLeavesDefaults : Prop :=
  ∀ (straps : BitVec 2) (s : State),
    Running s →
      ∃ t, exec (.powerOn straps) s = .next t
        ∧ (let axles : Nat := [2, 3, 3, 4].getD straps.toNat 0
           let channels : Nat := [2, 2, 3, 4].getD straps.toNat 0
           let wheelChannels : List Nat :=
            [[0, 1, 0, 1], [0, 1, 0, 1, 0, 1], [0, 1, 0, 1, 2, 2],
              [0, 1, 0, 1, 2, 3, 2, 3]].getD straps.toNat []
           let sides : List Nat := [[0, 1], [0, 1], [0, 1, 2], [0, 1, 0, 1]].getD straps.toNat []
           let firsts : List Nat := [[0, 0], [0, 0], [0, 0, 2], [0, 0, 2, 2]].getD straps.toNat []
           let lasts : List Nat := [[1, 1], [2, 2], [1, 1, 2], [1, 1, 3, 3]].getD straps.toNat []
           let fields : RecordId → List Word := fun r => (List.range 32).map (fieldWord t r)
           fields .device =
              [0, BitVec.ofNat 16 straps.toNat, 0, 0, 0, 1, 0, 63, 0, 0, 0, 0, 20, 0, 0, 0,
                450, 0, 4, 6, 205, 26, 0, 0, 0, 0, 0, 0, 0, 0, 600, 0]
            ∧ fields .rollover =
              [0, 0x8000, 0, 450, 337, 0x8000, 0x8000, 0, 60, 450, 450, 300, 307, 0, 0, 0,
                0, 0, 0, 0, 0, 0, 0, 0, 0, 0, 0, 0, 0, 0, 0, 0]
            ∧ (∀ a : Fin 4, (t.axles[a].present = true ↔ a.val < axles)
                ∧ (a.val < axles → fields (.axle a) =
                    [1, 1, 0, 0, 0, 0, 0, 0, 180, 900, 2, 204, 0, 0, 0, 0, 0, 180, 600, 900,
                      0x8000, 0x8000, 0x8000, 0x8000, 0x8000, 0x8000, 0x8000, 0x8000, 300, 900, 30,
                      80]))
            ∧ (∀ w : Fin 8, (t.wheels[w].present = true ↔ w.val < 2 * axles)
                ∧ (w.val < 2 * axles → fields (.wheel w) =
                    [1, BitVec.ofNat 16 (wheelChannels.getD w.val 0), 1, 100, 3200, 0, 0, 0, 0, 0,
                      0, 0, 0, 0, 0, 0, 0x8000, 0, 0, 0, 0, 0, 0, 0, 0, 0, 0, 0, 0, 0, 0, 0]))
            ∧ (∀ p : Fin 16, (t.tyres[p].present = true ↔ p.val < 4 * axles)
                ∧ (p.val < 4 * axles → fields (.tyre p) =
                    [1, BitVec.ofNat 16 p.val, 0, 0x8000, 0x8000, 0, 0, 0, 800, 0x8000, 0x8000,
                      0x8000, 0, 0, 0, 0, 0, 0, 0, 0, 0, 0, 0, 0, 0, 0, 0, 0, 0, 0, 0, 0]))
            ∧ (∀ c : Fin 4, (t.channels[c].present = true ↔ c.val < channels)
                ∧ (c.val < channels → fields (.channel c) =
                    [1, BitVec.ofNat 16 (sides.getD c.val 0), BitVec.ofNat 16 (firsts.getD c.val 0),
                      BitVec.ofNat 16 (lasts.getD c.val 0), 0, 0, 3, 0, 410, 1024, 850, 0, 0, 410, 0,
                      15, 0, 0, 0, 0x8000, 0, 0, 0, 0, 0, 0, 0x8000, 0, 0, 0, 0, 0]))
            ∧ t.supervisor.candidates = []
            ∧ t.device.state = .init
            ∧ t.device.initTimer = some 20000
            ∧ t.analog.scanTimer = some 5000
            ∧ t.capture.windowTimer = some 10000
            ∧ t.supervisor.agingTimer = some 1000000
            ∧ (∀ c : Fin 4, t.channels[c].gapTimer = some 4000)
            ∧ ResetInternals t
            ∧ t.receiver = ⟨s.receiver.spacing, false, false, none, false,
              if s.receiver.spacing then some 33280 else none, none, none, []⟩
            ∧ t.capture.timestamp = 0 ∧ t.supervisor.clock = 0
            ∧ t.link.response = ⟨.noResult, 0, 0, Vector.replicate 8 0⟩
            ∧ t.link.cursorTable = .device ∧ t.link.cursorIndex = 0
            ∧ t.device.failsafe = s.device.failsafe)

/-- R180: a low logic supply or RESET line holds the part with every output off, data out and
ATTENTION high; when the last cause ends INIT begins, with the state that a power-on leaves.
That a held part already stands at its reset values with every timer stopped, and that POWER_ON
ends at once, is read from the manual (log entries 18 and 19). -/
def Obligations.ResetCausesHoldAndRelease : Prop :=
  ∀ (straps : BitVec 2) (s : State),
    let quiet : State → Prop := fun t =>
      held t = true ∧ t.device.state = .init ∧ t.device.initTimer = none
        ∧ t.analog.scanTimer = none ∧ t.capture.windowTimer = none ∧ t.supervisor.agingTimer = none
        ∧ (∀ o : Fin 13, t.outputs[o].requested = false ∧ t.outputs[o].energised = false)
        ∧ (∀ k : Fin 10, t.link.dataOut[k] = 0xFFFF) ∧ t.link.dataRest = 0xFFFF
        ∧ t.link.select ≠ .serving
        ∧ attentionLow t = false ∧ t.rollover.state = .off
    let begun : State → Prop := fun t =>
      held t = false ∧ t.device.layout = straps ∧ t.device.state = .init
        ∧ t.device.initTimer = some 20000 ∧ t.device.restarted = true
        ∧ t.analog.scanTimer = some 5000 ∧ t.capture.windowTimer = some 10000
        ∧ t.supervisor.agingTimer = some 1000000
    (s.device.supplyFail = false → ∃ t, exec .logicSupplyLow s = .next t ∧ quiet t)
      ∧ (s.device.resetLow = false → ∃ t, exec .resetLineAssert s = .next t ∧ quiet t)
      ∧ (held s = true → ∃ t, exec (.powerOn straps) s = .next t ∧ quiet t)
      ∧ (s.device.supplyFail = true → s.device.resetLow = false →
          ∃ t, exec (.logicSupplyRestored straps) s = .next t ∧ begun t)
      ∧ (s.device.resetLow = true → s.device.supplyFail = false →
          ∃ t, exec (.resetLineRelease straps) s = .next t ∧ begun t)
      ∧ (Running s → ∃ u v,
          exec .logicSupplyLow s = .next u ∧ exec .resetLineAssert s = .next v
            ∧ exec (.logicSupplyRestored straps) u = exec (.powerOn straps) s
            ∧ exec (.resetLineRelease straps) v = exec (.powerOn straps) s)

/-- R172, R82: at the INIT timer's expiry the part enters STANDBY, every existing channel is in
FALLBACK with NOT_ACTIVE, ATTENTION follows the pending enabled sources, and nothing else moves:
with every output off and every channel OFF or in FALLBACK, as INIT has them, the channels'
other fields, the outputs and the fault set are given whole. -/
def Obligations.InitTimerExpiryEntersStandby : Prop :=
  ∀ (s : State),
    Running s → s.device.state = .init → s.device.initTimer.isSome = true →
      ∃ t, exec .initTimerExpiry s = .next t
        ∧ t.device = { s.device with state := .standby, initTimer := none }
        ∧ (∀ o : Fin 13, t.outputs[o].energised = false)
        ∧ (∀ c : Fin 4, s.channels[c].present = true →
            t.channels[c].state = .fallback ∧ t.channels[c].reason = .notActive)
        ∧ (∀ c : Fin 4, s.channels[c].present = true → s.channels[c].state = .off →
            t.channels[c].action = .allOff)
        ∧ (∀ f ∈ allFaults, (t.faults.get f).latched = (s.faults.get f).latched)
        ∧ (∀ f ∈ allFaults, (∀ o : Fin 13, f ≠ .valveOpen o) → (∀ c : Fin 4, f ≠ .supplyWait c) →
          t.faults.get f = s.faults.get f)
        ∧ ((∀ o : Fin 13, s.outputs[o].energised = false) →
          (∀ c : Fin 4, s.channels[c].present = true →
            s.channels[c].state = .off ∨ s.channels[c].state = .fallback) →
          (∀ c : Fin 4, let x := s.channels[c]
            t.channels[c] =
              if x.present = true ∧ x.state = .off then
                ({ x with
                  state := .fallback, reason := .notActive, action := .allOff, supplyTimer := none
                  exerciseTimer := none, exerciseAction := none } : Channel).arbitrate
              else if x.present then { x with reason := .notActive }
              else x)
            ∧ (∀ c : Fin 4, ∀ o : Fin 13, o = inletOf c ∨ o = exhaustOf c ∨ o = backupOf c →
              t.outputs[o] =
                if s.channels[c].present = true ∧ s.channels[c].state = .off then
                  { s.outputs[o] with requested := false }
                else s.outputs[o])
            ∧ t.outputs[liftOutput] = s.outputs[liftOutput]
            ∧ (∀ o : Fin 13, t.faults.valveOpen[o] = s.faults.valveOpen[o])
            ∧ (∀ c : Fin 4, t.faults.supplyWait[c] =
              if s.channels[c].present = true ∧ s.channels[c].state = .off then
                ⟨false, s.faults.supplyWait[c].latched⟩
              else s.faults.supplyWait[c]))
        ∧ attentionLow t = (attentionRaised s != 0)
        ∧ t.analog = s.analog ∧ t.capture = s.capture ∧ t.loadUnit = s.loadUnit ∧ t.lift = s.lift
        ∧ t.axles = s.axles ∧ t.wheels = s.wheels ∧ t.tyres = s.tyres ∧ t.rollover = s.rollover
        ∧ t.receiver = s.receiver ∧ t.supervisor = s.supervisor ∧ t.link = s.link

/-- R180 and the restart columns of every field table: a SOFT_RESET keeps the layout and every
setting, sets every other field of an existing record and every other state of the blocks to its
restart value and starts INIT at once; a record that does not exist keeps its values (R5).
DEVICE field 0 in INIT is not readable; that its word is 0 is the model's choice (log entry 26). -/
def Obligations.SoftResetKeepsConfiguration : Prop :=
  ∀ (ix : BitVec 5) (s : State),
    Served s →
      ∃ t, exec (.softReset ix) s = .next t
        ∧ t.device.state = .init ∧ t.device.initTimer = some 20000 ∧ t.device.layout = s.device.layout
        ∧ t.analog.scanTimer = some 5000 ∧ t.capture.windowTimer = some 10000
        ∧ t.supervisor.agingTimer = some 1000000 ∧ t.supervisor.candidates = []
        ∧ t.link.response = ⟨.noResult, 0, 0, Vector.replicate 8 0⟩ ∧ t.link.select = .high
        ∧ t.link.cursorTable = .device ∧ t.link.cursorIndex = 0 ∧ attentionPending t = 0
        ∧ ResetInternals t
        ∧ (∀ c : Fin 4, s.channels[c].present = true →
          t.channels[c].gapTimer = some (s.device.changeoverGap * 1000))
        ∧ (let bits : Nat := if s.device.parity = .noParity then 10 else 11
           t.receiver = ⟨s.receiver.spacing, false, false, none, false,
            if s.receiver.spacing then some (32 * (bits * (4 * s.device.divisor))) else none, none,
            none, []⟩)
        ∧ (∀ a : Fin 4, s.axles[a].present = false → t.axles[a] = s.axles[a])
        ∧ (∀ w : Fin 8, s.wheels[w].present = false → t.wheels[w] = s.wheels[w])
        ∧ (∀ p : Fin 16, s.tyres[p].present = false →
          t.tyres[p] = { s.tyres[p] with learnOutstanding := false })
        ∧ (∀ c : Fin 4, s.channels[c].present = false → t.channels[c] = s.channels[c])
        ∧ t.lift.loweringTimer = (if (liftAxle s).isSome then some 6000000 else none)
        ∧ (∀ n : Fin 32, fieldWord t .device n.val =
            if n.val ∈ [1, 4, 7, 12, 16, 17, 18, 19, 20, 21, 22, 30] then fieldWord s .device n.val
            else if n.val = 5 then 1 else 0)
        ∧ (∀ a : Fin 4, s.axles[a].present = true → ∀ n : Fin 32, fieldWord t (.axle a) n.val =
            if n.val ∈ [0, 1, 2, 8, 9, 10, 11, 15] ∨ 16 ≤ n.val then fieldWord s (.axle a) n.val
            else if n.val = 14 then (if s.axles[a].liftable then 4 else 0) else 0)
        ∧ (∀ w : Fin 8, s.wheels[w].present = true → ∀ n : Fin 32, fieldWord t (.wheel w) n.val =
            if n.val ∈ [0, 1, 2, 3, 4] then fieldWord s (.wheel w) n.val
            else if n.val = 6 then (if s.wheels[w].enabled then 0 else 3)
            else if n.val = 16 then 0x8000 else 0)
        ∧ (∀ p : Fin 16, s.tyres[p].present = true → ∀ n : Fin 32, fieldWord t (.tyre p) n.val =
            if n.val ∈ [0, 1, 8] then fieldWord s (.tyre p) n.val
            else if n.val = 2 then
              (if s.tyres[p].state = .live ∨ s.tyres[p].state = .missing then 2 else 0)
            else if n.val = 3 ∨ n.val = 4 then
              (if s.tyres[p].state = .live ∨ s.tyres[p].state = .missing then
                fieldWord s (.tyre p) n.val else 0x8000)
            else if 9 ≤ n.val ∧ n.val ≤ 11 then 0x8000
            else if n.val = 17 then (if s.tyres[p].state = .learning then 3 else 0) else 0)
        ∧ (∀ c : Fin 4, s.channels[c].present = true → ∀ n : Fin 32, fieldWord t (.channel c) n.val =
            if n.val ∈ [0, 1, 2, 3, 8, 9, 10, 15, 24] then fieldWord s (.channel c) n.val
            else if n.val = 13 then fieldWord s (.channel c) 8
            else if n.val = 6 then 3
            else if n.val = 19 ∨ n.val = 26 then 0x8000 else 0)
        ∧ (∀ n : Fin 32, fieldWord t .rollover n.val =
            if 8 ≤ n.val ∧ n.val ≤ 14 then fieldWord s .rollover n.val
            else if n.val = 3 then fieldWord s .rollover 10
            else if n.val = 4 then BitVec.ofNat 16 (s.rollover.aEmpty * 3 / 4)
            else if n.val = 1 ∨ n.val = 5 ∨ n.val = 6 then 0x8000 else 0)

/-- R179: RESTARTED is DEVICE field 5 and status word bit 7; every reset sets it at the start of
INIT and ACK_FAULTS clears it. -/
def Obligations.RestartedMarkIsSetByResetsAndAcknowledged : Prop :=
  ∀ (straps : BitVec 2) (ix : BitVec 5) (s : State),
    fieldWord s .device 5 = (if s.device.restarted then 1 else 0)
      ∧ (statusWord s).getLsbD 7 = s.device.restarted
      ∧ (Running s → ∃ t, exec (.powerOn straps) s = .next t
          ∧ t.device.state = .init ∧ t.device.restarted = true)
      ∧ (s.device.supplyFail = true → s.device.resetLow = false →
          ∃ t, exec (.logicSupplyRestored straps) s = .next t
            ∧ t.device.state = .init ∧ t.device.restarted = true)
      ∧ (s.device.resetLow = true → s.device.supplyFail = false →
          ∃ t, exec (.resetLineRelease straps) s = .next t
            ∧ t.device.state = .init ∧ t.device.restarted = true)
      ∧ (Served s → ∃ t, exec (.softReset ix) s = .next t
          ∧ t.device.state = .init ∧ t.device.restarted = true)
      ∧ (Served s → ∃ t, exec (.ackFaults ix) s = .next t ∧ t.device.restarted = false)

/-- R96: asserting FAILSAFE de-energises all thirteen outputs, puts every channel in FALLBACK and
lowers a raised or raising axle with the lift timers and the solenoid as R64 gives them,
clearing no fault; releasing it energises nothing by itself. -/
def Obligations.FailsafeLineDropsOutputs : Prop :=
  ∀ (s : State),
    Running s →
      (∃ t, exec .failsafeAssert s = .next t
        ∧ t.device = { s.device with failsafe := true }
        ∧ (∀ o : Fin 13, t.outputs[o].energised = false)
        ∧ (∀ c : Fin 4, s.channels[c].present = true → s.channels[c].state ≠ .off →
            t.channels[c].state = .fallback
              ∧ t.channels[c].reason =
                (if s.device.state = .active ∨ s.device.state = .waitRelease then .failsafe
                else .notActive))
        ∧ ForcedLowering s t
        ∧ (∀ a : Fin 4, liftAxle s ≠ some a → t.axles[a] = s.axles[a])
        ∧ (liftAxle s = none → t.lift = s.lift)
        ∧ (∀ f ∈ allFaults, (t.faults.get f).latched = (s.faults.get f).latched)
        ∧ t.analog = s.analog ∧ t.capture = s.capture ∧ t.loadUnit = s.loadUnit
        ∧ t.wheels = s.wheels ∧ t.tyres = s.tyres ∧ t.rollover = s.rollover
        ∧ t.receiver = s.receiver ∧ t.supervisor = s.supervisor ∧ t.link = s.link)
      ∧ (∃ t, exec .failsafeRelease s = .next t
        ∧ t.device = { s.device with failsafe := false }
        ∧ (∀ o : Fin 13, t.outputs[o].energised = true → s.outputs[o].energised = true)
        ∧ (∀ c : Fin 4, s.channels[c].present = true → s.channels[c].state = .fallback →
            t.channels[c].state = .fallback)
        ∧ (∀ f ∈ allFaults, (t.faults.get f).latched = (s.faults.get f).latched)
        ∧ t.analog = s.analog ∧ t.capture = s.capture ∧ t.loadUnit = s.loadUnit ∧ t.lift = s.lift
        ∧ t.axles = s.axles ∧ t.wheels = s.wheels ∧ t.tyres = s.tyres ∧ t.rollover = s.rollover
        ∧ t.receiver = s.receiver ∧ t.supervisor = s.supervisor ∧ t.link = s.link)

/-- R18: at the scan timer's expiry the working set is published and every block takes the
completion once, in the order the command names (the order is the model's operand, log entry 5). -/
def Obligations.ScanRunsBlocksInOrder : Prop :=
  ∀ (r : ScanInputs) (order : List ScanAgent) (s : State),
    Running s → s.analog.scanTimer.isSome = true →
      (Instr.scanCompletion r order).wellFormed = true →
      exec (.scanCompletion r order) s = .next
        (order.foldl
          (fun u agent =>
            match agent with
            | .loadUnit => loadUnitScan u
            | .liftController => liftScan u
            | .pressureTarget => pressureTargetScan u
            | .channel c => channelScan c u
            | .valveDriver => valveDriverScan r.lowCurrent u
            | .antiLock => antiLockScan s.device.braking u
            | .operatingState => waitReleaseScan u)
          (publish r s))

/-- R18 to R21, R24, R25 and R27: a scan completion converts and writes every existing input's
reading, or its hold value, with the braking flag and the valve supply, whatever order the
blocks take it in. -/
def Obligations.ScanPublishesReadings : Prop :=
  ∀ (r : ScanInputs) (order : List ScanAgent) (s : State),
    Running s → s.analog.scanTimer.isSome = true →
      ∃ t, exec (.scanCompletion r order) s = .next t
        ∧ (let kpa : Raw → Option Nat := fun x =>
            if x.toNat ≤ 50 ∨ 973 ≤ x.toNat then none
            else if x.toNat ≤ 101 then some 0
            else if x.toNat ≤ 921 then some ((x.toNat - 102) * 1000 / 819)
            else some 1000
           t.device.demand = (kpa r.demand).getD s.analog.demand.hold
            ∧ t.analog.demand.hold = (kpa r.demand).getD s.analog.demand.hold
            ∧ t.device.reservoir = (kpa r.reservoir).getD s.analog.reservoir.hold
            ∧ t.analog.reservoir.hold = (kpa r.reservoir).getD s.analog.reservoir.hold
            ∧ (∀ c : Fin 4, if s.channels[c].present then
                t.channels[c].delivered = (kpa r.delivered[c]).getD s.analog.delivered[c].hold
                  ∧ t.analog.delivered[c].hold =
                    (kpa r.delivered[c]).getD s.analog.delivered[c].hold
                else t.channels[c].delivered = s.channels[c].delivered
                  ∧ t.analog.delivered[c] = s.analog.delivered[c])
            ∧ (∀ a : Fin 4, if s.axles[a].present then
                t.axles[a].bellowsRaw = (kpa r.bellows[a]).getD s.analog.bellows[a].hold
                  ∧ t.analog.bellows[a].hold = (kpa r.bellows[a]).getD s.analog.bellows[a].hold
                else t.axles[a] = s.axles[a] ∧ t.analog.bellows[a] = s.analog.bellows[a])
            ∧ t.device.braking = decide (s.device.dMin ≤ t.device.demand)
            ∧ t.device.valveSupply = r.supply.toNat * 32
            ∧ t.analog.scanTimer = s.analog.scanTimer)

/-- R22 to R24, R51, R176 and R177: three consecutive bad readings make an existing input's fault
present and three good ones end it; it is reported unless masked, latches and raises the FAULT
source, and a bellows fault freezes the value of the scan completion at which it began. R27,
R28: VALVE_SUPPLY_LOW comes below 18,000 mV and goes at 19,000 mV; while it is present every
output is off and every channel is in FALLBACK. -/
def Obligations.ScanReportsSensorsAndSupply : Prop :=
  (∀ (r : ScanInputs) (order : List ScanAgent) (s : State),
      Running s → s.analog.scanTimer.isSome = true →
        ∃ t, exec (.scanCompletion r order) s = .next t
          ∧ (let good : Raw → Bool := fun x => decide (51 ≤ x.toNat) && decide (x.toNat ≤ 972)
             let step : AnalogInput → Raw → Bool × Nat := fun i x =>
              match i.fault, good x with
              | false, false => if 3 ≤ i.streak + 1 then (true, 0) else (false, i.streak + 1)
              | false, true => (false, 0)
              | true, true => if 3 ≤ i.streak + 1 then (false, 0) else (true, i.streak + 1)
              | true, false => (true, 0)
             let filters : AnalogInput → AnalogInput → Raw → Prop := fun i j x =>
              (j.fault, j.streak) = step i x
             let reported : FaultId → Bool → Prop := fun f b =>
              (t.faults.get f).present = (b && !s.device.faultMask.getLsbD f.bit)
                ∧ (t.faults.get f).latched = ((s.faults.get f).latched
                  || (t.faults.get f).present && !(s.faults.get f).present)
             filters s.analog.demand t.analog.demand r.demand
              ∧ reported .demand t.analog.demand.fault
              ∧ filters s.analog.reservoir t.analog.reservoir r.reservoir
              ∧ reported .reservoir t.analog.reservoir.fault
              ∧ (∀ c : Fin 4, s.channels[c].present = true →
                  filters s.analog.delivered[c] t.analog.delivered[c] r.delivered[c]
                    ∧ reported (.delivered c) t.analog.delivered[c].fault)
              ∧ (∀ a : Fin 4, s.axles[a].present = true →
                  filters s.analog.bellows[a] t.analog.bellows[a] r.bellows[a]
                    ∧ reported (.bellows a) t.analog.bellows[a].fault
                    ∧ t.axles[a].bellowsFault = (t.faults.get (.bellows a)).present
                    ∧ (t.axles[a].bellowsFault ≠ s.axles[a].bellowsFault →
                      t.axles[a].changeMark = true)
                    ∧ (let faulty : State → Bool := fun u =>
                        u.faults.bellows[a].present || u.faults.bellows[a].latched
                       t.axles[a].frozen =
                        if faulty t = false then none
                        else if faulty s = false then some t.axles[a].bellowsRaw
                        else some (s.axles[a].frozen.getD t.axles[a].bellowsRaw)))
              ∧ (∀ c : Fin 4, s.channels[c].present = false →
                  t.faults.delivered[c] = s.faults.delivered[c])
              ∧ (∀ a : Fin 4, s.axles[a].present = false →
                  t.faults.bellows[a] = s.faults.bellows[a])
              ∧ (∀ f ∈ allFaults, (t.faults.get f).latched = true → (s.faults.get f).latched = false →
                  t.link.faultPending = true)))
  ∧ (∀ (r : ScanInputs) (order : List ScanAgent) (s : State),
      Running s → s.analog.scanTimer.isSome = true → s.device.faultMask.getLsbD 9 = false →
        ∃ t, exec (.scanCompletion r order) s = .next t
          ∧ t.faults.supplyLow.present =
              (if s.faults.supplyLow.present then decide (r.supply.toNat * 32 < 19000)
              else decide (r.supply.toNat * 32 < 18000))
          ∧ t.faults.supplyLow.latched = s.faults.supplyLow.latched
          ∧ (t.faults.supplyLow.present = true →
              (∀ o : Fin 13, t.outputs[o].energised = false)
                ∧ ∀ c : Fin 4, s.channels[c].present = true → s.channels[c].state ≠ .off →
                  t.channels[c].state = .fallback
                    ∧ (t.device.state = .active ∨ t.device.state = .waitRelease →
                      s.device.failsafe = false → t.channels[c].reason = .supplyVoltage)))

/-- The frame of SCAN_COMPLETION: what the blocks of R18 do not write is unchanged, and no latched
mark is cleared. -/
def Obligations.ScanLeavesOtherStateAlone : Prop :=
  ∀ (r : ScanInputs) (order : List ScanAgent) (s : State),
    Running s →
      ∃ t, exec (.scanCompletion r order) s = .next t
        ∧ t.pending = s.pending ∧ t.capture = s.capture ∧ t.wheels = s.wheels ∧ t.tyres = s.tyres
        ∧ t.rollover = s.rollover ∧ t.receiver = s.receiver ∧ t.supervisor = s.supervisor
        ∧ t.link = { s.link with faultPending := t.link.faultPending }
        ∧ (s.link.faultPending = true → t.link.faultPending = true)
        ∧ t.device = { s.device with
            state := t.device.state, demand := t.device.demand, reservoir := t.device.reservoir,
            valveSupply := t.device.valveSupply, braking := t.device.braking, fTot := t.device.fTot }
        ∧ (t.device.state = s.device.state
            ∨ s.device.state = .waitRelease ∧ t.device.state = .standby)
        ∧ (∀ a : Fin 4, t.axles[a] = { s.axles[a] with
            bellowsRaw := t.axles[a].bellowsRaw, bellowsFiltered := t.axles[a].bellowsFiltered,
            filterEmpty := t.axles[a].filterEmpty, frozen := t.axles[a].frozen,
            load := t.axles[a].load, loadFraction := t.axles[a].loadFraction,
            bellowsFault := t.axles[a].bellowsFault, changeMark := t.axles[a].changeMark,
            liftState := t.axles[a].liftState, liftMode := t.axles[a].liftMode,
            seenDown := t.axles[a].seenDown })
        ∧ (∀ c : Fin 4, let x := t.channels[c]
            let y := s.channels[c]
            x.present = y.present ∧ x.side = y.side ∧ x.groupFirst = y.groupFirst
              ∧ x.groupLast = y.groupLast ∧ x.gEmpty = y.gEmpty ∧ x.gLaden = y.gLaden
              ∧ x.pLim = y.pLim ∧ x.band = y.band ∧ x.policy = y.policy
              ∧ x.rolloverRequest = y.rolloverRequest)
        ∧ (∀ w : Fin 8, t.faults.speed[w] = s.faults.speed[w])
        ∧ t.faults.jam = s.faults.jam ∧ t.faults.linkFrame = s.faults.linkFrame
        ∧ (∀ f ∈ allFaults, (s.faults.get f).latched = true → (t.faults.get f).latched = true)

/-- R48 to R51, R55 to R57: the Load Unit's filters, the hold while braking or intervening and its
release after 100 scan completions, and the loads it then takes; nothing else of the state
changes. R52 to R54: a curve's load is the first point's below it, the last point's above it and
the lowest enclosing segment's interpolation between; a load fraction is truncated and clamped
to 0 to 1024; F_TOT and the channel fractions sum over the axles that are down. -/
def Obligations.LoadUnitFiltersHoldsAndWeighs : Prop :=
  (∀ (s : State),
      let t := loadUnitScan s
      let u := s.loadUnit
      let intervening : Bool := s.rollover.state == .intervene || s.rollover.state == .recover
      t.loadUnit =
          (match u.loadState with
          | .live => if s.device.braking || intervening then ⟨.held, 0⟩ else u
          | .held =>
            if s.device.braking then ⟨.held, 0⟩
            else if 100 ≤ u.releaseCount + 1 then
              (if intervening then ⟨.held, 100⟩ else ⟨.live, 100⟩)
            else ⟨.held, u.releaseCount + 1⟩)
        ∧ (∀ a : Fin 4, s.axles[a].present = false → t.axles[a] = s.axles[a])
        ∧ (∀ a : Fin 4, s.axles[a].present = true →
            let x := s.axles[a]
            let y := t.axles[a]
            let faulty : Bool := s.faults.bellows[a].present || s.faults.bellows[a].latched
            let input := if faulty then x.frozen.getD x.bellowsRaw else x.bellowsRaw
            y.frozen = (if faulty then some input else none)
              ∧ y.bellowsFiltered =
                (if x.filterEmpty then input
                else ((x.bellowsFiltered : Int) + ((input : Int) - x.bellowsFiltered).tdiv 8).toNat)
              ∧ (if t.loadUnit.loadState = .live
                    ∨ (u.loadState = .held ∧ x.liftState = .down ∧ x.seenDown = false) then
                  y.load = curveLoad x.curve y.bellowsFiltered
                    ∧ y.loadFraction = loadFractionOf y.load x.l0 x.l1
                else y.load = x.load ∧ y.loadFraction = x.loadFraction)
              ∧ y.changeMark = (x.changeMark || u.loadState != t.loadUnit.loadState)
              ∧ y = { x with
                  frozen := y.frozen, bellowsFiltered := y.bellowsFiltered, filterEmpty := false,
                  load := y.load, loadFraction := y.loadFraction, changeMark := y.changeMark,
                  seenDown := x.liftState == .down || x.liftState == .notLiftable })
        ∧ t = { s with
            loadUnit := t.loadUnit, axles := t.axles, channels := t.channels,
            device := { s.device with fTot := t.device.fTot } })
  ∧ (∀ (curve : List CurvePoint) (b load low high : Nat) (s : State),
      let p : Nat → CurvePoint := fun k => curve.getD k ⟨0, 0⟩
      (curve ≠ [] → b ≤ (p 0).bellows → curveLoad curve b = (p 0).load)
        ∧ (curve ≠ [] → (p 0).bellows < b → (p (curve.length - 1)).bellows ≤ b →
            curveLoad curve b = (p (curve.length - 1)).load)
        ∧ (∀ k < curve.length - 1, (p 0).bellows < b → b < (p (curve.length - 1)).bellows →
            (p k).bellows ≤ b → b < (p (k + 1)).bellows →
            (∀ j < k, ¬((p j).bellows ≤ b ∧ b < (p (j + 1)).bellows)) →
            curveLoad curve b =
              (((p k).load : Int)
                + ((((p (k + 1)).load : Int) - (p k).load) * ((b : Int) - (p k).bellows)).tdiv
                  (((p (k + 1)).bellows : Int) - (p k).bellows)).toNat)
        ∧ (high ≤ low → loadFractionOf load low high = 0)
        ∧ (low < high → load ≤ low → loadFractionOf load low high = 0)
        ∧ (low < high → low ≤ load →
            loadFractionOf load low high = min 1024 ((load - low) * 1024 / (high - low)))
        ∧ (let t := loadUnitScan s
           let total : (Fin 4 → Bool) → (Axle → Nat) → Nat := fun inSet f =>
            ((List.finRange 4).map fun a =>
              if t.axles[a].present && inSet a
                  && (t.axles[a].liftState == .down || t.axles[a].liftState == .notLiftable)
              then f t.axles[a] else 0).sum
           t.device.fTot =
              loadFractionOf (total (fun _ => true) Axle.load) (total (fun _ => true) Axle.l0)
                (total (fun _ => true) Axle.l1)
            ∧ ∀ c : Fin 4,
              let group : Fin 4 → Bool := fun a =>
                decide (s.channels[c].groupFirst ≤ a) && decide (a ≤ s.channels[c].groupLast)
              t.channels[c] =
                if s.channels[c].present then
                  { s.channels[c] with
                    handFraction :=
                      loadFractionOf (total group Axle.load) (total group Axle.l0)
                        (total group Axle.l1)
                    handBearing := (List.finRange 4).any fun a =>
                      t.axles[a].present && group a
                        && (t.axles[a].liftState == .down || t.axles[a].liftState == .notLiftable) }
                else s.channels[c]))

/-- R60, R66: on a trailer without a liftable axle the Lift Controller reports LIFT absent and keeps
the light count at 0. R58 to R66: what the Lift Controller does at a scan completion with the
liftable axle, its mode, timers, light count and solenoid. That an axle that comes DOWN at a
scan is not raised at the same scan is the model's choice (log entry 11), and so is that an
overload switches MANUAL_UP to AUTO whatever other cause holds (log entry 14); with a bellows
fault a lowering waits out its timer (R65). -/
def Obligations.LiftAxleAtScan : Prop :=
  (∀ (s : State),
      liftAxle s = none →
        liftScan s = { s with
          lift := { s.lift with lightCount := 0 }
          faults := { s.faults with lift := ⟨false, s.faults.lift.latched⟩ } })
  ∧ (∀ (a : Fin 4) (s : State),
      liftAxle s = some a →
        let t := liftScan s
        let x := s.axles[a]
        let y := t.axles[a]
        let forbidden : Prop :=
          s.device.state ≠ .active ∨ s.device.failsafe = true ∨ s.faults.supplyLow.present = true
            ∨ s.faults.bellows[a].present = true ∨ s.faults.bellows[a].latched = true
            ∨ s.faults.valveOpen[liftOutput].present = true
            ∨ s.faults.valveOpen[liftOutput].latched = true
            ∨ s.faults.valveShort[liftOutput].latched = true
            ∨ s.faults.valveShort[liftOutput].present = true
        let alarmed : Prop :=
          s.rollover.state = .alert ∨ s.rollover.state = .test ∨ s.rollover.state = .intervene
            ∨ s.rollover.state = .recover
        let lowered : Prop :=
          x.liftState = .lowering ∧ x.bDown ≤ x.bellowsFiltered
            ∧ s.faults.bellows[a].present = false ∧ s.faults.bellows[a].latched = false
        let light : Nat :=
          if (x.liftState = .down ∨ lowered)
              ∧ s.device.fTot < x.fRaise then
            min 2000 ((if x.liftState = .lowering then 0 else s.lift.lightCount) + 1)
          else 0
        let mayRaise : Prop :=
          ¬forbidden ∧ s.device.braking = false ∧ ¬alarmed
            ∧ (x.liftMode = .manualUp ∨ x.liftMode = .auto ∧ 2000 ≤ light)
        let inhibited : Prop := forbidden ∨ s.device.braking = true ∨ x.liftMode = .manualDown
        let mustLower : Prop :=
          forbidden ∨ x.liftMode = .manualDown ∨ x.fLower ≤ s.device.fTot ∨ alarmed
        y.liftState =
            (match x.liftState with
            | .notLiftable => .notLiftable
            | .down => if mayRaise then .raising else .down
            | .raising =>
              if inhibited then .lowering else if x.bellowsFiltered < x.bUp then .up else .raising
            | .up => if mustLower then .lowering else .up
            | .lowering => if lowered then .down else .lowering)
          ∧ y.liftMode =
            (if x.liftState = .up ∧ x.liftMode = .manualUp ∧ x.fLower ≤ s.device.fTot then .auto
            else x.liftMode)
          ∧ (y.liftState ≠ x.liftState → y.changeMark = true)
          ∧ t.lift.lightCount = (if x.liftState = .down ∧ mayRaise then 0 else light)
          ∧ t.lift.raiseTimer =
            (if x.liftState ≠ y.liftState then (if y.liftState = .raising then some 6000000
              else if x.liftState = .lowering then s.lift.raiseTimer else none)
            else s.lift.raiseTimer)
          ∧ t.lift.loweringTimer =
            (if x.liftState ≠ y.liftState ∧ y.liftState = .lowering then some 6000000
            else if x.liftState = .lowering ∧ y.liftState = .down then none else s.lift.loweringTimer)
          ∧ (x.liftState ≠ y.liftState → (y.liftState = .raising → t.outputs[liftOutput].requested = true)
              ∧ (y.liftState = .lowering →
                t.outputs[liftOutput].requested = false ∧ t.outputs[liftOutput].energised = false))
          ∧ t.faults.lift.present = false
          ∧ (∀ b : Fin 4, b ≠ a → t.axles[b] = s.axles[b])
          ∧ (∀ o : Fin 13, o ≠ liftOutput → t.outputs[o] = s.outputs[o])
          ∧ t.device = s.device ∧ t.channels = s.channels ∧ t.rollover = s.rollover)

/-- R69 to R76: at a scan completion every existing channel's gain and target are computed from the
fraction last handed over, the demand and the braking flag, and the target goes to its arbiter. -/
def Obligations.ServiceTargetsAtScan : Prop :=
  ∀ (s : State),
    let t := pressureTargetScan s
    (∀ c : Fin 4, s.channels[c].present = false → t.channels[c] = s.channels[c])
      ∧ (∀ c : Fin 4, s.channels[c].present = true →
          let x := s.channels[c]
          let y := t.channels[c]
          let gain : Nat :=
            if x.handBearing then
              ((x.gEmpty : Int)
                + ((((x.gLaden : Int) - x.gEmpty) * x.handFraction + 512).tdiv 1024)).toNat
            else x.gEmpty
          y.fraction = x.handFraction ∧ y.groupBearing = x.handBearing ∧ y.gain = gain
            ∧ y.target =
              (if s.device.braking = true ∧ x.handBearing = true then
                min ((s.device.demand * gain + 512) / 1024) x.pLim
              else 0)
            ∧ y = { x with
                fraction := y.fraction, groupBearing := y.groupBearing, gain := y.gain,
                target := y.target, commanded := y.commanded, winning := y.winning }
            ∧ y.commanded = ({ x with target := y.target } : Channel).command)
      ∧ t = { s with channels := t.channels }

/-- R79, R80: the arbiter commands the larger of the service target and the ROLLOVER request, capped
by anti-lock control and by P_LIM, and names the first winning source that applies. -/
def Obligations.ArbiterTakesTheLargestAndCaps : Prop :=
  ∀ (x : Channel),
    let u : Nat := max x.target x.rolloverRequest
    let caps : Prop := x.antiLock = .release ∨ x.antiLock = .hold ∨ x.antiLock = .reapply
    let commanded : Nat := min (if caps then min u (x.cap.getD 0) else u) x.pLim
    x.arbitrate = { x with
      commanded := commanded
      winning :=
        if x.state = .exercise then .exercise
        else if caps ∧ x.cap.getD 0 < u then .antilock
        else if commanded = 0 then .noSource
        else if x.target < x.rolloverRequest then .rollover
        else .service }

/-- Section 6.2, R91 and R92: the four valve actions request the channel's three solenoids; what is
not wanted goes off at once and starts the changeover gap, what is wanted comes on once R91
allows it and the opposite valve and the gap leave it free. -/
def Obligations.ValveActionDrivesSolenoids : Prop :=
  ∀ (c : Fin 4) (action : ValveAction) (s : State),
    let t := requestAction c action s
    let x := s.channels[c]
    let on : Fin 13 → Bool := fun o => s.outputs[o].energised
    let allowed : Fin 13 → Prop := fun o =>
      (s.device.state = .active ∨ s.device.state = .waitRelease) ∧ s.device.failsafe = false
        ∧ s.faults.supplyLow.present = false ∧ x.present = true
        ∧ s.faults.valveShort[o].latched = false
    t.channels[c].action = action
      ∧ (t.outputs[inletOf c].requested = true ↔ action = .apply)
      ∧ (t.outputs[exhaustOf c].requested = true ↔ action = .vent)
      ∧ (t.outputs[backupOf c].requested = true ↔ action ≠ .allOff)
      ∧ (t.outputs[inletOf c].energised = true ↔ action = .apply
          ∧ (on (inletOf c) = true ∨ allowed (inletOf c) ∧ on (exhaustOf c) = false
            ∧ (x.gapTimer = none ∨ x.gapNote = .inlet)))
      ∧ (t.outputs[exhaustOf c].energised = true ↔ action = .vent
          ∧ (on (exhaustOf c) = true ∨ allowed (exhaustOf c) ∧ on (inletOf c) = false
            ∧ (x.gapTimer = none ∨ x.gapNote = .exhaust)))
      ∧ (t.outputs[backupOf c].energised = true ↔ action ≠ .allOff
          ∧ (on (backupOf c) = true ∨ allowed (backupOf c)))
      ∧ (∀ o : Fin 13, o = inletOf c ∨ o = exhaustOf c ∨ o = backupOf c →
          (on o = true → t.outputs[o].energised = false →
            t.outputs[o] = ⟨false, false, none, false, 0⟩
              ∧ (t.faults.get (.valveOpen o)).present = false)
          ∧ (on o = false → t.outputs[o].energised = true →
            t.outputs[o] = ⟨true, true, some (s.device.blankingTime * 1000), false, 0⟩))
      ∧ ((t.channels[c].gapTimer, t.channels[c].gapNote) =
          (if on (exhaustOf c) = true ∧ action ≠ .vent then
            (some (s.device.changeoverGap * 1000), .exhaust)
          else if on (inletOf c) = true ∧ action ≠ .apply then
            (some (s.device.changeoverGap * 1000), .inlet)
          else (x.gapTimer, x.gapNote)))
      ∧ t.channels[c] = { x with
          action := action, gapTimer := t.channels[c].gapTimer, gapNote := t.channels[c].gapNote }
      ∧ (∀ d : Fin 4, d ≠ c → t.channels[d] = s.channels[d])
      ∧ (∀ o : Fin 13, o ≠ inletOf c → o ≠ exhaustOf c → o ≠ backupOf c →
          t.outputs[o] = s.outputs[o])
      ∧ (∀ f ∈ allFaults, (t.faults.get f).latched = (s.faults.get f).latched)
      ∧ t.device = s.device ∧ t.axles = s.axles ∧ t.rollover = s.rollover ∧ t.link = s.link

/-- R85 to R89, R99: a Channel Controller at a scan completion: the pressure loop with its band, the
supply check of an apply, SUPPLY_WAIT and its end, the end of an exercise and the return from
FALLBACK. That an exercise ends with BRAKING where both of R99's conditions hold is the model's
choice (log entry 33). -/
def Obligations.PressureLoopAtScan : Prop :=
  ∀ (c : Fin 4) (s : State),
    s.channels[c].present = true →
      let x := s.channels[c]
      let reserve : Bool := s.faults.reservoir.present || s.faults.reservoir.latched
      let loop : ValveAction :=
        if x.commanded = 0 then (if x.band < x.delivered then .vent else .hold)
        else if x.delivered + x.band < x.commanded then .apply
        else if x.commanded + x.band < x.delivered then .vent
        else .hold
      let passes : Bool :=
        reserve || decide ((if x.action = .apply then s.device.supplyOn - 50
          else s.device.supplyOn) ≤ s.device.reservoir)
      let electronic : State → State := fun u =>
        if loop = .apply ∧ passes = false then
          requestAction c .hold
            (u.setChannel c { u.channels[c] with state := .supplyWait, supplyTimer := some 3000000 })
        else requestAction c loop u
      channelScan c s =
        (match x.state with
        | .off => s
        | .electronic => electronic s
        | .supplyWait =>
          if s.device.supplyOn ≤ s.device.reservoir ∨ reserve = true then
            electronic (report (.supplyWait c) false
              (s.setChannel c { x with state := .electronic, supplyTimer := none }))
          else requestAction c (if loop = .apply then .hold else loop) s
        | .exercise =>
          if s.device.braking = true ∨ 0 < s.device.referenceSpeed then
            requestAction c .hold (s.setChannel c
              ({ x with
                state := .electronic, exerciseTimer := none, exerciseAction := none
                lastEnd := if s.device.braking then .braking else .moving } : Channel).arbitrate)
          else s
        | .fallback =>
          if fallbackReason s c = .noReason then
            electronic (s.setChannel c { x with state := .electronic, reason := .noReason })
          else s)

/-- R83, R84: the fallback reason is the first row that holds, and a channel in any other running
state enters FALLBACK with it, all solenoids off, its exercise and supply wait ended. -/
def Obligations.FallbackReasonIsTheFirstThatHolds : Prop :=
  ∀ (c : Fin 4) (s : State),
    let bad : FaultId → Prop := fun f =>
      (s.faults.get f).present = true ∨ (s.faults.get f).latched = true
    let valve : Fin 4 → Prop := fun d =>
      bad (.valveOpen (inletOf d)) ∨ bad (.valveShort (inletOf d))
        ∨ bad (.valveOpen (exhaustOf d)) ∨ bad (.valveShort (exhaustOf d))
        ∨ bad (.valveOpen (backupOf d)) ∨ bad (.valveShort (backupOf d))
    fallbackReason s c =
        (if s.device.state ≠ .active ∧ s.device.state ≠ .waitRelease then .notActive
        else if s.device.failsafe = true then .failsafe
        else if s.faults.supplyLow.present = true then .supplyVoltage
        else if bad .demand then .demandSensor
        else if bad (.delivered c) ∨ valve c
            ∨ (s.device.stopOnValveFault = true
              ∧ ∃ d : Fin 4, s.channels[d].present = true ∧ valve d) then .fault
        else .noReason)
      ∧ (s.channels[c].present = true → fallbackReason s c ≠ .noReason →
          let t := followReason c s
          (s.channels[c].state = .off → t = s)
            ∧ (s.channels[c].state = .fallback →
              t = s.setChannel c { s.channels[c] with reason := fallbackReason s c })
            ∧ (s.channels[c].state ≠ .off → s.channels[c].state ≠ .fallback →
              t.channels[c].state = .fallback ∧ t.channels[c].reason = fallbackReason s c
                ∧ t.channels[c].action = .allOff ∧ t.channels[c].supplyTimer = none
                ∧ t.channels[c].exerciseTimer = none ∧ t.channels[c].exerciseAction = none
                ∧ t.channels[c].lastEnd =
                  (if s.channels[c].state = .exercise then .fallback else s.channels[c].lastEnd)
                ∧ t.outputs[inletOf c].energised = false ∧ t.outputs[exhaustOf c].energised = false
                ∧ t.outputs[backupOf c].energised = false
                ∧ (t.faults.get (.supplyWait c)).present = false))

/-- R94, R95 and R83: the third low reading in a row of a checked output makes VALVE_OPEN present,
every VALVE_SHORT condition is reported absent, and a channel with a valve fault falls back.
That every checked output is sampled and reported before a channel falls back is read from the
manual (log entry 13). R112, R175: the start of a braking clears the release counts and its end
stops anti-lock control where no ROLLOVER request stands; WAIT_RELEASE ends at the scan at which
the release conditions hold. -/
def Obligations.CoilChecksBrakingEdgesAndWaitRelease : Prop :=
  (∀ (low : BitVec 13) (s : State),
      let t := valveDriverScan low s
      (∀ o : Fin 13,
          let x := s.outputs[o]
          let count : Nat := if low.getLsbD o.val then min 3 (x.lowCount + 1) else 0
          let open' : Bool := decide (x.checked = true ∧ count = 3)
            && !s.device.faultMask.getLsbD 0
          t.faults.valveShort[o] = ⟨false, s.faults.valveShort[o].latched⟩
            ∧ t.faults.valveOpen[o].latched =
              (s.faults.valveOpen[o].latched || (open' && !s.faults.valveOpen[o].present))
            ∧ (t.outputs[o].energised = true → t.outputs[o] =
                { x with lowCount := if x.checked then count else x.lowCount })
            ∧ (t.outputs[o].energised = true → x.checked = true →
                t.faults.valveOpen[o].present = open'))
        ∧ (∀ c : Fin 4, s.channels[c].present = true →
            s.channels[c].state = .electronic ∨ s.channels[c].state = .supplyWait
              ∨ s.channels[c].state = .exercise →
            (∃ o : Fin 13, (o = inletOf c ∨ o = exhaustOf c ∨ o = backupOf c)
              ∧ t.faults.valveOpen[o].latched = true) →
            t.channels[c].state = .fallback ∧ t.outputs[inletOf c].energised = false
              ∧ t.outputs[exhaustOf c].energised = false ∧ t.outputs[backupOf c].energised = false)
        ∧ t.device = s.device ∧ t.axles = s.axles ∧ t.wheels = s.wheels ∧ t.rollover = s.rollover)
  ∧ (∀ (before : Bool) (s : State),
      (∀ c : Fin 4, (antiLockScan before s).channels[c] =
          let x := s.channels[c]
          if x.present = true ∧ before = false ∧ s.device.braking = true then
            { x with releaseCount := 0 }
          else if x.present = true ∧ before = true ∧ s.device.braking = false
              ∧ x.rolloverRequest = 0 then
            ({ x with antiLock := .off, cap := none, holdTimer := none, stepTimer := none } :
              Channel).arbitrate
          else x)
        ∧ antiLockScan before s = { s with channels := (antiLockScan before s).channels }
        ∧ (let released : Prop :=
            (∀ c : Fin 4, s.channels[c].present = true →
              s.channels[c].commanded = 0 ∧ s.channels[c].state ≠ .exercise)
              ∧ s.rollover.state ≠ .alert ∧ s.rollover.state ≠ .test
              ∧ s.rollover.state ≠ .intervene ∧ s.rollover.state ≠ .recover
           let t := waitReleaseScan s
           if s.device.state = .waitRelease ∧ released then
            t.device = { s.device with state := .standby }
              ∧ (∀ o : Fin 13, t.outputs[o].energised = false)
              ∧ (∀ c : Fin 4, s.channels[c].present = true → s.channels[c].state ≠ .off →
                  t.channels[c].state = .fallback ∧ t.channels[c].reason = .notActive)
           else t = s))

/-- R92, R94, R95: the changeover gap's expiry serves a held request that still stands, the blanking
timer's expiry makes an energised output checked, and a short circuit switches its output off,
reports VALVE_SHORT and makes its channel fall back. That the gap's expiry is also taken while
the part is held is read from R100 (log entry 17). -/
def Obligations.DriverTimersAndShortCircuit : Prop :=
  ∀ (c : Fin 4) (o : Fin 13) (s : State),
    (s.channels[c].gapTimer.isSome = true →
        let x := s.channels[c]
        let allowed : Fin 13 → Prop := fun p =>
          (s.device.state = .active ∨ s.device.state = .waitRelease) ∧ s.device.failsafe = false
            ∧ s.faults.supplyLow.present = false ∧ x.present = true
            ∧ s.faults.valveShort[p].latched = false
        let inlet : Prop := s.outputs[inletOf c].requested = true
          ∧ s.outputs[exhaustOf c].energised = false ∧ allowed (inletOf c)
        let exhaust : Prop := s.outputs[exhaustOf c].requested = true
          ∧ s.outputs[inletOf c].energised = false ∧ ¬inlet ∧ allowed (exhaustOf c)
        ∃ t, exec (.changeoverGapExpiry c) s = .next t
          ∧ t = { s with channels := t.channels, outputs := t.outputs }
          ∧ (∀ d : Fin 4, t.channels[d] =
              if d = c then { x with gapTimer := none } else s.channels[d])
          ∧ (∀ p : Fin 13, t.outputs[p] =
              if s.outputs[p].energised = false ∧ (p = inletOf c ∧ inlet ∨ p = exhaustOf c ∧ exhaust)
              then
                ⟨s.outputs[p].requested, true, some (s.device.blankingTime * 1000), false, 0⟩
              else s.outputs[p]))
      ∧ (Running s → s.outputs[o].blanking.isSome = true →
          exec (.blankingTimerExpiry o) s = .next
            (s.setOutput o { s.outputs[o] with blanking := none, checked := s.outputs[o].energised }))
      ∧ (Running s → s.outputs[o].energised = true → s.device.faultMask.getLsbD 1 = false →
          ∃ t, exec (.shortCircuitTrip o) s = .next t
          ∧ t.outputs[o].energised = false ∧ t.outputs[o].checked = false
          ∧ (t.faults.get (.valveShort o)).present = true
          ∧ (s.faults.valveShort[o].present = false → s.faults.valveShort[o].latched = false →
            (t.faults.get (.valveShort o)).latched = true ∧ t.link.faultPending = true)
          ∧ (∀ d : Fin 4, o = inletOf d ∨ o = exhaustOf d ∨ o = backupOf d →
              s.channels[d].present = true → s.channels[d].state ≠ .off →
              t.channels[d].state = .fallback)
          ∧ t.device = s.device ∧ t.axles = s.axles ∧ t.wheels = s.wheels ∧ t.rollover = s.rollover
          ∧ t.receiver = s.receiver ∧ t.supervisor = s.supervisor)

/-- R31 and R4: an edge of an existing wheel-end is counted in its open window with its timestamp,
the first and the last kept; an input whose wheel-end does not exist is not timed. The timestamp
is the operand of the command (log entry 7). R30, R101: a window end forms the sample set, and
the Anti-Lock Unit and the Rollover Monitor take it, in the order the command names (log entry
5); the frame of SAMPLE_SET. -/
def Obligations.WheelEdgesAndSampleSetOrder : Prop :=
  (∀ (w : Fin 8) (now : Stamp) (s : State),
      Running s →
        exec (.wheelEdge w now) s = .next
          { s with
            capture := { s.capture with timestamp := now }
            wheels :=
              if s.wheels[w].present then
                s.wheels.set w { s.wheels[w] with
                  edgeCount := min 65535 (s.wheels[w].edgeCount + 1)
                  firstEdge := if s.wheels[w].edgeCount = 0 then now else s.wheels[w].firstEdge
                  lastEdge := now }
              else s.wheels })
  ∧ (∀ (now : Stamp) (lines : BitVec 8) (first : Bool) (s : State),
      Running s → s.capture.windowTimer.isSome = true →
        exec (.sampleSet now lines first) s = .next
            (if first then rolloverSample (antiLockSample (windowEnd now lines s))
            else antiLockSample (rolloverSample (windowEnd now lines s)))
          ∧ ∀ t, exec (.sampleSet now lines first) s = .next t →
            t.pending = s.pending ∧ t.analog = s.analog ∧ t.loadUnit = s.loadUnit
              ∧ t.tyres = s.tyres ∧ t.receiver = s.receiver ∧ t.supervisor = s.supervisor
              ∧ t.capture.timestamp = now ∧ t.capture.windowTimer = s.capture.windowTimer
              ∧ t.device = { s.device with
                  referenceSpeed := t.device.referenceSpeed, referenceLost := t.device.referenceLost }
              ∧ t.link = { s.link with
                  faultPending := t.link.faultPending, rolloverPending := t.link.rolloverPending }
              ∧ (∀ o : Fin 13, o ≠ liftOutput → t.outputs[o] = s.outputs[o])
              ∧ (∀ a : Fin 4, t.axles[a] = { s.axles[a] with
                  liftState := t.axles[a].liftState, changeMark := t.axles[a].changeMark })
              ∧ (∀ c : Fin 4, t.channels[c] = { s.channels[c] with
                  rolloverRequest := t.channels[c].rolloverRequest,
                  antiLock := t.channels[c].antiLock, cap := t.channels[c].cap,
                  holdTimer := t.channels[c].holdTimer, stepTimer := t.channels[c].stepTimer,
                  releaseCount := t.channels[c].releaseCount,
                  commanded := t.channels[c].commanded, winning := t.channels[c].winning }))

/-- R30 to R34: a window with two or more edges, with one and with none gives the wheel-end its
speed by the three rules, truncated and at most 6000. Where the span is 0 in R33 or R34 the
speed is a free value (log entry 4) and nothing is stated. -/
def Obligations.WheelSpeedsAtSampleSet : Prop :=
  ∀ (now : Stamp) (lines : BitVec 8) (first : Bool) (s : State),
    Running s → s.capture.windowTimer.isSome = true →
      ∃ t, exec (.sampleSet now lines first) s = .next t
        ∧ (∀ w : Fin 8, s.wheels[w].present = false → t.wheels[w] = s.wheels[w])
        ∧ (∀ w : Fin 8, s.wheels[w].present = true →
            let x := s.wheels[w]
            let y := t.wheels[w]
            let between : Stamp → Stamp → Nat := fun a b => (b - a).toNat
            let quotient : Nat → Nat := fun d => x.circumference * 100000 / (x.teeth * d)
            let e : Stamp := x.lastEdgeTime.getD 0
            (2 ≤ x.edgeCount →
                y.speed = min 6000 (x.circumference * 100000 * (x.edgeCount - 1)
                  / (x.teeth * max 1 (between x.firstEdge x.lastEdge)))
                  ∧ y.lastEdgeTime = some x.lastEdge)
              ∧ (x.edgeCount = 1 → x.lastEdgeTime = none → y.speed = 0)
              ∧ (x.edgeCount = 1 → y.lastEdgeTime = some x.lastEdge)
              ∧ (x.edgeCount = 1 → x.lastEdgeTime ≠ none → e ≠ x.lastEdge →
                y.speed = min 6000 (quotient (between e x.lastEdge)))
              ∧ (x.edgeCount = 0 → x.lastEdgeTime = none → y.speed = 0 ∧ y.lastEdgeTime = none)
              ∧ (x.edgeCount = 0 → x.lastEdgeTime ≠ none → 250000 ≤ between e now →
                y.speed = 0 ∧ y.lastEdgeTime = none)
              ∧ (x.edgeCount = 0 → x.lastEdgeTime ≠ none → e ≠ now → between e now < 250000 →
                y.speed = min 6000 (min x.speed (quotient (between e now)))
                  ∧ y.lastEdgeTime = some e)
              ∧ y.previousSpeed = x.speed ∧ y.edgeCount = 0)

/-- R37 to R43: the no-signal condition, the sensor state by its first row, the bearing and suspect
marks and validity of every existing wheel-end at a window end, and the report. Bearing in R38
is the axle's lift state at this window end (log entry 9). -/
def Obligations.SensorStateAndValidity : Prop :=
  ∀ (now : Stamp) (lines : BitVec 8) (first : Bool) (s : State),
    Running s → s.capture.windowTimer.isSome = true →
      ∃ t, exec (.sampleSet now lines first) s = .next t
        ∧ (∀ w : Fin 8, s.wheels[w].present = true →
            let x := s.wheels[w]
            let y := t.wheels[w]
            let axle := s.axles[axleOfWheel w]
            let line : Bool := lines.getLsbD w.val
            let masked : Bool := s.device.faultMask.getLsbD 6
            let down : Bool :=
              axle.present && (axle.liftState == .down || axle.liftState == .notLiftable)
            let suspect : Bool := s.tyres[outerTyre w].level == .flat
              && (!axle.twin || s.tyres[innerTyre w].level == .flat)
            let quiet : Bool × Nat :=
              if x.enabled = false ∨ line = true then (false, 0)
              else if x.noSignal then
                (if y.speed = 0 then (true, 0)
                else if 100 ≤ x.noSignalCount + 1 then (false, 0) else (true, x.noSignalCount + 1))
              else if y.speed = 0 ∧ down = true ∧ 278 ≤ s.device.referenceSpeed then
                (if 200 ≤ x.noSignalCount + 1 then (true, 0) else (false, x.noSignalCount + 1))
              else (false, 0)
            (y.noSignal, y.noSignalCount) = quiet
              ∧ y.sensorState =
                (if x.enabled = false then .disabled
                else if line = true ∧ masked = false then .openLine
                else if quiet.1 = true ∧ masked = false then .noSignal
                else .ok)
              ∧ y.bearing = down ∧ y.suspect = suspect
              ∧ (y.valid = true ↔ y.sensorState = .ok ∧ down = true ∧ suspect = false)
              ∧ (t.faults.get (.speed w)).present =
                ((y.sensorState == .openLine || y.sensorState == .noSignal) && !masked)
              ∧ (t.faults.get (.speed w)).latched = (s.faults.speed[w].latched
                || (t.faults.get (.speed w)).present && !s.faults.speed[w].present))
        ∧ (∀ w : Fin 8, s.wheels[w].present = false → t.faults.speed[w] = s.faults.speed[w])

/-- R44 to R46: the reference speed takes the fastest valid wheel-end within 15 up and 12 down per
window, holds without one, and after 50 window ends without one is lost. -/
def Obligations.ReferenceSpeedFollowsValidWheels : Prop :=
  ∀ (now : Stamp) (lines : BitVec 8) (first : Bool) (s : State),
    Running s → s.capture.windowTimer.isSome = true →
      ∃ t, exec (.sampleSet now lines first) s = .next t
        ∧ (let valid : List (Fin 8) :=
            (List.finRange 8).filter fun w => t.wheels[w].present && t.wheels[w].valid
           let top : Nat := valid.foldl (fun v w => max v t.wheels[w].speed) 0
           let v := s.device.referenceSpeed
           let n := s.capture.lostCount + 1
           (t.device.referenceSpeed, t.capture.mode, t.capture.lostCount, t.device.referenceLost) =
            (if valid = [] then
              match s.capture.mode with
              | .seeking => (0, .seeking, 0, s.device.referenceLost)
              | .tracking => (v, .holding, 1, false)
              | .holding => if 50 ≤ n then (0, .seeking, 0, true) else (v, .holding, n, false)
            else
              match s.capture.mode with
              | .seeking => (top, .tracking, 0, false)
              | .tracking | .holding => (max (v - 12) (min (v + 15) top), .tracking, 0, false)))

/-- R35, R102 to R104: every existing wheel-end's deceleration, slip and wish at a sample set;
without validity or below a reference of 150 there is no slip and the wish is FREE. -/
def Obligations.SlipDecelerationAndWish : Prop :=
  ∀ (now : Stamp) (lines : BitVec 8) (first : Bool) (s : State),
    Running s → s.capture.windowTimer.isSome = true →
      ∃ t, exec (.sampleSet now lines first) s = .next t
        ∧ (∀ w : Fin 8, s.wheels[w].present = true →
            let x := s.wheels[w]
            let y := t.wheels[w]
            let v := t.device.referenceSpeed
            let slip : Nat := if v ≤ y.speed then 0 else (v - y.speed) * 1024 / v
            let release : Prop :=
              s.device.slipRel ≤ slip ∨ 1500 ≤ y.deceleration ∧ 51 ≤ slip
            let recovery : Prop := slip < s.device.slipRel / 2 ∨ y.deceleration ≤ -300
            y.deceleration = max (-2000) (min 2000 (((x.speed : Int) - y.speed) * 100))
              ∧ y.slip = (if y.valid = true ∧ 150 ≤ v then some slip else none)
              ∧ y.wish =
                (if y.valid = true ∧ 150 ≤ v then
                  (if release then .release
                  else
                    match x.wish with
                    | .free => .free
                    | .release => if recovery then .hold else .release
                    | .hold => if slip < 51 then .free else .hold)
                else .free))

/-- R105 to R111: a channel's anti-lock state machine at a sample set: its run conditions, the
selected wish by its policy, RELEASE, HOLD at the delivered pressure, REAPPLY and FOLLOW, with
their caps, timers and release count. R101, R107: SAMPLE_SET judges the wheel-ends and then
takes every channel through this step, before or after the Rollover Monitor as the command says
(log entry 5). -/
def Obligations.AntiLockStepsAtSampleSet : Prop :=
  (∀ (c : Fin 4) (s : State),
      let x := s.channels[c]
      let counted : List (Fin 8) := (List.finRange 8).filter fun w =>
        s.wheels[w].present && s.wheels[w].valid && s.wheels[w].channel == c
      let runs : Prop :=
        (s.device.state = .active ∨ s.device.state = .waitRelease)
          ∧ (s.device.braking = true ∨ 0 < x.rolloverRequest)
          ∧ 150 ≤ s.device.referenceSpeed ∧ counted ≠ []
      let release : Prop :=
        if x.policy = .selectLow then ∃ w ∈ counted, s.wheels[w].wish = .release
        else ∀ w ∈ counted, s.wheels[w].wish = .release
      let settled : Prop := ∀ w ∈ counted,
        s.wheels[w].slip ≠ none ∧ s.wheels[w].slip.getD 0 < 51
      let u : Nat := max x.target x.rolloverRequest
      let off : Channel := { x with antiLock := .off, cap := none, holdTimer := none, stepTimer := none }
      let follow : Channel := { off with antiLock := .follow }
      let released : Channel :=
        { off with antiLock := .release, cap := some 0, releaseCount := min 255 (x.releaseCount + 1) }
      let hold : Channel :=
        { off with antiLock := .hold, cap := some x.delivered, holdTimer := some 200000 }
      let reapply : Channel :=
        if u ≤ x.cap.getD 0 then follow
        else { off with antiLock := .reapply, cap := x.cap, stepTimer := some 50000 }
      antiLockChannel c s =
        if x.present = true then
          s.setChannel c
            (if runs then
              match x.antiLock with
              | .off => if release then released else follow
              | .follow => if release then released else x
              | .release => if release then { x with cap := some 0 } else hold
              | .hold => if release then released else if settled then reapply else x
              | .reapply => if release then released else if u ≤ x.cap.getD 0 then follow else x
            else off).arbitrate
        else s)
  ∧ (∀ (now : Stamp) (lines : BitVec 8) (first : Bool) (c : Fin 4) (s : State),
      antiLockSample s = forEach 4 antiLockChannel (judgeWheels s)
        ∧ (Running s → s.capture.windowTimer.isSome = true →
            ∃ t, exec (.sampleSet now lines first) s = .next t
              ∧ (let taken : State := windowEnd now lines s
                 let judged : State := judgeWheels (if first then taken else rolloverSample taken)
                 let x := t.channels[c]
                 let y := (antiLockChannel c judged).channels[c]
                 x.antiLock = y.antiLock ∧ x.cap = y.cap ∧ x.holdTimer = y.holdTimer
                  ∧ x.stepTimer = y.stepTimer ∧ x.releaseCount = y.releaseCount
                  ∧ (first = false → x = y))))

/-- R109, R110: the hold timer's expiry enters REAPPLY, each step timer's expiry raises the cap by
20 kPa to at most 1000, and the channel follows once the cap reaches the uncapped request. That
the expiry of a stopped timer has no effect is the model's choice (log entry 6). -/
def Obligations.HoldAndStepTimersExpire : Prop :=
  ∀ (c : Fin 4) (s : State),
    Running s →
      let x := s.channels[c]
      let u : Nat := max x.target x.rolloverRequest
      let follow : Channel :=
        { x with antiLock := .follow, cap := none, holdTimer := none, stepTimer := none }
      (x.holdTimer.isSome = true → x.antiLock = .hold →
          exec (.holdTimerExpiry c) s = .next (s.setChannel c
            (if u ≤ x.cap.getD 0 then follow
            else { x with antiLock := .reapply, holdTimer := none, stepTimer := some 50000 }).arbitrate))
        ∧ (x.stepTimer.isSome = true → x.antiLock = .reapply →
          exec (.stepTimerExpiry c) s = .next (s.setChannel c
            (if u ≤ min 1000 (x.cap.getD 0 + 20) then follow
            else { x with
              cap := some (min 1000 (x.cap.getD 0 + 20)), stepTimer := some 50000 }).arbitrate))
        ∧ (x.holdTimer = none → exec (.holdTimerExpiry c) s = .next s)
        ∧ (x.stepTimer = none → exec (.stepTimerExpiry c) s = .next s)

/-- R116, R117: at a sample set the monitor goes OFF out of control or below 556 cm/s, and DEGRADED
without an estimating axle, with a demand fault or with every channel in FALLBACK; it withdraws
its requests and stops every timer but the spacing timer. -/
def Obligations.RolloverStandsDown : Prop :=
  ∀ (s : State),
    let t := rolloverSample s
    let r := s.rollover
    let v := s.device.referenceSpeed
    let slow : Prop :=
      (s.device.state ≠ .active ∧ s.device.state ≠ .waitRelease)
        ∨ v < 556 ∧ r.state ≠ .intervene ∧ r.state ≠ .recover
    let down : Fin 4 → Prop := fun a =>
      s.axles[a].present = true ∧ (s.axles[a].liftState = .down ∨ s.axles[a].liftState = .notLiftable)
    let degraded : Prop :=
      (∀ a : Fin 4, ¬(down a ∧ s.wheels[wheelOf a .left].valid = true
          ∧ s.wheels[wheelOf a .right].valid = true))
        ∨ s.faults.demand.present = true ∨ s.faults.demand.latched = true
        ∨ (∀ c : Fin 4, s.channels[c].present = true → s.channels[c].state = .fallback)
    let quiet : RolloverState → Prop := fun next =>
      t.rollover = { r with
          state := next, raw := none, axle := none, testTimer := none, minTimer := none
          rampTimer := none, level := 0, degradedSeen := decide degraded
          testResult := if r.state = .test then .noResult else r.testResult
          spacingTimer := if r.state = .test then some 1000000 else r.spacingTimer }
        ∧ (∀ c : Fin 4, s.channels[c].present = true →
          t.channels[c] = ({ s.channels[c] with rolloverRequest := 0 } : Channel).arbitrate)
    (slow → r.state ≠ .off → quiet .off
        ∧ t.link.rolloverPending = (s.link.rolloverPending || r.state == .degraded))
      ∧ (slow → r.state = .off → t = { s with rollover := { r with degradedSeen := decide degraded } })
      ∧ (¬slow → degraded →
          r.state = .off ∨ r.state = .monitor ∨ r.state = .alert ∨ r.state = .test →
          quiet .degraded ∧ t.link.rolloverPending = true)
      ∧ (¬slow → degraded → r.state = .degraded →
          t = { s with rollover := { r with degradedSeen := true } })
      ∧ (¬slow → ¬degraded → r.state = .degraded → t.link.rolloverPending = true)

/-- R118 to R122: the estimating axle is the lowest that is down with both wheel-ends valid; the raw
lateral acceleration, its filter, the threshold with the outer-tyre cut and the alert level
follow. -/
def Obligations.RolloverEstimatesLateralAcceleration : Prop :=
  ∀ (s : State),
    (s.device.state = .active ∨ s.device.state = .waitRelease) → 556 ≤ s.device.referenceSpeed →
      degradedCondition s = false →
      let t := rolloverSample s
      let r := s.rollover
      let down : Fin 4 → Bool := fun a => s.axles[a].present
        && (s.axles[a].liftState == .down || s.axles[a].liftState == .notLiftable)
      let before : Int := if r.state = .off ∨ r.state = .degraded then 0 else r.filtered
      let filtered := t.rollover.filtered
      let base : Nat := ((r.aEmpty : Int)
        - (((r.aEmpty : Int) - r.aLaden) * s.device.fTot + 512).tdiv 1024).toNat
      let soft : Prop := ∃ p : Fin 16, s.tyres[p].present = true ∧ down (axleOfTyre p) = true
        ∧ (0 < filtered ∧ sideOfTyre p = .left ∨ filtered < 0 ∧ sideOfTyre p = .right)
        ∧ (s.tyres[p].level = .lowAlarm ∨ s.tyres[p].level = .flat)
      (∃ a : Fin 4, t.rollover.axle = some a ∧ down a = true ∧ s.wheels[wheelOf a .left].valid = true
          ∧ s.wheels[wheelOf a .right].valid = true
          ∧ (∀ b : Fin 4, b < a → ¬(down b = true ∧ s.wheels[wheelOf b .left].valid = true
            ∧ s.wheels[wheelOf b .right].valid = true))
          ∧ (let raw : Int := max (-2000) (min 2000
              (((s.device.referenceSpeed : Int)
                * ((s.wheels[wheelOf a .left].speed : Int) - s.wheels[wheelOf a .right].speed)).tdiv
                (s.axles[a].trackWidth : Int)))
             t.rollover.raw = some raw ∧ filtered = before + (raw - before).tdiv 4))
        ∧ t.rollover.threshold = (if soft then base - base / 8 else base)
        ∧ t.rollover.alertLevel = t.rollover.threshold * 3 / 4
        ∧ t.rollover.degradedSeen = false

/-- R123 to R126, R128 and R64: what the monitor does at a sample set in MONITOR, ALERT and TEST:
the states by the threshold and the alert level, the test's requests and counters, lift at an
inner wheel-end, the intervention, and the forced lowering. The inner side at a filtered value
of 0 is left as it was (log entry 21). -/
def Obligations.RolloverWatchesAndTests : Prop :=
  ∀ (s : State),
    (s.device.state = .active ∨ s.device.state = .waitRelease) → 556 ≤ s.device.referenceSpeed →
      degradedCondition s = false → s.rollover.state ≠ .intervene → s.rollover.state ≠ .recover →
      let t := rolloverSample s
      let r := s.rollover
      let x := t.rollover
      let m : Nat := x.filtered.natAbs
      let inner : Option Side :=
        if 0 < x.filtered then some .right else if x.filtered < 0 then some .left else r.inner
      let lift : Prop := ∃ w : Fin 8, r.inner = some (sideOfWheel w)
        ∧ axleDown s (axleOfWheel w) = true ∧ s.wheels[w].valid = true
        ∧ (r.slipLift ≤ (if s.device.referenceSpeed ≤ s.wheels[w].speed then 0
            else (s.device.referenceSpeed - s.wheels[w].speed) * 1024 / s.device.referenceSpeed)
          ∨ s.wheels[w].wish = .release)
      let next : RolloverState :=
        if x.threshold ≤ m then .intervene
        else if r.state = .test then (if lift then .intervene else .test)
        else if m < x.alertLevel then .monitor
        else if r.spacingTimer = none then .test
        else .alert
      x.state = next
        ∧ (next = .test → r.state ≠ .test →
          x.inner = inner ∧ x.level = r.pTest ∧ x.testResult = .noResult
            ∧ x.tests = min 255 (r.tests + 1) ∧ x.testTimer = some 400000
            ∧ ∀ c : Fin 4, s.channels[c].present = true → t.channels[c].rolloverRequest =
              (if inner = some .left ∧ s.channels[c].side = .left
                  ∨ inner = some .right ∧ s.channels[c].side = .right then r.pTest else 0))
        ∧ (next = .intervene →
          x.inner = (if r.state = .test then r.inner else inner) ∧ x.level = r.pRoll
            ∧ x.interventions = min 255 (r.interventions + 1) ∧ x.minTimer = some 500000
            ∧ x.calm = 0 ∧ x.rampTimer = none ∧ t.link.rolloverPending = true
            ∧ (r.state = .test → x.testTimer = none ∧ x.spacingTimer = some 1000000
              ∧ x.testResult = if x.threshold ≤ m then .noResult else .lift)
            ∧ ∀ c : Fin 4, s.channels[c].present = true → t.channels[c].rolloverRequest = r.pRoll)
        ∧ (next = .monitor ∨ next = .alert → ∀ c : Fin 4,
          t.channels[c].rolloverRequest = s.channels[c].rolloverRequest)
        ∧ (if (r.state = .off ∨ r.state = .monitor ∨ r.state = .degraded) ∧ next ≠ .monitor then
            ForcedLowering s t
          else t.axles = s.axles ∧ t.lift = s.lift ∧ t.outputs = s.outputs)

/-- R129, R130: an intervention ends at once below 556 cm/s, and after its minimum time when a
DEGRADED condition holds or 60 calm sample sets have passed; a recovery intervenes again at the
threshold. -/
def Obligations.RolloverIntervenesAndRecovers : Prop :=
  ∀ (s : State),
    (s.device.state = .active ∨ s.device.state = .waitRelease) →
      s.rollover.state = .intervene ∨ s.rollover.state = .recover →
      let t := rolloverSample s
      let r := s.rollover
      let x := t.rollover
      let m : Nat := x.filtered.natAbs
      let slow : Prop := s.device.referenceSpeed < 556
      let degraded : Prop := degradedCondition s = true
      let calm : Nat :=
        if x.raw = none then r.calm
        else if m < x.threshold / 2 then min 60 (r.calm + 1) else 0
      (r.state = .intervene →
          let leave : Prop := slow ∨ degraded ∧ r.minTimer = none ∨ 60 ≤ calm ∧ r.minTimer = none
          x.calm = calm ∧ x.state = (if leave then .recover else .intervene)
            ∧ x.rampTimer = (if leave then some 50000 else r.rampTimer)
            ∧ x.level = r.level ∧ t.channels = s.channels)
        ∧ (r.state = .recover →
          let again : Prop := x.raw ≠ none ∧ x.threshold ≤ m ∧ ¬slow ∧ ¬degraded
          x.state = (if again then .intervene else .recover)
            ∧ (again → x.level = r.pRoll ∧ x.interventions = min 255 (r.interventions + 1)
              ∧ x.minTimer = some 500000 ∧ x.calm = 0 ∧ x.rampTimer = none
              ∧ t.link.rolloverPending = true
              ∧ ∀ c : Fin 4, s.channels[c].present = true →
                t.channels[c].rolloverRequest = r.pRoll)
            ∧ (¬again → x.level = r.level ∧ x.rampTimer = r.rampTimer ∧ t.channels = s.channels))

/-- R124, R127, R129 and R130: the test timer ends a test without lift, the spacing and minimum
timers are marked expired, and each ramp step lowers every channel's request by 50 until the
recovery ends. -/
def Obligations.RolloverTimersExpire : Prop :=
  ∀ (s : State),
    Running s →
      let r := s.rollover
      let all : Nat → State → Prop := fun v t =>
        ∀ c : Fin 4, t.channels[c] =
          if s.channels[c].present then
            ({ s.channels[c] with rolloverRequest := v } : Channel).arbitrate else s.channels[c]
      (r.testTimer.isSome = true → r.state = .test → ∃ t, exec .testTimerExpiry s = .next t
          ∧ t.rollover = { r with
            state := if r.alertLevel ≤ r.filtered.natAbs then .alert else .monitor
            testResult := .noLift, testTimer := none, spacingTimer := some 1000000, level := 0 }
          ∧ all 0 t ∧ t = { s with rollover := t.rollover, channels := t.channels })
        ∧ exec .testSpacingExpiry s = .next { s with rollover := { r with spacingTimer := none } }
        ∧ exec .interventionMinExpiry s = .next { s with rollover := { r with minTimer := none } }
        ∧ (r.rampTimer.isSome = true → r.state = .recover → ∃ t, exec .rampStepExpiry s = .next t
          ∧ all (r.level - 50) t ∧ t.rollover.level = r.level - 50
          ∧ (50 < r.level → t.rollover = { r with level := r.level - 50, rampTimer := some 50000 }
            ∧ t.link = s.link)
          ∧ (r.level ≤ 50 → t.rollover.rampTimer = none
            ∧ t.rollover.state =
              (if (s.device.state ≠ .active ∧ s.device.state ≠ .waitRelease)
                  ∨ s.device.referenceSpeed < 556 then .off
              else if r.degradedSeen then .degraded
              else .monitor)
            ∧ t.link.rolloverPending =
              (s.link.rolloverPending || t.rollover.state == .degraded))
          ∧ t = { s with rollover := t.rollover, channels := t.channels, link := t.link })

/-- R62, R65, R66, R89 and R99: the raise timer's expiry lowers the axle with a LIFT fault, the
lowering timer's makes it DOWN with a LIFT fault unless its bellows sensor is faulty, the supply
timer's reports SUPPLY_WAIT, and the exercise timer's ends the exercise in HOLD. -/
def Obligations.LiftAndChannelTimersExpire : Prop :=
  ∀ (a c : Fin 4) (s : State),
    Running s →
      let mask : Word := s.device.faultMask
      let frame : State → Prop := fun t =>
        t.device = s.device ∧ t.analog = s.analog ∧ t.wheels = s.wheels ∧ t.tyres = s.tyres
          ∧ t.rollover = s.rollover ∧ t.receiver = s.receiver ∧ t.supervisor = s.supervisor
          ∧ (∀ d : Fin 4, d ≠ c → t.channels[d] = s.channels[d])
      (s.lift.raiseTimer.isSome = true → liftAxle s = some a → s.axles[a].liftState = .raising →
          ∃ t, exec .raiseTimerExpiry s = .next t
            ∧ t.axles = s.axles.set a { s.axles[a] with liftState := .lowering, changeMark := true }
            ∧ t.lift = ⟨none, some 6000000, s.lift.lightCount⟩
            ∧ t.outputs[liftOutput].requested = false ∧ t.outputs[liftOutput].energised = false
            ∧ t.faults.lift.present = !mask.getLsbD 8
            ∧ (mask.getLsbD 8 = false → s.faults.lift.present = false →
              t.faults.lift.latched = true)
            ∧ (∀ o : Fin 13, o ≠ liftOutput → t.outputs[o] = s.outputs[o])
            ∧ t.channels = s.channels ∧ frame t)
        ∧ (s.lift.loweringTimer.isSome = true → liftAxle s = some a →
          s.axles[a].liftState = .lowering →
          ∃ t, exec .loweringTimerExpiry s = .next t
            ∧ t.axles = s.axles.set a { s.axles[a] with liftState := .down, changeMark := true }
            ∧ t.lift = { s.lift with loweringTimer := none }
            ∧ t.faults.lift.present =
              (if s.faults.bellows[a].present = true ∨ s.faults.bellows[a].latched = true then
                s.faults.lift.present
              else !mask.getLsbD 8)
            ∧ t.outputs = s.outputs ∧ t.channels = s.channels ∧ frame t)
        ∧ (s.channels[c].supplyTimer.isSome = true → s.channels[c].state = .supplyWait →
          ∃ t, exec (.supplyTimerExpiry c) s = .next t
            ∧ t.channels[c] = { s.channels[c] with supplyTimer := none }
            ∧ (t.faults.get (.supplyWait c)).present = !mask.getLsbD 7
            ∧ (mask.getLsbD 7 = false → s.faults.supplyWait[c].present = false →
              (t.faults.get (.supplyWait c)).latched = true)
            ∧ t.axles = s.axles ∧ t.lift = s.lift ∧ t.outputs = s.outputs ∧ frame t)
        ∧ (s.channels[c].exerciseTimer.isSome = true → s.channels[c].state = .exercise →
          ∃ t, exec (.exerciseTimerExpiry c) s = .next t
            ∧ t.channels[c].state = .electronic ∧ t.channels[c].action = .hold
            ∧ t.channels[c].lastEnd = .expired ∧ t.channels[c].exerciseTimer = none
            ∧ t.channels[c].exerciseAction = none
            ∧ t.outputs[inletOf c].requested = false ∧ t.outputs[inletOf c].energised = false
            ∧ t.outputs[exhaustOf c].requested = false ∧ t.outputs[exhaustOf c].energised = false
            ∧ t.outputs[backupOf c].requested = true
            ∧ t.axles = s.axles ∧ t.lift = s.lift ∧ frame t)

/-- R135, R138 and R140: the line's changes, the start bit, the jam and mark timers with the jam
condition, and the gap that discards a partial telegram. That a line marking until its fall arms
the receiver is the model's reading (log entry 16). -/
def Obligations.ReceiveLineEvents : Prop :=
  ∀ (s : State),
    Running s →
      let r := s.receiver
      let bits : Nat := if s.device.parity = .noParity then 10 else 11
      let charTime : Nat := bits * (4 * s.device.divisor)
      let waits : Bool := r.character.isNone && (r.armed || !r.spacing)
      exec .lineToSpacing s = .next { s with receiver := { r with
            spacing := true, armed := waits, startPending := waits, markTimer := none
            jamTimer := some (32 * charTime) } }
        ∧ exec .lineToMarking s = .next { s with receiver := { r with
            spacing := false, armed := r.character.isNone, startPending := false, jamTimer := none
            markTimer := if r.jam then some charTime else none } }
        ∧ (r.startPending = true → r.spacing = true →
          exec .startBitTaken s = .next { s with receiver := { r with
            armed := false, startPending := false, character := some s.device.parity
            gapTimer := none } })
        ∧ (r.jamTimer.isSome = true → ∃ t, exec .jamTimerExpiry s = .next t
          ∧ t.receiver = { r with jam := true, jamTimer := none }
          ∧ t.faults = { s.faults with jam := ⟨!s.device.faultMask.getLsbD 10, s.faults.jam.latched⟩ }
          ∧ t = { s with receiver := t.receiver, faults := t.faults })
        ∧ (r.markTimer.isSome = true → ∃ t, exec .markTimerExpiry s = .next t
          ∧ t.receiver = { r with jam := false, markTimer := none }
          ∧ t.faults = { s.faults with jam := ⟨false, s.faults.jam.latched⟩ }
          ∧ t = { s with receiver := t.receiver, faults := t.faults })
        ∧ (r.gapTimer.isSome = true → ∃ t, exec .gapTimerExpiry s = .next t
          ∧ t.receiver = { r with collected := [], gapTimer := none }
          ∧ t.device = { s.device with gapDiscards := min 65535 (s.device.gapDiscards + 1) }
          ∧ t = { s with receiver := t.receiver, device := t.device })

/-- R136, R139: a character is a break, a framing error, a parity error or a good byte by the first
row that holds, and the assembler hunts for 5CH, collects the bytes that follow and drops them
at a byte error. The clock is the command's operand (log entry 7). R139, R141: the ninth byte
completes a telegram, which fails its check byte, lies out of range or is valid and handed to
the Tyre Supervisor, each counted. -/
def Obligations.CharactersAndTelegramsAreJudged : Prop :=
  (∀ (data : Byte) (parityBit stop : Bool) (ms : Nat) (format : Parity) (s : State),
      Running s → s.receiver.character = some format →
        ∃ t, exec (.characterComplete data parityBit stop ms) s = .next t
          ∧ (let ones : Nat := (List.range 8).countP (fun i => data.getLsbD i) + parityBit.toNat
             let isBreak : Prop :=
              data = 0 ∧ (format = .noParity ∨ parityBit = false) ∧ stop = false
             let framing : Prop := ¬isBreak ∧ stop = false
             let wrong : Prop := stop = true
              ∧ (format = .odd ∧ ones % 2 = 0 ∨ format = .even ∧ ones % 2 = 1)
             let good : Prop := stop = true ∧ ¬wrong
             let old := s.receiver.collected
             let bits : Nat := if s.device.parity = .noParity then 10 else 11
             t.device.breakErrors =
                (if isBreak then min 65535 (s.device.breakErrors + 1) else s.device.breakErrors)
              ∧ t.device.framingErrors =
                (if framing then min 65535 (s.device.framingErrors + 1) else s.device.framingErrors)
              ∧ t.device.parityErrors =
                (if wrong then min 65535 (s.device.parityErrors + 1) else s.device.parityErrors)
              ∧ t.receiver.character = none ∧ t.receiver.armed = stop
              ∧ t.supervisor.clock = max s.supervisor.clock ms
              ∧ t.receiver.collected =
                (if ¬good ∨ old = [] ∧ data ≠ 0x5C ∨ 8 ≤ old.length then [] else old ++ [data])
              ∧ t.receiver.gapTimer =
                (if good ∧ (old = [] ∧ data = 0x5C ∨ old ≠ [] ∧ old.length < 8) then
                  some (3 * (bits * (4 * s.device.divisor)))
                else if good ∧ old = [] then s.receiver.gapTimer else none)
              ∧ (¬good ∨ old.length < 8 → t = { s with
                  device := { s.device with
                    breakErrors := t.device.breakErrors, framingErrors := t.device.framingErrors
                    parityErrors := t.device.parityErrors }
                  receiver := t.receiver
                  supervisor := { s.supervisor with clock := t.supervisor.clock } })))
  ∧ (∀ (b0 b1 b2 b3 b4 b5 b6 b7 data : Byte) (ms : Nat) (s : State),
      Running s → s.receiver.character = some .noParity →
        s.receiver.collected = [b0, b1, b2, b3, b4, b5, b6, b7] →
        let sum : Nat := b0.toNat + b1.toNat + b2.toNat + b3.toNat + b4.toNat + b5.toNat + b6.toNat
          + b7.toNat + data.toNat
        let pressure : Nat := b4.toNat * 256 + b5.toNat
        let id : SensorId := b1 ++ b2 ++ b3
        let u : State := { s with
          supervisor := { s.supervisor with clock := max s.supervisor.clock ms }
          receiver := { s.receiver with
            character := none, armed := true, collected := [], gapTimer := none } }
        exec (.characterComplete data false true ms) s = .next
          (if sum % 256 ≠ 0 then
            { u with device := { s.device with
              checkDiscards := min 65535 (s.device.checkDiscards + 1) } }
          else if 1600 < pressure ∨ 200 < b6.toNat ∨ id = 0 ∨ id = 0xFFFFFF then
            { u with device := { s.device with
              rangeDiscards := min 65535 (s.device.rangeDiscards + 1) } }
          else
            takeArrival
              ⟨id, pressure, b6.toNat,
                ⟨b7.getLsbD 0, b7.getLsbD 1, b7.getLsbD 2, b7.getLsbD 3⟩, u.supervisor.clock⟩
              { u with device := { s.device with
                telegramsAccepted := min 65535 (s.device.telegramsAccepted + 1) } }))

/-- R142, R153, R156 and R157: an arrival goes to the paired position that holds its ID, else to the
learning position it qualifies for, which is then paired, else to the candidate list; the record
takes its values, levels and flags in one operation. That an arrival sets the bearing flag also
before the first aging expiry after a restart is the model's choice (log entry 34). R157: a
level rises as soon as its threshold is passed and falls only with 10 kPa of hysteresis, and
RAPID comes at a loss of 30 kPa a minute against a history of at most 120 s and goes below 10. -/
def Obligations.ArrivalsUpdateTyreRecords : Prop :=
  (∀ (a : Arrival) (p : Fin 16) (s : State),
      let x := s.tyres[p]
      let y := (takeArrival a s).tyres[p]
      let holds : Fin 16 → Prop := fun q => s.tyres[q].present = true
        ∧ (s.tyres[q].state = .live ∨ s.tyres[q].state = .missing) ∧ s.tyres[q].id = some a.id
      let learns : Fin 16 → Prop := fun q => s.tyres[q].present = true ∧ s.tyres[q].state = .learning
      let qualifies : Prop := a.flags.learnTrigger = true
        ∨ ∃ k ∈ s.supervisor.candidates, k.id = a.id ∧ a.pAbs - 101 + 40 ≤ k.lastGauge
      let paired : Prop := holds p ∧ ∀ q < p, ¬holds q
      let learned : Prop := (∀ q : Fin 16, ¬holds q) ∧ learns p ∧ (∀ q < p, ¬learns q) ∧ qualifies
      let down : Bool := s.axles[axleOfTyre p].present
        && (s.axles[axleOfTyre p].liftState == .down
          || s.axles[axleOfTyre p].liftState == .notLiftable)
      let p20 : Nat := (a.pAbs * 293 + (a.temperature + 223) / 2) / (a.temperature + 223) - 101
      let celsius : Int := (a.temperature : Int) - 50
      (paired ∨ learned →
          y.state = .live ∧ y.id = some a.id ∧ y.lastGauge = some (a.pAbs - 101)
            ∧ y.lastTemperature = some celsius ∧ y.p20 = some p20
            ∧ y.batteryLow = a.flags.batteryLow ∧ y.rateHistory = some ⟨p20, a.time⟩ ∧ y.age = 0
            ∧ y.bearing = down ∧ y.nominal = x.nominal
            ∧ (let before : Tyre := if paired then x else freshTyre true
               y.level = levelAfter before.level x.nominal p20
                ∧ y.high = (if x.nominal * 5 / 4 < p20 then true
                  else if p20 + 10 ≤ x.nominal * 5 / 4 then false else before.high)
                ∧ y.hot = (if 115 ≤ celsius then true else if celsius ≤ 105 then false
                  else before.hot)
                ∧ y.rapid = rapidAfter before.rapid before.rateHistory p20 a.time))
        ∧ (paired → y.learnResult = x.learnResult ∧ y.learnOutstanding = x.learnOutstanding
            ∧ (takeArrival a s).supervisor = s.supervisor)
        ∧ (learned → y.learnResult = .success ∧ y.learnTimer = none ∧ y.learnOutstanding = true
            ∧ y.changeMark = true
            ∧ (takeArrival a s).supervisor = { s.supervisor with
              candidates := s.supervisor.candidates.filter fun k => k.id != a.id })
        ∧ (¬paired → ¬learned → y = x)
        ∧ takeArrival a s = { s with
            tyres := (takeArrival a s).tyres, supervisor := (takeArrival a s).supervisor
            link := (takeArrival a s).link })
  ∧ (∀ (before : AlarmLevel) (rapid : Bool) (nominal p20 old time since : Nat),
      let flat : Nat := max 100 (nominal / 2)
      let low : Nat := nominal * 4 / 5
      let warn : Nat := nominal * 9 / 10
      let at' : Nat → AlarmLevel := fun margin =>
        if p20 < flat + margin then .flat
        else if p20 < low + margin then .lowAlarm
        else if p20 < warn + margin then .lowWarn
        else .noAlarm
      let worse : AlarmLevel → AlarmLevel → Prop := fun x y => y.severity < x.severity
      levelAfter before nominal p20 =
          (if worse (at' 0) before then at' 0
          else if worse before (at' 10) then at' 10
          else before)
        ∧ rapidAfter rapid none p20 time = rapid
        ∧ (120000 < time - since → rapidAfter rapid (some ⟨old, since⟩) p20 time = rapid)
        ∧ (time - since ≤ 120000 →
            let rate : Int := (((old : Int) - p20) * 60000).tdiv (max 1 (time - since) : Nat)
            rapidAfter rapid (some ⟨old, since⟩) p20 time =
              (if 30 ≤ rate then true else if rate < 10 then false else rapid)))

/-- R142 to R144: an arrival for no paired position, with no position LEARNING or without qualifying
for it, updates its candidate entry, or is added as the newest entry, the oldest of a full list
being dropped, with the CANDIDATE attention event. -/
def Obligations.CandidateListTakesArrivals : Prop :=
  ∀ (a : Arrival) (s : State),
    (∀ p : Fin 16, s.tyres[p].present = true →
        s.tyres[p].state = .live ∨ s.tyres[p].state = .missing → s.tyres[p].id ≠ some a.id) →
      ((∀ p : Fin 16, s.tyres[p].present = true → s.tyres[p].state ≠ .learning)
        ∨ (a.flags.learnTrigger = false
          ∧ ∀ k ∈ s.supervisor.candidates, k.id = a.id → k.lastGauge < a.pAbs - 101 + 40)) →
      let l := s.supervisor.candidates
      (l.any (fun k => k.id == a.id) = true →
          takeArrival a s = { s with supervisor := { s.supervisor with
            candidates := l.map fun k =>
              if k.id = a.id then
                { k with
                  heard := min 255 (k.heard + 1)
                  previousGauge := some k.lastGauge
                  lastGauge := a.pAbs - 101
                  flags := a.flags
                  age := 0 }
              else k } })
        ∧ (l.any (fun k => k.id == a.id) = false →
          takeArrival a s = { s with
            supervisor := { s.supervisor with
              candidates := (if l.length < 8 then l else l.drop 1)
                ++ [⟨a.id, 1, a.pAbs - 101, none, a.flags, 0⟩] }
            link := { s.link with candidatePending := true } })

/-- R145, R153, R158 and R160: at an aging expiry every candidate and paired position ages, entries
of 300 s go and a LIVE position at the missing timeout becomes MISSING; the learn timer's expiry
ends the learning with TIMEOUT. -/
def Obligations.AgingAndLearnTimeout : Prop :=
  ∀ (p : Fin 16) (s : State),
    Running s →
      (s.supervisor.agingTimer.isSome = true → ∃ t, exec .agingExpiry s = .next t
          ∧ t.supervisor.candidates =
            (s.supervisor.candidates.filter fun k => decide (k.age < 299)).map
              (fun k => { k with age := k.age + 1 })
          ∧ (let x := s.tyres[p]
             let y := t.tyres[p]
             let paired : Prop := x.state = .live ∨ x.state = .missing
             let age : Nat := min 65535 (x.age + 1)
             (x.present = false → y = x)
              ∧ (x.present = true → ¬paired → y.age = x.age ∧ y.state = x.state
                ∧ y.rateHistory = x.rateHistory)
              ∧ (x.present = true → paired → y.age = age
                ∧ y.rateHistory = (if 121 ≤ age then none else x.rateHistory)
                ∧ y.state = (if s.device.missingTimeout ≤ age then .missing else x.state)
                ∧ (y.state ≠ x.state → y.changeMark = true))
              ∧ (x.present = true → y = { x with
                  age := y.age, rateHistory := y.rateHistory, state := y.state
                  changeMark := y.changeMark
                  bearing := s.axles[axleOfTyre p].present
                    && (s.axles[axleOfTyre p].liftState == .down
                      || s.axles[axleOfTyre p].liftState == .notLiftable) }))
          ∧ t = { s with
              tyres := t.tyres
              supervisor := { s.supervisor with candidates := t.supervisor.candidates } })
        ∧ (s.tyres[p].present = true → s.tyres[p].state = .learning →
          s.tyres[p].learnTimer.isSome = true →
          (∀ q < p, ¬(s.tyres[q].present = true ∧ s.tyres[q].state = .learning)) →
          exec .learnTimerExpiry s = .next
            { s with tyres := s.tyres.set p { s.tyres[p] with
                state := .unpaired, learnTimer := none, learnResult := .timeout
                learnOutstanding := true, changeMark := true } })

/-- R164 to R166, section 11.5: the fall of SELECT samples the status word, the result word and the
data words, with zeros from word 10 on, or drives data out high throughout where the link serves
nothing; a transaction without clocks and one not taken leave only SELECT. R15, R16, R169, R170:
the six attention sources in the bit order of SET_ATTENTION, TYRE and LOAD by the change marks
and LEARN by the outstanding marks; ATTENTION is low exactly while one that is enabled is
pending and the link serves. R165, R167: a frame error answers REFUSED_FRAME with the header's
kind and index and latches LINK_FRAME, an unlisted kind answers REFUSED_RANGE, and a NOP answers
DONE. -/
def Obligations.SelectFramesTransactions : Prop :=
  (∀ (n : Nat) (s : State),
      (Running s → s.device.state ≠ .init → ∃ t, exec .selectFall s = .next t
          ∧ t = { s with link := { s.link with
              select := .serving, dataOut := t.link.dataOut, dataRest := 0 } }
          ∧ (10 ≤ n → t.link.outputWord n = 0)
          ∧ (∀ k : Fin 10, t.link.outputWord k = t.link.dataOut[k])
          ∧ (let set : BitVec 6 := attentionPending s &&& s.device.attentionEnable
             let code : Nat := ((List.range 6).find? fun k => set.getLsbD k).elim 0 (· + 1)
             let device : Nat :=
              match s.device.state with
              | .init => 0
              | .standby => 0
              | .active => 1
              | .waitRelease => 2
             let rollover : Nat :=
              match s.rollover.state with
              | .off => 0
              | .monitor => 1
              | .alert => 2
              | .test => 3
              | .intervene => 4
              | .recover => 5
              | .degraded => 6
             let faulted : Bool := allFaults.any fun f =>
              (s.faults.get f).present || (s.faults.get f).latched
             let fallback : Nat := (List.finRange 4).countP fun c =>
              s.channels[c].present && s.channels[c].state == .fallback
             t.link.dataOut[0].toNat =
                32768 * faulted.toNat + 16384 * (set != 0).toNat + 4096 * device + 256 * code
                  + 128 * s.device.restarted.toNat + 64 * s.device.failsafe.toNat + 8 * rollover
                  + fallback
              ∧ t.link.dataOut[1].toNat = 4096 * s.link.response.result.code
                  + 64 * s.link.response.kind.toNat + s.link.response.index.toNat
              ∧ ∀ k : Fin 8, t.link.dataOut[k.val + 2] = s.link.response.data[k]))
        ∧ (¬Running s ∨ s.device.state = .init → ∃ t, exec .selectFall s = .next t
            ∧ t = { s with link := { s.link with
              select := .unserved, dataOut := Vector.replicate 10 0xFFFF, dataRest := 0xFFFF } }
            ∧ t.link.outputWord n = 0xFFFF)
        ∧ (s.link.select = .serving ∨ s.link.select = .unserved →
            exec .emptyTransaction s = .next { s with link := { s.link with select := .high } }
              ∧ exec .initTransaction s = .next { s with link := { s.link with select := .high } }))
  ∧ (∀ (s : State),
      let bit : Nat → Bool := (attentionPending s).getLsbD
      bit 0 = s.link.faultPending ∧ bit 1 = s.link.rolloverPending
        ∧ (bit 2 = true ↔ ∃ p : Fin 16, s.tyres[p].present = true ∧ s.tyres[p].changeMark = true)
        ∧ (bit 3 = true ↔ ∃ p : Fin 16, s.tyres[p].learnOutstanding = true)
        ∧ (bit 4 = true ↔ ∃ a : Fin 4, s.axles[a].present = true ∧ s.axles[a].changeMark = true)
        ∧ bit 5 = s.link.candidatePending
        ∧ (attentionLow s = true ↔ Running s ∧ s.device.state ≠ .init
          ∧ ∃ k : Fin 6, bit k = true ∧ s.device.attentionEnable.getLsbD k = true))
  ∧ (∀ (h : Option Word) (kind : BitVec 6) (index : BitVec 5) (s : State),
      Served s →
        (let hk : BitVec 6 := (h.getD 0).extractLsb' 10 6
         let hi : BitVec 5 := (h.getD 0).extractLsb' 2 5
         let unmasked : Bool := !s.device.faultMask.getLsbD 11
         let old := s.faults.linkFrame
         exec (.frameError h) s = .next
          (Answered hk ⟨.refusedFrame, hi, Vector.replicate 8 0⟩
            { s with
              faults := { s.faults with
                linkFrame := ⟨false, old.latched || (unmasked && !old.present)⟩ }
              link := { s.link with
                faultPending := s.link.faultPending
                  || (unmasked && !old.present && !old.latched) } }))
          ∧ exec (.unknownRequest kind index) s = .next
            (Answered kind ⟨.refusedRange, index, Vector.replicate 8 0⟩ s)
          ∧ exec (.nop index) s = .next (Answered 0 ⟨.done, index, Vector.replicate 8 0⟩ s))

/-- R5, R10, R15, R168 and R169: a LOOKUP answers the eight words of the record's group, sets the
cursor and clears the marks and the source that its response carries; an absent record sets the
cursor too, an unknown table or an index beyond its range changes nothing. That a LOOKUP of
ROLLOVER clears its source in groups 2 and 3 too is read from R133 (log entry 29). R168, R169: a
LOOKUP_NEXT answers the first existing record after the cursor, in ascending order and wrapping
to the cursor's own index, and is refused as absent where none exists. R9, R13, R147, R176 and
the field tables of every chapter: which state each numbered field of a record shows, an absent
optional field as 0x8000 and a field that is not listed as 0, with the codes of every enumerated
field. -/
def Obligations.LookupsAnswerRecords : Prop :=
  (∀ (table : BitVec 3) (index : BitVec 5) (group : BitVec 2) (s : State),
      Served s →
        let words : RecordId → Vector Word 8 := fun r =>
          Vector.ofFn fun k => fieldWord s r (8 * group.toNat + k.val)
        let sizes : List Nat := [1, 4, 8, 16, 4, 8, 1]
        (∀ r : RecordId, r.table.code = table.toNat → r.index = index.toNat →
            (recordExists s r = true → ∃ t, exec (.lookup table index group) s = .next t
              ∧ t.link = { s.link with
                select := .high, response := ⟨.done, 1, index, words r⟩
                cursorTable := r.table, cursorIndex := index.toNat
                faultPending := s.link.faultPending && !(r == .device && group == 0)
                rolloverPending := s.link.rolloverPending && r != .rollover
                candidatePending := s.link.candidatePending && r.table != .candidate }
              ∧ (∀ a : Fin 4, t.axles[a] =
                if r = .axle a then { s.axles[a] with changeMark := false } else s.axles[a])
              ∧ (∀ p : Fin 16, t.tyres[p] =
                if r = .tyre p then
                  { s.tyres[p] with changeMark := false, learnOutstanding := false }
                else s.tyres[p])
              ∧ t = { s with link := t.link, axles := t.axles, tyres := t.tyres })
            ∧ (recordExists s r = false →
              exec (.lookup table index group) s = .next { s with link := { s.link with
                select := .high, response := ⟨.refusedAbsent, 1, index, Vector.replicate 8 0⟩
                cursorTable := r.table, cursorIndex := index.toNat
                candidatePending := s.link.candidatePending && r.table != .candidate } }))
          ∧ (sizes.getD table.toNat 0 ≤ index.toNat →
            exec (.lookup table index group) s = .next
              (Answered 1 ⟨.refusedRange, index, Vector.replicate 8 0⟩ s)))
  ∧ (∀ (index : BitVec 5) (group : BitVec 2) (k : Fin 16) (r : RecordId) (s : State),
      Served s →
        let x := s.link.cursorTable
        let size : Nat := [1, 4, 8, 16, 4, 8, 1].getD x.code 0
        let at' : Nat → Nat := fun k => (s.link.cursorIndex + 1 + k) % size
        let found : Nat → RecordId → Prop := fun k r =>
          r.table = x ∧ r.index = at' k ∧ recordExists s r = true
        (k.val < size → found k r → (∀ j : Fin 16, j < k → ∀ q : RecordId, ¬found j q) →
            ∃ t, exec (.lookupNext index group) s = .next t
              ∧ t.link = { s.link with
                select := .high
                response := ⟨.done, 2, BitVec.ofNat 5 (at' k),
                  Vector.ofFn fun k => fieldWord s r (8 * group.toNat + k.val)⟩
                cursorIndex := at' k
                faultPending := s.link.faultPending && !(r == .device && group == 0)
                rolloverPending := s.link.rolloverPending && r != .rollover
                candidatePending := s.link.candidatePending && r.table != .candidate }
              ∧ (∀ a : Fin 4, t.axles[a] =
                if r = .axle a then { s.axles[a] with changeMark := false } else s.axles[a])
              ∧ (∀ p : Fin 16, t.tyres[p] =
                if r = .tyre p then
                  { s.tyres[p] with changeMark := false, learnOutstanding := false }
                else s.tyres[p])
              ∧ t = { s with link := t.link, axles := t.axles, tyres := t.tyres })
          ∧ ((∀ q : RecordId, q.table = x → recordExists s q = false) →
            exec (.lookupNext index group) s = .next { s with link := { s.link with
              select := .high, response := ⟨.refusedAbsent, 2, index, Vector.replicate 8 0⟩
              candidatePending := s.link.candidatePending && x != .candidate } }))
  ∧ (∀ (a c : Fin 4) (w : Fin 8) (p : Fin 16) (k : Fin 8) (b : Fin 16) (s : State),
      let q : Nat → Word := BitVec.ofNat 16
      let z : Int → Word := BitVec.ofInt 16
      let flag : Bool → Word := fun x => if x then 1 else 0
      let opt : Option Nat → Word := fun x => (x.map q).getD 0x8000
      let high : SensorId → Word := fun x => BitVec.ofNat 16 (x.toNat / 65536)
      let low : SensorId → Word := fun x => BitVec.ofNat 16 x.toNat
      let row : RecordId → Nat → Nat → List Word := fun r i n =>
        (List.range n).map fun j => fieldWord s r (i + j)
      let d := s.device
      let x := s.axles[a]
      let v := s.wheels[w]
      let y := s.tyres[p]
      let m := s.channels[c]
      let r := s.rollover
      row .device 0 2 = [q d.state.code, q d.layout.toNat]
        ∧ (fieldWord s .device 2).getLsbD b =
          allFaults.any (fun f => f.bit == b.val && (s.faults.get f).present)
        ∧ (fieldWord s .device 3).getLsbD b =
          allFaults.any (fun f => f.bit == b.val && (s.faults.get f).latched)
        ∧ (fieldWord s .device 31).getLsbD b = (List.finRange 13).any (fun o => o.val == b.val
          && (s.faults.valveOpen[o].latched || s.faults.valveShort[o].latched))
        ∧ row .device 4 27 = [d.faultMask, flag d.restarted, (attentionPending s).setWidth 16,
          d.attentionEnable.setWidth 16, q d.demand, q d.reservoir, q d.valveSupply, flag d.braking,
          q d.dMin, q d.referenceSpeed, flag d.referenceLost, q d.fTot, q d.supplyOn,
          flag d.stopOnValveFault, q d.changeoverGap, q d.blankingTime, q d.slipRel, q d.divisor,
          q d.parity.code, q d.parityErrors, q d.framingErrors, q d.breakErrors, q d.gapDiscards,
          q d.checkDiscards, q d.rangeDiscards, q d.telegramsAccepted, q d.missingTimeout]
        ∧ row (.axle a) 0 16 = [flag x.present, flag x.twin, flag x.liftable,
          q s.loadUnit.loadState.code, q x.bellowsRaw, q x.bellowsFiltered, q x.load,
          q x.loadFraction, q x.l0, q x.l1, q x.curve.length, q x.trackWidth, flag x.bellowsFault,
          flag x.changeMark, q x.liftState.code, q x.liftMode.code]
        ∧ row (.axle a) 16 12 = [opt (x.curve[0]?.map CurvePoint.bellows),
          opt (x.curve[0]?.map CurvePoint.load), opt (x.curve[1]?.map CurvePoint.bellows),
          opt (x.curve[1]?.map CurvePoint.load), opt (x.curve[2]?.map CurvePoint.bellows),
          opt (x.curve[2]?.map CurvePoint.load), opt (x.curve[3]?.map CurvePoint.bellows),
          opt (x.curve[3]?.map CurvePoint.load), opt (x.curve[4]?.map CurvePoint.bellows),
          opt (x.curve[4]?.map CurvePoint.load), opt (x.curve[5]?.map CurvePoint.bellows),
          opt (x.curve[5]?.map CurvePoint.load)]
        ∧ row (.axle a) 28 4 = [q x.fRaise, q x.fLower, q x.bUp, q x.bDown]
        ∧ row (.wheel w) 0 19 = [flag v.present, q v.channel.val, flag v.enabled, q v.teeth,
          q v.circumference, q v.speed, q v.sensorState.code, flag v.bearing, flag v.suspect,
          flag v.valid, 0, 0, 0, 0, 0, 0, opt v.slip, z v.deceleration, q v.wish.code]
        ∧ row (.tyre p) 0 18 = [flag y.present, q p.val, q y.state.code,
          (y.id.map high).getD 0x8000, (y.id.map low).getD 0x8000, q y.level.severity,
          flag y.bearing, flag y.changeMark, q y.nominal, opt y.lastGauge,
          (y.lastTemperature.map z).getD 0x8000, opt y.p20, flag y.high, flag y.hot, flag y.rapid,
          flag y.batteryLow, q y.age, q y.learnResult.code]
        ∧ row (.channel c) 0 28 = [flag m.present, q m.side.code, q m.groupFirst.val,
          q m.groupLast.val, q m.state.code, q m.reason.code, q m.action.code, q m.winning.code,
          q m.gEmpty, q m.gLaden, q m.pLim, q m.fraction, flag m.groupBearing, q m.gain, q m.target,
          q m.band, q m.commanded, q m.delivered, q m.rolloverRequest,
          opt (m.exerciseAction.map ExerciseAction.code), q m.lastEnd.code,
          flag s.outputs[inletOf c].energised, flag s.outputs[exhaustOf c].energised,
          flag s.outputs[backupOf c].energised, q m.policy.code, q m.antiLock.code, opt m.cap,
          q m.releaseCount]
        ∧ (∀ e : Candidate, s.supervisor.candidates[k.val]? = some e →
          row (.candidate k) 0 10 = [high e.id, low e.id, q e.heard, q e.lastGauge,
            opt e.previousGauge, q e.age, flag e.flags.motion, flag e.flags.batteryLow,
            flag e.flags.learnTrigger, flag e.flags.fastRate])
        ∧ row .rollover 0 16 = [q r.state.code, (r.raw.map z).getD 0x8000, z r.filtered,
          q r.threshold, q r.alertLevel, opt (r.axle.map Fin.val), opt (r.inner.map Side.code),
          q r.testResult.code, q r.pTest, q r.pRoll, q r.aEmpty, q r.aLaden, q r.slipLift,
          q r.interventions, q r.tests, q r.level]
        ∧ row (.candidate k) 10 22 = List.replicate 22 0 ∧ row (.wheel w) 19 13 = List.replicate 13 0
        ∧ row (.tyre p) 18 14 = List.replicate 14 0 ∧ row (.channel c) 28 4 = List.replicate 4 0
        ∧ row .rollover 16 16 = List.replicate 16 0
        ∧ [DeviceState.standby, .active, .waitRelease].map (·.code) = [0, 1, 2]
        ∧ [LoadState.live, .held].map (·.code) = [0, 1]
        ∧ [LiftState.notLiftable, .down, .raising, .up, .lowering].map (·.code) = [0, 1, 2, 3, 4]
        ∧ [LiftMode.auto, .manualUp, .manualDown].map (·.code) = [0, 1, 2]
        ∧ [SensorState.ok, .noSignal, .openLine, .disabled].map (·.code) = [0, 1, 2, 3]
        ∧ [ChannelSide.left, .right, .both].map (·.code) = [0, 1, 2]
        ∧ [Side.left, .right].map (·.code) = [0, 1]
        ∧ [ControllerState.off, .electronic, .supplyWait, .exercise, .fallback].map (·.code) =
          [0, 1, 2, 3, 4]
        ∧ [FallbackReason.noReason, .fault, .failsafe, .supplyVoltage, .demandSensor, .notActive].map
          (·.code) = [0, 1, 2, 3, 4, 5]
        ∧ [ValveAction.apply, .hold, .vent, .allOff].map (·.code) = [0, 1, 2, 3]
        ∧ [WinningSource.noSource, .service, .rollover, .antilock, .exercise].map (·.code) =
          [0, 1, 2, 3, 4]
        ∧ [ExerciseAction.apply, .hold, .vent].map (·.code) = [0, 1, 2]
        ∧ [ExerciseEnd.noEnd, .expired, .braking, .moving, .standby, .fallback].map (·.code) =
          [0, 1, 2, 3, 4, 5]
        ∧ [Wish.free, .release, .hold].map (·.code) = [0, 1, 2]
        ∧ [AntiLockPolicy.selectLow, .selectHigh].map (·.code) = [0, 1]
        ∧ [AntiLockState.off, .follow, .release, .hold, .reapply].map (·.code) = [0, 1, 2, 3, 4]
        ∧ [RolloverState.off, .monitor, .alert, .test, .intervene, .recover, .degraded].map
          (·.code) = [0, 1, 2, 3, 4, 5, 6]
        ∧ [TestResult.noResult, .noLift, .lift].map (·.code) = [0, 1, 2]
        ∧ [Parity.noParity, .odd, .even].map (·.code) = [0, 1, 2]
        ∧ [TyreState.unpaired, .learning, .live, .missing].map (·.code) = [0, 1, 2, 3]
        ∧ [AlarmLevel.noAlarm, .lowWarn, .lowAlarm, .flat].map (·.severity) = [0, 1, 2, 3]
        ∧ [LearnResult.noResult, .success, .timeout, .cancelled].map (·.code) = [0, 1, 2, 3])

/-- R5, R11, R13 and R177, the amendable columns of every field table: an AMEND's checks in their
order, each refusal leaving everything else as it was, and the AMEND that passes them all
answered DONE or DONE_CLAMPED. -/
def Obligations.AmendChecksInOrder : Prop :=
  ∀ (table : BitVec 3) (index : BitVec 5) (field value : Word) (r : RecordId) (s : State),
    Served s →
      let n : Nat := field.toNat
      let v : Nat := value.toNat
      let named : Prop := r.table.code = table.toNat ∧ r.index = index.toNat
      let refuses : Result → Prop := fun e =>
        exec (.amend table index field value) s = .next
          (Answered 3 ⟨e, index, Vector.replicate 8 0⟩ s)
      let point : Fin 4 → Prop := fun a => 16 ≤ n ∧ n < 16 + 2 * s.axles[a].curve.length ∧ n < 28
      let standby : Prop :=
        match r with
        | .device => n = 4 ∨ n = 17 ∨ n = 18 ∨ n = 19
        | .axle a => n = 1 ∨ n = 2 ∨ n = 8 ∨ n = 9 ∨ n = 10 ∨ n = 11 ∨ point a
        | .wheel _ => n = 3 ∨ n = 4
        | .channel _ => n = 8 ∨ n = 9 ∨ n = 10
        | .tyre _ => False
        | .candidate _ => False
        | .rollover => False
      let anyState : Prop :=
        match r with
        | .device => n = 12 ∨ n = 16 ∨ n = 20 ∨ n = 21 ∨ n = 22 ∨ n = 30
        | .axle _ => n = 15 ∨ 28 ≤ n ∧ n ≤ 31
        | .wheel _ => n = 2
        | .tyre _ => n = 8
        | .channel _ => n = 15 ∨ n = 24
        | .candidate _ => False
        | .rollover => 8 ≤ n ∧ n ≤ 12
      let badValue : Prop :=
        match r with
        | .device => n = 4 ∧ value &&& 0xF202 ≠ 0 ∨ n = 17 ∧ 1 < v ∨ n = 22 ∧ 2 < v
        | .axle _ => (n = 1 ∨ n = 2) ∧ 1 < v ∨ n = 10 ∧ (v < 2 ∨ 6 < v) ∨ n = 15 ∧ 2 < v
        | .wheel _ => n = 2 ∧ 1 < v
        | .tyre _ => False
        | .channel _ => n = 24 ∧ 1 < v
        | .candidate _ => False
        | .rollover => False
      let structure' : Prop :=
        match r with
        | .axle a =>
          n = 1 ∧ v = 0 ∧ s.axles[a].twin = true
              ∧ (∃ p : Fin 16, axleOfTyre p = a ∧ p.val % 2 = 1 ∧ s.tyres[p].state ≠ .unpaired)
            ∨ n = 2 ∧ v = 0 ∧ s.axles[a].liftable = true ∧ s.axles[a].liftState ≠ .down
            ∨ n = 2 ∧ v = 1 ∧ s.axles[a].liftable = false
              ∧ (∃ b : Fin 4, b ≠ a ∧ s.axles[b].present = true ∧ s.axles[b].liftable = true)
        | .device => False
        | .wheel _ => False
        | .tyre _ => False
        | .channel _ => False
        | .candidate _ => False
        | .rollover => False
      ((∀ q : RecordId, ¬(q.table.code = table.toNat ∧ q.index = index.toNat)) →
          refuses .refusedRange)
        ∧ (named → recordExists s r = false → refuses .refusedAbsent)
        ∧ (named → recordExists s r = true → ¬standby → ¬anyState → refuses .refusedRange)
        ∧ (named → recordExists s r = true → standby → s.device.state ≠ .standby →
          refuses .refusedState)
        ∧ (named → recordExists s r = true → (standby ∧ s.device.state = .standby ∨ anyState) →
          badValue → refuses .refusedRange)
        ∧ (named → recordExists s r = true → (standby ∧ s.device.state = .standby ∨ anyState) →
          ¬badValue → structure' → refuses .refusedState)
        ∧ (named → recordExists s r = true → (standby ∧ s.device.state = .standby ∨ anyState) →
          ¬badValue → ¬structure' → ∃ t, exec (.amend table index field value) s = .next t
            ∧ t.link.select = .high ∧ t.link.response.kind = 3 ∧ t.link.response.index = index
            ∧ t.link.response.data = Vector.replicate 8 0
            ∧ (t.link.response.result = .done ∨ t.link.response.result = .doneClamped))

/-- R11, R12, R79 and R137: in STANDBY, or in every state for the settings of class any state, a
numeric setting is clamped into its range and stored, DONE_CLAMPED where it was clamped, and no
other field of any record changes but the command and source that P_LIM feeds; a new divisor
drops the character and the partial telegram in progress. R3, R13, R67, R137 and R177: TWIN
brings the INNER positions into or out of existence, LIFTABLE starts the axle in LOWERING or
makes it NOT_LIFTABLE, a new point count repeats the last point or drops the excess, a mask
clears the faults it masks, and the enumerated settings are stored, those of class any state in
every state. -/
def Obligations.AmendStoresSettings : Prop :=
  (∀ (index : BitVec 5) (value : Word) (row : Fin 38) (s : State),
      Served s →
        let rows : List (Nat × Nat × Nat × Nat) :=
          [(0, 12, 10, 60), (0, 16, 300, 700), (0, 18, 1, 30), (0, 19, 1, 20), (0, 20, 102, 410),
            (0, 21, 1, 65535), (0, 30, 60, 3600), (1, 8, 0, 2000), (1, 9, 0, 2000), (1, 11, 150, 260),
            (1, 28, 0, 1024), (1, 29, 0, 1024), (1, 30, 10, 100), (1, 31, 30, 300), (2, 3, 40, 160),
            (2, 4, 2000, 4000), (3, 8, 300, 1000), (4, 8, 100, 1024), (4, 9, 100, 1024),
            (4, 10, 100, 1000), (4, 15, 5, 50), (6, 8, 30, 150), (6, 9, 200, 700), (6, 10, 200, 800),
            (6, 11, 150, 800), (6, 12, 102, 512), (1, 16, 0, 1000), (1, 17, 0, 2000), (1, 18, 0, 1000),
            (1, 19, 0, 2000), (1, 20, 0, 1000), (1, 21, 0, 2000), (1, 22, 0, 1000), (1, 23, 0, 2000),
            (1, 24, 0, 1000), (1, 25, 0, 2000), (1, 26, 0, 1000), (1, 27, 0, 2000)]
        let table := (rows.getD row.val (0, 0, 0, 0)).1
        let field := (rows.getD row.val (0, 0, 0, 0)).2.1
        let lo := (rows.getD row.val (0, 0, 0, 0)).2.2.1
        let hi := (rows.getD row.val (0, 0, 0, 0)).2.2.2
        let v : Nat := max lo (min hi value.toNat)
        let anyState : List (Nat × Nat) :=
          [(0, 12), (0, 16), (0, 20), (0, 21), (0, 30), (1, 28), (1, 29), (1, 30), (1, 31), (3, 8),
            (4, 15), (6, 8), (6, 9), (6, 10), (6, 11), (6, 12)]
        s.device.state = .standby ∨ (table, field) ∈ anyState →
        ∀ r : RecordId, r.table.code = table → r.index = index.toNat → recordExists s r = true →
          (∀ a : Fin 4, r = .axle a → 16 ≤ field → field < 28 →
            (field - 16) / 2 < s.axles[a].curve.length) →
          ∃ t, exec (.amend (BitVec.ofNat 3 table) index (BitVec.ofNat 16 field) value) s = .next t
            ∧ t.link = { s.link with
                select := .high
                response := ⟨if v = value.toNat then .done else .doneClamped, 3, index,
                  Vector.replicate 8 0⟩ }
            ∧ fieldWord t r field = BitVec.ofNat 16 v
            ∧ (∀ q : RecordId, ∀ n < 32, (q ≠ r ∨ n ≠ field) →
                (table = 4 ∧ field = 10 ∧ q = r → n ≠ 7 ∧ n ≠ 16) →
                fieldWord t q n = fieldWord s q n)
            ∧ (∀ c : Fin 4, r = .channel c → field = 10 →
                t.channels[c] = ({ s.channels[c] with pLim := v } : Channel).arbitrate)
            ∧ t.outputs = s.outputs ∧ t.faults = s.faults ∧ t.analog = s.analog
            ∧ t.capture = s.capture ∧ t.loadUnit = s.loadUnit ∧ t.lift = s.lift
            ∧ t.supervisor = s.supervisor
            ∧ t.receiver = (if table = 0 ∧ field = 21 then
                let bits : Nat := if s.device.parity = .noParity then 10 else 11
                { s.receiver with
                  armed := false, startPending := false, character := none, collected := []
                  gapTimer := none
                  jamTimer := s.receiver.jamTimer.map fun _ => 32 * (bits * (4 * v))
                  markTimer := s.receiver.markTimer.map fun _ => bits * (4 * v) }
              else s.receiver))
  ∧ (∀ (value : Word) (a : Fin 4) (s : State),
      Served s →
        let standby : Prop := s.device.state = .standby
        let x := s.axles[a]
        let v : Nat := value.toNat
        let inner : Fin 16 → Prop := fun p => axleOfTyre p = a ∧ p.val % 2 = 1
        let done : Word → State → Prop := fun field t =>
          exec (.amend 1 (BitVec.ofNat 5 a.val) field value) s = .next t
            ∧ t.link.response = ⟨.done, 3, BitVec.ofNat 5 a.val, Vector.replicate 8 0⟩
            ∧ t.link.select = .high
        let amend : Word → State → Prop := fun field t =>
          exec (.amend 0 0 field value) s = .next t
            ∧ t.link.response = ⟨.done, 3, 0, Vector.replicate 8 0⟩ ∧ t.link.select = .high
        (standby → x.present = true → v ≤ 1 → x.twin ≠ (v == 1) →
            (v = 0 → ∀ p : Fin 16, inner p → s.tyres[p].state = .unpaired) →
            ∃ t, exec (.amend 1 (BitVec.ofNat 5 a.val) 1 value) s = .next t ∧ done 1 t
              ∧ t.axles = s.axles.set a { x with twin := v == 1 }
              ∧ (∀ p : Fin 16, ¬inner p → t.tyres[p] = s.tyres[p])
              ∧ (∀ p : Fin 16, inner p → if v = 1 then t.tyres[p] = freshTyre true
                else t.tyres[p] = { s.tyres[p] with
                  present := false, changeMark := false, learnOutstanding := false })
              ∧ t = { s with link := t.link, axles := t.axles, tyres := t.tyres })
          ∧ (standby → x.present = true → value = 1 → x.liftable = false →
            (∀ b : Fin 4, s.axles[b].present = true → s.axles[b].liftable = false) →
            ∃ t, exec (.amend 1 (BitVec.ofNat 5 a.val) 2 value) s = .next t ∧ done 2 t
              ∧ t.axles[a].liftable = true ∧ t.axles[a].liftState = .lowering
              ∧ t.axles[a].liftMode = .auto ∧ t.lift = ⟨none, some 6000000, 0⟩
              ∧ t.outputs[liftOutput].energised = false
              ∧ (∀ b : Fin 4, b ≠ a → t.axles[b] = s.axles[b])
              ∧ (∀ o : Fin 13, o ≠ liftOutput → t.outputs[o] = s.outputs[o])
              ∧ t.device = s.device ∧ t.channels = s.channels ∧ t.wheels = s.wheels
              ∧ t.tyres = s.tyres ∧ t.rollover = s.rollover)
          ∧ (standby → x.present = true → value = 0 → x.liftable = true → x.liftState = .down →
            ∃ t, exec (.amend 1 (BitVec.ofNat 5 a.val) 2 value) s = .next t ∧ done 2 t
              ∧ t.axles[a].liftable = false ∧ t.axles[a].liftState = .notLiftable
              ∧ t.lift = ⟨none, none, 0⟩ ∧ (∀ b : Fin 4, b ≠ a → t.axles[b] = s.axles[b])
              ∧ (∀ o : Fin 13, o ≠ liftOutput → t.outputs[o] = s.outputs[o])
              ∧ t.device = s.device ∧ t.channels = s.channels ∧ t.wheels = s.wheels
              ∧ t.tyres = s.tyres ∧ t.rollover = s.rollover)
          ∧ (standby → x.present = true → 2 ≤ v → v ≤ 6 → x.curve ≠ [] →
            ∃ t, exec (.amend 1 (BitVec.ofNat 5 a.val) 10 value) s = .next t ∧ done 10 t
              ∧ t.axles[a].curve.length = v
              ∧ (∀ k < v, t.axles[a].curve[k]? =
                (if k < x.curve.length then x.curve[k]? else x.curve.getLast?))
              ∧ t = { s with link := t.link, axles := s.axles.set a { x with
                curve := t.axles[a].curve } })
          ∧ (standby → value &&& 0xF202 = 0 → (∀ o : Fin 13, s.outputs[o].energised = false) →
            (∀ c : Fin 4, s.channels[c].present = true → s.channels[c].state = .fallback) →
            ∃ t, exec (.amend 0 0 4 value) s = .next t ∧ amend 4 t
              ∧ t.device = { s.device with faultMask := value }
              ∧ (∀ f ∈ allFaults, f ≠ .jam → t.faults.get f =
                if value.getLsbD f.bit then ⟨false, false⟩ else s.faults.get f)
              ∧ t.faults.jam.present = (s.receiver.jam && !value.getLsbD 10)
              ∧ (∀ c : Fin 4, t.channels[c] =
                if s.channels[c].present then { s.channels[c] with reason := .notActive }
                else s.channels[c])
              ∧ t = { s with
                device := t.device, faults := t.faults, channels := t.channels, link := t.link })
          ∧ (v ≤ 2 →
            ∃ t, exec (.amend 0 0 22 value) s = .next t ∧ amend 22 t
              ∧ t.device = { s.device with
                parity := if v = 0 then .noParity else if v = 1 then .odd else .even }
              ∧ t = { s with link := t.link, device := t.device })
          ∧ (standby → v ≤ 1 →
            ∃ t, exec (.amend 0 0 17 value) s = .next t ∧ amend 17 t
              ∧ t.device = { s.device with stopOnValveFault := v == 1 })
          ∧ (x.present = true → v ≤ 2 →
            ∃ t, exec (.amend 1 (BitVec.ofNat 5 a.val) 15 value) s = .next t ∧ done 15 t
              ∧ t = { s with link := t.link, axles := s.axles.set a { x with
                liftMode := if v = 0 then .auto else if v = 1 then .manualUp else .manualDown } })
          ∧ (∀ w : Fin 8, s.wheels[w].present = true → v ≤ 1 →
            exec (.amend 2 (BitVec.ofNat 5 w.val) 2 value) s = .next
              (Answered 3 ⟨.done, BitVec.ofNat 5 w.val, Vector.replicate 8 0⟩
                (s.setWheel w { s.wheels[w] with enabled := v == 1 })))
          ∧ (∀ c : Fin 4, s.channels[c].present = true → v ≤ 1 →
            exec (.amend 4 (BitVec.ofNat 5 c.val) 24 value) s = .next
              (Answered 3 ⟨.done, BitVec.ofNat 5 c.val, Vector.replicate 8 0⟩
                (s.setChannel c { s.channels[c] with
                  policy := if v = 0 then .selectLow else .selectHigh }))))

/-- R146, R150: the checks of an ENROL in their order, the first failing one giving the result; an
ENROL that passes pairs the position from a clean start and removes the ID's candidate entry.
That it keeps its bearing flag is read from R160 (log entry 30). -/
def Obligations.EnrolChecksInOrder : Prop :=
  ∀ (table : BitVec 3) (index : BitVec 5) (high low : Word) (p : Fin 16) (s : State),
    Served s →
      let id : SensorId := BitVec.ofNat 24 (high.toNat * 65536 + low.toNat)
      let x := s.tyres[p]
      let named : Prop := table = 3 ∧ index.toNat = p.val
      let answers : Result → State → Prop := fun e t =>
        exec (.enrol table index high low) s = .next
          (Answered 4 ⟨e, index, Vector.replicate 8 0⟩ t)
      let badId : Prop := 255 < high.toNat ∨ id = 0 ∨ id = 0xFFFFFF
      let taken : Prop := ∃ q : Fin 16, s.tyres[q].present = true
        ∧ (s.tyres[q].state = .live ∨ s.tyres[q].state = .missing) ∧ s.tyres[q].id = some id
      let paired : Tyre := { x with
        state := .live, id := some id, lastGauge := none, lastTemperature := none, p20 := none
        age := 0, level := .noAlarm, high := false, hot := false, rapid := false
        batteryLow := false, rateHistory := none, learnTimer := none, changeMark := true }
      (table ≠ 3 ∨ 16 ≤ index.toNat → answers .refusedRange s)
        ∧ (named → x.present = false → answers .refusedAbsent s)
        ∧ (named → x.present = true → badId → answers .refusedRange s)
        ∧ (named → x.present = true → ¬badId → x.state = .learning → answers .refusedBusy s)
        ∧ (named → x.present = true → ¬badId → x.state = .live ∨ x.state = .missing →
          answers .refusedState s)
        ∧ (named → x.present = true → ¬badId → x.state = .unpaired → taken →
          answers .refusedDuplicate s)
        ∧ (named → x.present = true → ¬badId → x.state = .unpaired → ¬taken →
          answers .done { s with
            tyres := s.tyres.set p paired
            supervisor := { s.supervisor with
              candidates := s.supervisor.candidates.filter fun k => k.id != id } })

/-- R151, R152: what RETIRE and LEARN do at each state of the position they name, after the checks
for the table, the index and existence. That a retired position keeps its bearing flag is read
from R160 (log entry 30). -/
def Obligations.RetireAndLearn : Prop :=
  ∀ (table : BitVec 3) (index : BitVec 5) (p : Fin 16) (s : State),
    Served s →
      let x := s.tyres[p]
      let named : Prop := table = 3 ∧ index.toNat = p.val
      let answers : Instr → BitVec 6 → Result → State → Prop := fun i kind e t =>
        exec i s = .next (Answered kind ⟨e, index, Vector.replicate 8 0⟩ t)
      let unpaired : Tyre := { x with
        state := .unpaired, id := none, lastGauge := none, lastTemperature := none, p20 := none
        age := 0, level := .noAlarm, high := false, hot := false, rapid := false
        batteryLow := false, rateHistory := none, learnTimer := none, changeMark := true }
      let learning : Prop :=
        ∃ q : Fin 16, s.tyres[q].present = true ∧ s.tyres[q].state = .learning
      (table ≠ 3 ∨ 16 ≤ index.toNat → answers (.retire table index) 5 .refusedRange s
          ∧ answers (.learn table index) 6 .refusedRange s)
        ∧ (named → x.present = false → answers (.retire table index) 5 .refusedAbsent s
          ∧ answers (.learn table index) 6 .refusedAbsent s)
        ∧ (named → x.present = true →
          (x.state = .unpaired → answers (.retire table index) 5 .refusedState s)
          ∧ (x.state = .learning → answers (.retire table index) 5 .done
            { s with tyres := s.tyres.set p { x with
              state := .unpaired, learnTimer := none, learnResult := .cancelled
              learnOutstanding := true, changeMark := true } })
          ∧ (x.state = .live ∨ x.state = .missing → answers (.retire table index) 5 .done
            { s with tyres := s.tyres.set p unpaired })
          ∧ (x.state ≠ .unpaired ∨ learning → answers (.learn table index) 6 .refusedBusy s)
          ∧ (x.state = .unpaired → ¬learning → answers (.learn table index) 6 .done
            { s with tyres := s.tyres.set p { x with
              state := .learning, learnResult := .noResult, learnTimer := some 120000000
              changeMark := true } }))

/-- R154: CANCEL_LEARN ends the learning of the position that is LEARNING as a cancellation and
answers DONE; with none it answers REFUSED_STATE and has no effect. -/
def Obligations.CancelLearnEndsLearning : Prop :=
  ∀ (index : BitVec 5) (p : Fin 16) (s : State),
    Served s →
      (s.tyres[p].present = true → s.tyres[p].state = .learning →
          (∀ q < p, ¬(s.tyres[q].present = true ∧ s.tyres[q].state = .learning)) →
          exec (.cancelLearn index) s = .next
            (Answered 7 ⟨.done, index, Vector.replicate 8 0⟩
              { s with tyres := s.tyres.set p { s.tyres[p] with
                state := .unpaired, learnTimer := none, learnResult := .cancelled
                learnOutstanding := true, changeMark := true } }))
        ∧ ((∀ q : Fin 16, ¬(s.tyres[q].present = true ∧ s.tyres[q].state = .learning)) →
          exec (.cancelLearn index) s = .next
            (Answered 7 ⟨.refusedState, index, Vector.replicate 8 0⟩ s))

/-- R59, R170: LIFT_COMMAND sets the liftable axle's lift mode at once, or is refused; SET_ATTENTION
replaces the enables, and the ATTENTION output follows. That absence is checked before the code
is the order of R59's text (log entry 28). -/
def Obligations.LiftCommandAndSetAttention : Prop :=
  ∀ (index : BitVec 5) (value : Word) (a : Fin 4) (s : State),
    Served s →
      let answers : Instr → BitVec 6 → Result → State → Prop := fun i kind e t =>
        exec i s = .next (Answered kind ⟨e, index, Vector.replicate 8 0⟩ t)
      let lifts : Fin 4 → Prop := fun b =>
        s.axles[b].present = true ∧ s.axles[b].liftable = true
      ((∀ b : Fin 4, ¬lifts b) → answers (.liftCommand index value) 8 .refusedAbsent s)
        ∧ (lifts a → 2 < value.toNat → answers (.liftCommand index value) 8 .refusedRange s)
        ∧ (lifts a → (∀ b < a, ¬lifts b) → value.toNat ≤ 2 →
          answers (.liftCommand index value) 8 .done
            { s with axles := s.axles.set a { s.axles[a] with
              liftMode := if value = 0 then .auto else if value = 1 then .manualUp
                else .manualDown } })
        ∧ (63 < value.toNat → answers (.setAttention index value) 14 .refusedRange s)
        ∧ (value.toNat ≤ 63 → ∃ t, exec (.setAttention index value) s = .next t
          ∧ t.device.attentionEnable.toNat = value.toNat
          ∧ attentionLow t = (attentionPending s &&& value.extractLsb' 0 6 != 0)
          ∧ t = Answered 14 ⟨.done, index, Vector.replicate 8 0⟩
            { s with device := { s.device with attentionEnable := t.device.attentionEnable } })

/-- R97, R98: the checks of an EXERCISE in their order, and the exercise that starts: the channel in
EXERCISE, its timer, its action and its solenoids' requests, the duration clamped to 10 to 2000
ms. -/
def Obligations.ExerciseChecksInOrder : Prop :=
  ∀ (table : BitVec 3) (index : BitVec 5) (argument : Word) (c : Fin 4) (s : State),
    Served s →
      let x := s.channels[c]
      let code : Nat := argument.toNat / 16384
      let ms : Nat := argument.toNat % 16384
      let duration : Nat := max 10 (min 2000 ms)
      let named : Prop := table = 4 ∧ index.toNat = c.val ∧ x.present = true
      let ready : Prop := s.device.state = .active ∧ s.device.referenceSpeed = 0
        ∧ s.device.braking = false ∧ x.commanded = 0 ∧ x.state = .electronic
      let refuses : Result → Prop := fun e =>
        exec (.exercise table index argument) s = .next
          (Answered 9 ⟨e, index, Vector.replicate 8 0⟩ s)
      (table ≠ 4 ∨ 4 ≤ index.toNat → refuses .refusedRange)
        ∧ (table = 4 → index.toNat = c.val → x.present = false → refuses .refusedAbsent)
        ∧ (named → code = 3 → refuses .refusedRange)
        ∧ (named → code < 3 → x.state = .exercise → refuses .refusedBusy)
        ∧ (named → code < 3 → x.state ≠ .exercise → ¬ready → refuses .refusedState)
        ∧ (named → code < 3 → ready → ∃ t, exec (.exercise table index argument) s = .next t
          ∧ t.link = { s.link with
            select := .high
            response := ⟨if duration = ms then .done else .doneClamped, 9, index,
              Vector.replicate 8 0⟩ }
          ∧ t.channels[c].state = .exercise ∧ t.channels[c].winning = .exercise
          ∧ t.channels[c].exerciseTimer = some (duration * 1000)
          ∧ t.channels[c].exerciseAction =
            (if code = 0 then some .apply else if code = 1 then some .hold else some .vent)
          ∧ t.channels[c].action =
            (if code = 0 then .apply else if code = 1 then .hold else .vent)
          ∧ (t.outputs[inletOf c].requested = true ↔ code = 0)
          ∧ (t.outputs[exhaustOf c].requested = true ↔ code = 2)
          ∧ t.outputs[backupOf c].requested = true
          ∧ (∀ d : Fin 4, d ≠ c → t.channels[d] = s.channels[d])
          ∧ t.device = s.device ∧ t.axles = s.axles ∧ t.rollover = s.rollover)

/-- R173 to R175: GO_ACTIVE enters ACTIVE when the configuration is complete, is refused with
REFUSED_CONFIG where it is not; GO_STANDBY ends every exercise, lowers the axle and enters
STANDBY, or WAIT_RELEASE until the release conditions hold. R173: the completeness check takes
the axles in ascending order and then the channels, and REFUSED_CONFIG names the table, the
index and the reason of the first failure. -/
def Obligations.DeviceStateRequests : Prop :=
  (∀ (index : BitVec 5) (s : State),
      Served s →
        let reply : Instr → BitVec 6 → Result → Vector Word 8 → State → Prop := fun i kind e data t =>
          exec i s = .next t ∧ t.link.select = .high ∧ t.link.response = ⟨e, kind, index, data⟩
        let none' : Vector Word 8 := Vector.replicate 8 0
        let ready : Prop :=
          (∀ a : Fin 4, s.axles[a].present = true → axleIncomplete s.axles[a] = none)
            ∧ ∀ c : Fin 4, s.channels[c].present = true → s.channels[c].gEmpty ≤ s.channels[c].gLaden
        let alarmed : Prop := s.rollover.state = .alert ∨ s.rollover.state = .test
          ∨ s.rollover.state = .intervene ∨ s.rollover.state = .recover
        let idle : Prop := (∀ c : Fin 4, s.channels[c].present = true → s.channels[c].commanded = 0)
          ∧ ¬alarmed
        (s.device.state = .active → exec (.goActive index) s = .next
            (Answered 10 ⟨.done, index, none'⟩ s))
          ∧ (s.device.state = .waitRelease ∨ s.device.state = .standby ∧ ready →
            ∃ t, exec (.goActive index) s = .next t ∧ reply (.goActive index) 10 .done none' t
              ∧ t.device = { s.device with state := .active } ∧ t.axles = s.axles
              ∧ t.rollover = s.rollover ∧ t.lift = s.lift
              ∧ (∀ c : Fin 4, s.channels[c].present = true → s.channels[c].state = .fallback →
                t.channels[c].state = .fallback)
              ∧ (∀ o : Fin 13, t.outputs[o].energised = true → s.outputs[o].energised = true))
          ∧ (s.device.state = .standby → ¬ready →
            ∃ t, exec (.goActive index) s = .next t
              ∧ t = { s with link := { s.link with select := .high, response := t.link.response } }
              ∧ t.link.response.result = .refusedConfig ∧ t.link.response.kind = 10
              ∧ t.link.response.index = index)
          ∧ (s.device.state = .standby → exec (.goStandby index) s = .next
            (Answered 11 ⟨.done, index, none'⟩ s))
          ∧ (ArbiterLaw s → s.device.state = .active ∨ s.device.state = .waitRelease →
            ∃ t, exec (.goStandby index) s = .next t ∧ reply (.goStandby index) 11 .done none' t
              ∧ t.device = { s.device with state := if idle then .standby else .waitRelease }
              ∧ (∀ c : Fin 4, s.channels[c].present = true → s.channels[c].state = .exercise →
                t.channels[c].lastEnd = .standby ∧ t.channels[c].exerciseTimer = none
                  ∧ t.channels[c].exerciseAction = none ∧ t.channels[c].state ≠ .exercise)
              ∧ (idle → (∀ o : Fin 13, t.outputs[o].energised = false)
                ∧ ∀ c : Fin 4, s.channels[c].present = true → s.channels[c].state ≠ .off →
                  t.channels[c].state = .fallback ∧ t.channels[c].reason = .notActive)
              ∧ (if s.device.state = .active then ForcedLowering s t
                else t.axles = s.axles ∧ t.lift = s.lift)
              ∧ t.rollover = s.rollover ∧ t.wheels = s.wheels ∧ t.tyres = s.tyres))
  ∧ (∀ (index : BitVec 5) (a c : Fin 4) (s : State),
      Served s → s.device.state = .standby →
        let reasonOf : Axle → Nat := fun x =>
          if x.curve.length < 2 ∨ 6 < x.curve.length then 1
          else if ∃ k < x.curve.length - 1,
              (x.curve.getD (k + 1) ⟨0, 0⟩).bellows ≤ (x.curve.getD k ⟨0, 0⟩).bellows then 2
          else if ∃ k < x.curve.length - 1,
              (x.curve.getD (k + 1) ⟨0, 0⟩).load < (x.curve.getD k ⟨0, 0⟩).load then 3
          else if x.l1 < x.l0 + 50 then 4
          else 0
        let axleBad : Fin 4 → Prop := fun b => s.axles[b].present = true ∧ reasonOf s.axles[b] ≠ 0
        let channelBad : Fin 4 → Prop := fun d =>
          s.channels[d].present = true ∧ s.channels[d].gLaden < s.channels[d].gEmpty
        let answers : Nat → Nat → Nat → Prop := fun table at' reason =>
          exec (.goActive index) s = .next (Answered 10
            ⟨.refusedConfig, index,
              (((Vector.replicate 8 0).set 0 (BitVec.ofNat 16 table)).set 1 (BitVec.ofNat 16 at')).set 2
                (BitVec.ofNat 16 reason)⟩ s)
        (axleBad a → (∀ b < a, ¬axleBad b) → answers 1 a.val (reasonOf s.axles[a]))
          ∧ ((∀ b : Fin 4, ¬axleBad b) → channelBad c → (∀ d < c, ¬channelBad d) →
            answers 4 c.val 5))

/-- R178, R179: ACK_FAULTS clears every latched mark whose condition is absent, RESTARTED and the
FAULT source; a condition that is present keeps its mark. -/
def Obligations.AckFaultsClearsAbsentMarks : Prop :=
  ∀ (index : BitVec 5) (s : State),
    Served s →
      ∃ t, exec (.ackFaults index) s = .next t
        ∧ t.link = { s.link with
          select := .high, response := ⟨.done, 13, index, Vector.replicate 8 0⟩
          faultPending := false }
        ∧ t.device = { s.device with restarted := false }
        ∧ (∀ f ∈ allFaults,
          (t.faults.get f).latched = ((s.faults.get f).latched && (s.faults.get f).present))
        ∧ (∀ f ∈ allFaults, (t.faults.get f).present = true → (s.faults.get f).present = true)
        ∧ (∀ f ∈ allFaults, (∀ o : Fin 13, f ≠ .valveOpen o) → (∀ c : Fin 4, f ≠ .supplyWait c) →
          (t.faults.get f).present = (s.faults.get f).present)
        ∧ t.analog = s.analog ∧ t.axles = s.axles ∧ t.wheels = s.wheels ∧ t.tyres = s.tyres
        ∧ t.rollover = s.rollover ∧ t.receiver = s.receiver ∧ t.supervisor = s.supervisor

/-- R91, R92, R180: from every state that obeys them, every step keeps the laws of the reset and of
the valves: no output is energised out of control, under FAILSAFE or a low supply, and never a
channel's inlet and exhaust together. -/
def Obligations.ResetAndValveLawsKept : Prop :=
  ∀ (s t : State),
    ResetLaw s → ValveLaw s → step s = .next t → ResetLaw t ∧ ValveLaw t

/-- R79, R80 and section 7.3: every step keeps every commanded pressure the arbiter's function of
its latest inputs, and every cap and anti-lock timer in the states that have it. -/
def Obligations.ArbiterAndAntiLockLawsKept : Prop :=
  ∀ (s t : State),
    ArbiterLaw s → AntiLockLaw s → step s = .next t → ArbiterLaw t ∧ AntiLockLaw t

/-- R143, R149, R152: every step keeps IDs with paired positions, none twice, at most one LEARNING
position, and a candidate list of at most eight unpaired IDs. -/
def Obligations.TyreLawKept : Prop :=
  ∀ (s t : State),
    TyreLaw s → step s = .next t → TyreLaw t

/-- R58, R62: every step keeps the lift axle's law: never RAISING while braking, alarmed or not
ACTIVE, and the solenoid requested exactly while RAISING or UP. -/
def Obligations.ResetAndLiftLawsKept : Prop :=
  ∀ (s t : State),
    ResetLaw s → LiftLaw s → step s = .next t → ResetLaw t ∧ LiftLaw t

/-- Section 8.1, R131: every step keeps the ROLLOVER requests as the monitor's state gives them, and
the monitor alarmed only in control. -/
def Obligations.ResetAndRolloverLawsKept : Prop :=
  ∀ (s t : State),
    ResetLaw s → RolloverLaw s → step s = .next t → ResetLaw t ∧ RolloverLaw t

/-- R166, R168, R176, R177: every step keeps present conditions of latched kinds latched and masked
kinds clear, and the transaction and the cursor within their bounds. -/
def Obligations.FaultAndLinkLawsKept : Prop :=
  ∀ (s t : State),
    FaultLaw s → LinkLaw s → step s = .next t → FaultLaw t ∧ LinkLaw t

/-- R11, R12 and the ranges of every field table: every step keeps every setting and every measured
or computed field of the DEVICE, AXLE, WHEEL, TYRE, CHANNEL, CANDIDATE and ROLLOVER records
within its range; the commanded pressure's is the arbiter's law, and a service target is at most
1000 because P_LIM may be amended below it. -/
def Obligations.SettingsAndRangesKept : Prop :=
  ∀ (s t : State),
    SettingsLaw s → RangeLaw s → step s = .next t → SettingsLaw t ∧ RangeLaw t

/-- The state after reset obeys every law, and so does the state that a power-on leaves for each
reading of the LAYOUT straps. That reset shows layout code 0 and the pins at rest is the model's
choice (log entry 3). -/
def Obligations.ResetStateIsLawful : Prop :=
    State.reset.pending = [] ∧ Running State.reset ∧ Lawful State.reset
      ∧ ∀ straps : BitVec 2, ∀ t, exec (.powerOn straps) State.reset = .next t → Lawful t
end

