-- ==== Sys2Proof/Laws/State.lean ====
section
/-! SUPPORT. One simp lemma per field per update of the state, so that no later proof unfolds a record
update. -/

namespace Sys2Proof.Machine

/-! ### setAxle -/

@[simp] theorem State.setAxle_pending (s : State) (a : Fin 4) (x : Axle) :
    (s.setAxle a x).pending = s.pending := rfl

@[simp] theorem State.setAxle_device (s : State) (a : Fin 4) (x : Axle) :
    (s.setAxle a x).device = s.device := rfl

@[simp] theorem State.setAxle_faults (s : State) (a : Fin 4) (x : Axle) :
    (s.setAxle a x).faults = s.faults := rfl

@[simp] theorem State.setAxle_analog (s : State) (a : Fin 4) (x : Axle) :
    (s.setAxle a x).analog = s.analog := rfl

@[simp] theorem State.setAxle_capture (s : State) (a : Fin 4) (x : Axle) :
    (s.setAxle a x).capture = s.capture := rfl

@[simp] theorem State.setAxle_loadUnit (s : State) (a : Fin 4) (x : Axle) :
    (s.setAxle a x).loadUnit = s.loadUnit := rfl

@[simp] theorem State.setAxle_lift (s : State) (a : Fin 4) (x : Axle) :
    (s.setAxle a x).lift = s.lift := rfl

@[simp] theorem State.setAxle_axles (s : State) (a : Fin 4) (x : Axle) :
    (s.setAxle a x).axles = s.axles.set a x := rfl

@[simp] theorem State.setAxle_wheels (s : State) (a : Fin 4) (x : Axle) :
    (s.setAxle a x).wheels = s.wheels := rfl

@[simp] theorem State.setAxle_tyres (s : State) (a : Fin 4) (x : Axle) :
    (s.setAxle a x).tyres = s.tyres := rfl

@[simp] theorem State.setAxle_channels (s : State) (a : Fin 4) (x : Axle) :
    (s.setAxle a x).channels = s.channels := rfl

@[simp] theorem State.setAxle_outputs (s : State) (a : Fin 4) (x : Axle) :
    (s.setAxle a x).outputs = s.outputs := rfl

@[simp] theorem State.setAxle_rollover (s : State) (a : Fin 4) (x : Axle) :
    (s.setAxle a x).rollover = s.rollover := rfl

@[simp] theorem State.setAxle_receiver (s : State) (a : Fin 4) (x : Axle) :
    (s.setAxle a x).receiver = s.receiver := rfl

@[simp] theorem State.setAxle_supervisor (s : State) (a : Fin 4) (x : Axle) :
    (s.setAxle a x).supervisor = s.supervisor := rfl

@[simp] theorem State.setAxle_link (s : State) (a : Fin 4) (x : Axle) :
    (s.setAxle a x).link = s.link := rfl

theorem State.setAxle_get_self (s : State) (a : Fin 4) (x : Axle) :
    (s.setAxle a x).axles[a] = x := by simp [State.setAxle]

theorem State.setAxle_get_ne (s : State) (a a' : Fin 4) (x : Axle) (h : a' ≠ a) :
    (s.setAxle a x).axles[a'] = s.axles[a'] := by
  have h' : a.val ≠ a'.val := fun e => h (Fin.ext e.symm)
  simp [State.setAxle, h']

/-! ### setWheel -/

@[simp] theorem State.setWheel_pending (s : State) (w : Fin 8) (x : Wheel) :
    (s.setWheel w x).pending = s.pending := rfl

@[simp] theorem State.setWheel_device (s : State) (w : Fin 8) (x : Wheel) :
    (s.setWheel w x).device = s.device := rfl

@[simp] theorem State.setWheel_faults (s : State) (w : Fin 8) (x : Wheel) :
    (s.setWheel w x).faults = s.faults := rfl

@[simp] theorem State.setWheel_analog (s : State) (w : Fin 8) (x : Wheel) :
    (s.setWheel w x).analog = s.analog := rfl

@[simp] theorem State.setWheel_capture (s : State) (w : Fin 8) (x : Wheel) :
    (s.setWheel w x).capture = s.capture := rfl

@[simp] theorem State.setWheel_loadUnit (s : State) (w : Fin 8) (x : Wheel) :
    (s.setWheel w x).loadUnit = s.loadUnit := rfl

@[simp] theorem State.setWheel_lift (s : State) (w : Fin 8) (x : Wheel) :
    (s.setWheel w x).lift = s.lift := rfl

@[simp] theorem State.setWheel_axles (s : State) (w : Fin 8) (x : Wheel) :
    (s.setWheel w x).axles = s.axles := rfl

@[simp] theorem State.setWheel_wheels (s : State) (w : Fin 8) (x : Wheel) :
    (s.setWheel w x).wheels = s.wheels.set w x := rfl

@[simp] theorem State.setWheel_tyres (s : State) (w : Fin 8) (x : Wheel) :
    (s.setWheel w x).tyres = s.tyres := rfl

@[simp] theorem State.setWheel_channels (s : State) (w : Fin 8) (x : Wheel) :
    (s.setWheel w x).channels = s.channels := rfl

@[simp] theorem State.setWheel_outputs (s : State) (w : Fin 8) (x : Wheel) :
    (s.setWheel w x).outputs = s.outputs := rfl

@[simp] theorem State.setWheel_rollover (s : State) (w : Fin 8) (x : Wheel) :
    (s.setWheel w x).rollover = s.rollover := rfl

@[simp] theorem State.setWheel_receiver (s : State) (w : Fin 8) (x : Wheel) :
    (s.setWheel w x).receiver = s.receiver := rfl

@[simp] theorem State.setWheel_supervisor (s : State) (w : Fin 8) (x : Wheel) :
    (s.setWheel w x).supervisor = s.supervisor := rfl

@[simp] theorem State.setWheel_link (s : State) (w : Fin 8) (x : Wheel) :
    (s.setWheel w x).link = s.link := rfl

theorem State.setWheel_get_self (s : State) (w : Fin 8) (x : Wheel) :
    (s.setWheel w x).wheels[w] = x := by simp [State.setWheel]

theorem State.setWheel_get_ne (s : State) (w w' : Fin 8) (x : Wheel) (h : w' ≠ w) :
    (s.setWheel w x).wheels[w'] = s.wheels[w'] := by
  have h' : w.val ≠ w'.val := fun e => h (Fin.ext e.symm)
  simp [State.setWheel, h']

/-! ### setTyre -/

@[simp] theorem State.setTyre_pending (s : State) (p : Fin 16) (x : Tyre) :
    (s.setTyre p x).pending = s.pending := rfl

@[simp] theorem State.setTyre_device (s : State) (p : Fin 16) (x : Tyre) :
    (s.setTyre p x).device = s.device := rfl

@[simp] theorem State.setTyre_faults (s : State) (p : Fin 16) (x : Tyre) :
    (s.setTyre p x).faults = s.faults := rfl

@[simp] theorem State.setTyre_analog (s : State) (p : Fin 16) (x : Tyre) :
    (s.setTyre p x).analog = s.analog := rfl

@[simp] theorem State.setTyre_capture (s : State) (p : Fin 16) (x : Tyre) :
    (s.setTyre p x).capture = s.capture := rfl

@[simp] theorem State.setTyre_loadUnit (s : State) (p : Fin 16) (x : Tyre) :
    (s.setTyre p x).loadUnit = s.loadUnit := rfl

@[simp] theorem State.setTyre_lift (s : State) (p : Fin 16) (x : Tyre) :
    (s.setTyre p x).lift = s.lift := rfl

@[simp] theorem State.setTyre_axles (s : State) (p : Fin 16) (x : Tyre) :
    (s.setTyre p x).axles = s.axles := rfl

@[simp] theorem State.setTyre_wheels (s : State) (p : Fin 16) (x : Tyre) :
    (s.setTyre p x).wheels = s.wheels := rfl

@[simp] theorem State.setTyre_tyres (s : State) (p : Fin 16) (x : Tyre) :
    (s.setTyre p x).tyres = s.tyres.set p x := rfl

@[simp] theorem State.setTyre_channels (s : State) (p : Fin 16) (x : Tyre) :
    (s.setTyre p x).channels = s.channels := rfl

@[simp] theorem State.setTyre_outputs (s : State) (p : Fin 16) (x : Tyre) :
    (s.setTyre p x).outputs = s.outputs := rfl

@[simp] theorem State.setTyre_rollover (s : State) (p : Fin 16) (x : Tyre) :
    (s.setTyre p x).rollover = s.rollover := rfl

@[simp] theorem State.setTyre_receiver (s : State) (p : Fin 16) (x : Tyre) :
    (s.setTyre p x).receiver = s.receiver := rfl

@[simp] theorem State.setTyre_supervisor (s : State) (p : Fin 16) (x : Tyre) :
    (s.setTyre p x).supervisor = s.supervisor := rfl

@[simp] theorem State.setTyre_link (s : State) (p : Fin 16) (x : Tyre) :
    (s.setTyre p x).link = s.link := rfl

theorem State.setTyre_get_self (s : State) (p : Fin 16) (x : Tyre) :
    (s.setTyre p x).tyres[p] = x := by simp [State.setTyre]

theorem State.setTyre_get_ne (s : State) (p p' : Fin 16) (x : Tyre) (h : p' ≠ p) :
    (s.setTyre p x).tyres[p'] = s.tyres[p'] := by
  have h' : p.val ≠ p'.val := fun e => h (Fin.ext e.symm)
  simp [State.setTyre, h']

/-! ### setChannel -/

@[simp] theorem State.setChannel_pending (s : State) (c : Fin 4) (x : Channel) :
    (s.setChannel c x).pending = s.pending := rfl

@[simp] theorem State.setChannel_device (s : State) (c : Fin 4) (x : Channel) :
    (s.setChannel c x).device = s.device := rfl

@[simp] theorem State.setChannel_faults (s : State) (c : Fin 4) (x : Channel) :
    (s.setChannel c x).faults = s.faults := rfl

@[simp] theorem State.setChannel_analog (s : State) (c : Fin 4) (x : Channel) :
    (s.setChannel c x).analog = s.analog := rfl

@[simp] theorem State.setChannel_capture (s : State) (c : Fin 4) (x : Channel) :
    (s.setChannel c x).capture = s.capture := rfl

@[simp] theorem State.setChannel_loadUnit (s : State) (c : Fin 4) (x : Channel) :
    (s.setChannel c x).loadUnit = s.loadUnit := rfl

@[simp] theorem State.setChannel_lift (s : State) (c : Fin 4) (x : Channel) :
    (s.setChannel c x).lift = s.lift := rfl

@[simp] theorem State.setChannel_axles (s : State) (c : Fin 4) (x : Channel) :
    (s.setChannel c x).axles = s.axles := rfl

@[simp] theorem State.setChannel_wheels (s : State) (c : Fin 4) (x : Channel) :
    (s.setChannel c x).wheels = s.wheels := rfl

@[simp] theorem State.setChannel_tyres (s : State) (c : Fin 4) (x : Channel) :
    (s.setChannel c x).tyres = s.tyres := rfl

@[simp] theorem State.setChannel_channels (s : State) (c : Fin 4) (x : Channel) :
    (s.setChannel c x).channels = s.channels.set c x := rfl

@[simp] theorem State.setChannel_outputs (s : State) (c : Fin 4) (x : Channel) :
    (s.setChannel c x).outputs = s.outputs := rfl

@[simp] theorem State.setChannel_rollover (s : State) (c : Fin 4) (x : Channel) :
    (s.setChannel c x).rollover = s.rollover := rfl

@[simp] theorem State.setChannel_receiver (s : State) (c : Fin 4) (x : Channel) :
    (s.setChannel c x).receiver = s.receiver := rfl

@[simp] theorem State.setChannel_supervisor (s : State) (c : Fin 4) (x : Channel) :
    (s.setChannel c x).supervisor = s.supervisor := rfl

@[simp] theorem State.setChannel_link (s : State) (c : Fin 4) (x : Channel) :
    (s.setChannel c x).link = s.link := rfl

theorem State.setChannel_get_self (s : State) (c : Fin 4) (x : Channel) :
    (s.setChannel c x).channels[c] = x := by simp [State.setChannel]

theorem State.setChannel_get_ne (s : State) (c c' : Fin 4) (x : Channel) (h : c' ≠ c) :
    (s.setChannel c x).channels[c'] = s.channels[c'] := by
  have h' : c.val ≠ c'.val := fun e => h (Fin.ext e.symm)
  simp [State.setChannel, h']

/-! ### setOutput -/

@[simp] theorem State.setOutput_pending (s : State) (o : Fin 13) (x : Output) :
    (s.setOutput o x).pending = s.pending := rfl

@[simp] theorem State.setOutput_device (s : State) (o : Fin 13) (x : Output) :
    (s.setOutput o x).device = s.device := rfl

@[simp] theorem State.setOutput_faults (s : State) (o : Fin 13) (x : Output) :
    (s.setOutput o x).faults = s.faults := rfl

@[simp] theorem State.setOutput_analog (s : State) (o : Fin 13) (x : Output) :
    (s.setOutput o x).analog = s.analog := rfl

@[simp] theorem State.setOutput_capture (s : State) (o : Fin 13) (x : Output) :
    (s.setOutput o x).capture = s.capture := rfl

@[simp] theorem State.setOutput_loadUnit (s : State) (o : Fin 13) (x : Output) :
    (s.setOutput o x).loadUnit = s.loadUnit := rfl

@[simp] theorem State.setOutput_lift (s : State) (o : Fin 13) (x : Output) :
    (s.setOutput o x).lift = s.lift := rfl

@[simp] theorem State.setOutput_axles (s : State) (o : Fin 13) (x : Output) :
    (s.setOutput o x).axles = s.axles := rfl

@[simp] theorem State.setOutput_wheels (s : State) (o : Fin 13) (x : Output) :
    (s.setOutput o x).wheels = s.wheels := rfl

@[simp] theorem State.setOutput_tyres (s : State) (o : Fin 13) (x : Output) :
    (s.setOutput o x).tyres = s.tyres := rfl

@[simp] theorem State.setOutput_channels (s : State) (o : Fin 13) (x : Output) :
    (s.setOutput o x).channels = s.channels := rfl

@[simp] theorem State.setOutput_outputs (s : State) (o : Fin 13) (x : Output) :
    (s.setOutput o x).outputs = s.outputs.set o x := rfl

@[simp] theorem State.setOutput_rollover (s : State) (o : Fin 13) (x : Output) :
    (s.setOutput o x).rollover = s.rollover := rfl

@[simp] theorem State.setOutput_receiver (s : State) (o : Fin 13) (x : Output) :
    (s.setOutput o x).receiver = s.receiver := rfl

@[simp] theorem State.setOutput_supervisor (s : State) (o : Fin 13) (x : Output) :
    (s.setOutput o x).supervisor = s.supervisor := rfl

@[simp] theorem State.setOutput_link (s : State) (o : Fin 13) (x : Output) :
    (s.setOutput o x).link = s.link := rfl

theorem State.setOutput_get_self (s : State) (o : Fin 13) (x : Output) :
    (s.setOutput o x).outputs[o] = x := by simp [State.setOutput]

theorem State.setOutput_get_ne (s : State) (o o' : Fin 13) (x : Output) (h : o' ≠ o) :
    (s.setOutput o x).outputs[o'] = s.outputs[o'] := by
  have h' : o.val ≠ o'.val := fun e => h (Fin.ext e.symm)
  simp [State.setOutput, h']

/-! ### setRollover -/

@[simp] theorem State.setRollover_pending (s : State) (r : Rollover) : (s.setRollover r).pending = s.pending := rfl

@[simp] theorem State.setRollover_device (s : State) (r : Rollover) : (s.setRollover r).device = s.device := rfl

@[simp] theorem State.setRollover_faults (s : State) (r : Rollover) : (s.setRollover r).faults = s.faults := rfl

@[simp] theorem State.setRollover_analog (s : State) (r : Rollover) : (s.setRollover r).analog = s.analog := rfl

@[simp] theorem State.setRollover_capture (s : State) (r : Rollover) : (s.setRollover r).capture = s.capture := rfl

@[simp] theorem State.setRollover_loadUnit (s : State) (r : Rollover) : (s.setRollover r).loadUnit = s.loadUnit := rfl

@[simp] theorem State.setRollover_lift (s : State) (r : Rollover) : (s.setRollover r).lift = s.lift := rfl

@[simp] theorem State.setRollover_axles (s : State) (r : Rollover) : (s.setRollover r).axles = s.axles := rfl

@[simp] theorem State.setRollover_wheels (s : State) (r : Rollover) : (s.setRollover r).wheels = s.wheels := rfl

@[simp] theorem State.setRollover_tyres (s : State) (r : Rollover) : (s.setRollover r).tyres = s.tyres := rfl

@[simp] theorem State.setRollover_channels (s : State) (r : Rollover) : (s.setRollover r).channels = s.channels := rfl

@[simp] theorem State.setRollover_outputs (s : State) (r : Rollover) : (s.setRollover r).outputs = s.outputs := rfl

@[simp] theorem State.setRollover_rollover (s : State) (r : Rollover) : (s.setRollover r).rollover = r := rfl

@[simp] theorem State.setRollover_receiver (s : State) (r : Rollover) : (s.setRollover r).receiver = s.receiver := rfl

@[simp] theorem State.setRollover_supervisor (s : State) (r : Rollover) : (s.setRollover r).supervisor = s.supervisor := rfl

@[simp] theorem State.setRollover_link (s : State) (r : Rollover) : (s.setRollover r).link = s.link := rfl

/-! ### setReceiver -/

@[simp] theorem State.setReceiver_pending (s : State) (r : Receiver) : (s.setReceiver r).pending = s.pending := rfl

@[simp] theorem State.setReceiver_device (s : State) (r : Receiver) : (s.setReceiver r).device = s.device := rfl

@[simp] theorem State.setReceiver_faults (s : State) (r : Receiver) : (s.setReceiver r).faults = s.faults := rfl

@[simp] theorem State.setReceiver_analog (s : State) (r : Receiver) : (s.setReceiver r).analog = s.analog := rfl

@[simp] theorem State.setReceiver_capture (s : State) (r : Receiver) : (s.setReceiver r).capture = s.capture := rfl

@[simp] theorem State.setReceiver_loadUnit (s : State) (r : Receiver) : (s.setReceiver r).loadUnit = s.loadUnit := rfl

@[simp] theorem State.setReceiver_lift (s : State) (r : Receiver) : (s.setReceiver r).lift = s.lift := rfl

@[simp] theorem State.setReceiver_axles (s : State) (r : Receiver) : (s.setReceiver r).axles = s.axles := rfl

@[simp] theorem State.setReceiver_wheels (s : State) (r : Receiver) : (s.setReceiver r).wheels = s.wheels := rfl

@[simp] theorem State.setReceiver_tyres (s : State) (r : Receiver) : (s.setReceiver r).tyres = s.tyres := rfl

@[simp] theorem State.setReceiver_channels (s : State) (r : Receiver) : (s.setReceiver r).channels = s.channels := rfl

@[simp] theorem State.setReceiver_outputs (s : State) (r : Receiver) : (s.setReceiver r).outputs = s.outputs := rfl

@[simp] theorem State.setReceiver_rollover (s : State) (r : Receiver) : (s.setReceiver r).rollover = s.rollover := rfl

@[simp] theorem State.setReceiver_receiver (s : State) (r : Receiver) : (s.setReceiver r).receiver = r := rfl

@[simp] theorem State.setReceiver_supervisor (s : State) (r : Receiver) : (s.setReceiver r).supervisor = s.supervisor := rfl

@[simp] theorem State.setReceiver_link (s : State) (r : Receiver) : (s.setReceiver r).link = s.link := rfl

/-! ### setCandidates -/

@[simp] theorem State.setCandidates_pending (s : State) (l : List Candidate) :
    (s.setCandidates l).pending = s.pending := rfl

@[simp] theorem State.setCandidates_device (s : State) (l : List Candidate) :
    (s.setCandidates l).device = s.device := rfl

@[simp] theorem State.setCandidates_faults (s : State) (l : List Candidate) :
    (s.setCandidates l).faults = s.faults := rfl

@[simp] theorem State.setCandidates_analog (s : State) (l : List Candidate) :
    (s.setCandidates l).analog = s.analog := rfl

@[simp] theorem State.setCandidates_capture (s : State) (l : List Candidate) :
    (s.setCandidates l).capture = s.capture := rfl

@[simp] theorem State.setCandidates_loadUnit (s : State) (l : List Candidate) :
    (s.setCandidates l).loadUnit = s.loadUnit := rfl

@[simp] theorem State.setCandidates_lift (s : State) (l : List Candidate) :
    (s.setCandidates l).lift = s.lift := rfl

@[simp] theorem State.setCandidates_axles (s : State) (l : List Candidate) :
    (s.setCandidates l).axles = s.axles := rfl

@[simp] theorem State.setCandidates_wheels (s : State) (l : List Candidate) :
    (s.setCandidates l).wheels = s.wheels := rfl

@[simp] theorem State.setCandidates_tyres (s : State) (l : List Candidate) :
    (s.setCandidates l).tyres = s.tyres := rfl

@[simp] theorem State.setCandidates_channels (s : State) (l : List Candidate) :
    (s.setCandidates l).channels = s.channels := rfl

@[simp] theorem State.setCandidates_outputs (s : State) (l : List Candidate) :
    (s.setCandidates l).outputs = s.outputs := rfl

@[simp] theorem State.setCandidates_rollover (s : State) (l : List Candidate) :
    (s.setCandidates l).rollover = s.rollover := rfl

@[simp] theorem State.setCandidates_receiver (s : State) (l : List Candidate) :
    (s.setCandidates l).receiver = s.receiver := rfl

@[simp] theorem State.setCandidates_supervisor (s : State) (l : List Candidate) :
    (s.setCandidates l).supervisor = { s.supervisor with candidates := l } := rfl

@[simp] theorem State.setCandidates_link (s : State) (l : List Candidate) :
    (s.setCandidates l).link = s.link := rfl

end Sys2Proof.Machine
end

