-- ==== Sys2Proof/Laws/Ops.lean ====
section
/-! SUPPORT. What each shared operation can change, said once: the provers cite these instead of unfolding. -/

namespace Sys2Proof.Machine

/-! ### Repetition -/

/-- What one pass keeps, the repetition keeps. -/
theorem forEach_keeps {n : Nat} {f : Fin n → State → State} (P : State → Prop)
    (step : ∀ i s, P s → P (f i s)) (s : State) (h : P s) : P (forEach n f s) := by
  unfold forEach
  induction List.finRange n generalizing s with
  | nil => exact h
  | cons i l ih => exact ih _ (step i s h)

/-- A reflexive and transitive relation that holds across one pass holds across the repetition. -/
theorem forEach_rel {n : Nat} {f : Fin n → State → State} (R : State → State → Prop)
    (refl : ∀ s, R s s) (trans : ∀ {s t u}, R s t → R t u → R s u) (step : ∀ i s, R s (f i s))
    (s : State) : R s (forEach n f s) :=
  forEach_keeps (R s) (fun i t h => trans h (step i t)) s (refl s)

/-! ### The fault set -/

theorem FaultSet.get_set_self (x : FaultSet) (m : FaultMark) (f : FaultId) : (x.set m f).get f = m := by
  cases f <;> simp [FaultSet.get, FaultSet.set]

theorem FaultSet.get_set_ne (x : FaultSet) (m : FaultMark) {f g : FaultId} (h : g ≠ f) :
    (x.set m f).get g = x.get g := by
  cases f <;> cases g <;>
    first
    | rfl
    | exact absurd rfl h
    | (rename_i i j
       have hij : i.val ≠ j.val := fun e => h (by rw [Fin.ext e])
       simp [FaultSet.get, FaultSet.set, hij])

/-! ### Relations between a state and the state after an operation -/

/-- Only the channels, the outputs, the fault set and the FAULT source may differ. -/
structure ValveOnly (s t : State) : Prop where
  pending : t.pending = s.pending
  device : t.device = s.device
  analog : t.analog = s.analog
  capture : t.capture = s.capture
  loadUnit : t.loadUnit = s.loadUnit
  lift : t.lift = s.lift
  axles : t.axles = s.axles
  wheels : t.wheels = s.wheels
  tyres : t.tyres = s.tyres
  rollover : t.rollover = s.rollover
  receiver : t.receiver = s.receiver
  supervisor : t.supervisor = s.supervisor
  link : t.link = { s.link with faultPending := t.link.faultPending }

theorem ValveOnly.refl (s : State) : ValveOnly s s :=
  ⟨rfl, rfl, rfl, rfl, rfl, rfl, rfl, rfl, rfl, rfl, rfl, rfl, rfl⟩

theorem ValveOnly.trans {s t u : State} (a : ValveOnly s t) (b : ValveOnly t u) : ValveOnly s u where
  pending := b.pending.trans a.pending
  device := b.device.trans a.device
  analog := b.analog.trans a.analog
  capture := b.capture.trans a.capture
  loadUnit := b.loadUnit.trans a.loadUnit
  lift := b.lift.trans a.lift
  axles := b.axles.trans a.axles
  wheels := b.wheels.trans a.wheels
  tyres := b.tyres.trans a.tyres
  rollover := b.rollover.trans a.rollover
  receiver := b.receiver.trans a.receiver
  supervisor := b.supervisor.trans a.supervisor
  link := by rw [b.link, a.link]

/-- Only the fault set and the FAULT source may differ. -/
structure FaultsOnly (s t : State) : Prop extends ValveOnly s t where
  channels : t.channels = s.channels
  outputs : t.outputs = s.outputs

/-- What a report of instance `f` does: its present condition follows the report unless masked, its mark
latches at a new condition of a latched kind and never clears, the FAULT source follows a new mark, and
every other instance stands. -/
theorem report_spec (f : FaultId) (c : Bool) (s : State) :
    FaultsOnly s (report f c s)
      ∧ ((report f c s).faults.get f).present = (c && !masked s f)
      ∧ ((report f c s).faults.get f).latched =
          ((s.faults.get f).latched
            || ((c && !masked s f) && !(s.faults.get f).present && f.isLatched))
      ∧ (∀ g, g ≠ f → (report f c s).faults.get g = s.faults.get g)
      ∧ (report f c s).link.faultPending =
          (s.link.faultPending
            || ((c && !masked s f) && !(s.faults.get f).present && f.isLatched
                && !(s.faults.get f).latched)) := by
  refine ⟨⟨⟨rfl, rfl, rfl, rfl, rfl, rfl, rfl, rfl, rfl, rfl, rfl, rfl, rfl⟩, rfl, rfl⟩, ?_, ?_, ?_, rfl⟩
  · simp [report, FaultSet.get_set_self]
  · simp [report, FaultSet.get_set_self]
  · intro g h
    simp [report, FaultSet.get_set_ne _ _ h]

theorem report_valveOnly (f : FaultId) (c : Bool) (s : State) : ValveOnly s (report f c s) :=
  (report_spec f c s).1.toValveOnly

@[simp] theorem report_channels (f : FaultId) (c : Bool) (s : State) :
    (report f c s).channels = s.channels := rfl

@[simp] theorem report_outputs (f : FaultId) (c : Bool) (s : State) :
    (report f c s).outputs = s.outputs := rfl

@[simp] theorem report_device (f : FaultId) (c : Bool) (s : State) :
    (report f c s).device = s.device := rfl

/-- A report of absent latches nothing and raises nothing. -/
theorem report_false_latched (f g : FaultId) (s : State) :
    ((report f false s).faults.get g).latched = (s.faults.get g).latched := by
  by_cases h : g = f
  · subst h
    simp [(report_spec g false s).2.2.1]
  · rw [(report_spec f false s).2.2.2.1 g h]

@[simp] theorem report_false_link (f : FaultId) (s : State) : (report f false s).link = s.link := by
  simp [report]

/-! ### Outputs -/

theorem setChannel_valveOnly (c : Fin 4) (x : Channel) (s : State) : ValveOnly s (s.setChannel c x) :=
  ⟨rfl, rfl, rfl, rfl, rfl, rfl, rfl, rfl, rfl, rfl, rfl, rfl, rfl⟩

theorem setOutput_valveOnly (o : Fin 13) (x : Output) (s : State) : ValveOnly s (s.setOutput o x) :=
  ⟨rfl, rfl, rfl, rfl, rfl, rfl, rfl, rfl, rfl, rfl, rfl, rfl, rfl⟩

theorem startGap_valveOnly (o : Fin 13) (s : State) : ValveOnly s (startGap o s) := by
  unfold startGap
  split
  · exact setChannel_valveOnly _ _ _
  · split
    · exact setChannel_valveOnly _ _ _
    · exact ValveOnly.refl s

@[simp] theorem startGap_outputs (o : Fin 13) (s : State) : (startGap o s).outputs = s.outputs := by
  unfold startGap
  split
  · rfl
  · split <;> rfl

@[simp] theorem startGap_faults (o : Fin 13) (s : State) : (startGap o s).faults = s.faults := by
  unfold startGap
  split
  · rfl
  · split <;> rfl

@[simp] theorem startGap_link (o : Fin 13) (s : State) : (startGap o s).link = s.link := by
  unfold startGap
  split
  · rfl
  · split <;> rfl

theorem deenergise_valveOnly (o : Fin 13) (s : State) : ValveOnly s (deenergise o s) := by
  unfold deenergise
  split
  · exact ((setOutput_valveOnly _ _ _).trans (report_valveOnly _ _ _)).trans (startGap_valveOnly _ _)
  · exact ValveOnly.refl s

/-- The output goes off and keeps its request. -/
theorem deenergise_self (o : Fin 13) (s : State) :
    (deenergise o s).outputs[o].energised = false
      ∧ (deenergise o s).outputs[o].requested = s.outputs[o].requested := by
  unfold deenergise
  split
  · simp [freshOutput]
  · next h => exact ⟨Bool.eq_false_iff.mpr h, rfl⟩

/-- No other output moves. -/
theorem deenergise_other {o o' : Fin 13} (h : o' ≠ o) (s : State) :
    (deenergise o s).outputs[o'] = s.outputs[o'] := by
  unfold deenergise
  split
  · have h' : o.val ≠ o'.val := fun e => h (Fin.ext e.symm)
    simp [h']
  · rfl

theorem deenergise_latched (o : Fin 13) (g : FaultId) (s : State) :
    ((deenergise o s).faults.get g).latched = (s.faults.get g).latched := by
  unfold deenergise
  split
  · simp [report_false_latched]
  · rfl

@[simp] theorem deenergise_link (o : Fin 13) (s : State) : (deenergise o s).link = s.link := by
  unfold deenergise
  split <;> simp

theorem energise_valveOnly (o : Fin 13) (s : State) : ValveOnly s (energise o s) := by
  unfold energise
  split
  · exact setOutput_valveOnly _ _ _
  · exact ValveOnly.refl s

/-- After an energise the output is on exactly if it was on or it may be. -/
theorem energise_self (o : Fin 13) (s : State) :
    (energise o s).outputs[o].energised = (s.outputs[o].energised || outputAllowed s o)
      ∧ (energise o s).outputs[o].requested = s.outputs[o].requested := by
  unfold energise
  split
  · next h =>
    have h1 : outputAllowed s o = true := by
      simp only [Bool.and_eq_true] at h
      exact h.1
    simp [h1]
  · next h =>
    simp only [Bool.and_eq_true, Bool.not_eq_true', not_and, Bool.not_eq_false] at h
    have key : ∀ x y : Bool, (y = true → x = true) → x = (x || y) := by decide
    exact ⟨key _ _ h, rfl⟩

theorem energise_other {o o' : Fin 13} (h : o' ≠ o) (s : State) :
    (energise o s).outputs[o'] = s.outputs[o'] := by
  unfold energise
  split
  · exact State.setOutput_get_ne s o o' _ h
  · rfl

@[simp] theorem energise_faults (o : Fin 13) (s : State) : (energise o s).faults = s.faults := by
  unfold energise
  split <;> rfl

@[simp] theorem energise_channels (o : Fin 13) (s : State) : (energise o s).channels = s.channels := by
  unfold energise
  split <;> rfl

@[simp] theorem energise_link (o : Fin 13) (s : State) : (energise o s).link = s.link := by
  unfold energise
  split <;> rfl

theorem noteRequest_valveOnly (o : Fin 13) (on : Bool) (s : State) : ValveOnly s (noteRequest o on s) := by
  unfold noteRequest
  dsimp only
  split
  · exact setOutput_valveOnly _ _ _
  · exact (setOutput_valveOnly _ _ _).trans (deenergise_valveOnly _ _)

theorem noteRequest_other {o o' : Fin 13} (h : o' ≠ o) (on : Bool) (s : State) :
    (noteRequest o on s).outputs[o'] = s.outputs[o'] := by
  unfold noteRequest
  dsimp only
  split
  · exact State.setOutput_get_ne s o o' _ h
  · rw [deenergise_other h]
    exact State.setOutput_get_ne s o o' _ h

theorem serveInlet_valveOnly (c : Fin 4) (s : State) : ValveOnly s (serveInlet c s) := by
  unfold serveInlet
  split
  · exact energise_valveOnly _ _
  · exact ValveOnly.refl s

theorem serveExhaust_valveOnly (c : Fin 4) (s : State) : ValveOnly s (serveExhaust c s) := by
  unfold serveExhaust
  split
  · exact energise_valveOnly _ _
  · exact ValveOnly.refl s

theorem serveBackup_valveOnly (c : Fin 4) (s : State) : ValveOnly s (serveBackup c s) := by
  unfold serveBackup
  split
  · exact energise_valveOnly _ _
  · exact ValveOnly.refl s

theorem requestAction_valveOnly (c : Fin 4) (a : ValveAction) (s : State) :
    ValveOnly s (requestAction c a s) := by
  unfold requestAction
  exact (((((setChannel_valveOnly _ _ _).trans (noteRequest_valveOnly _ _ _)).trans
    (noteRequest_valveOnly _ _ _)).trans (noteRequest_valveOnly _ _ _)).trans
    (serveBackup_valveOnly _ _)).trans
    ((serveInlet_valveOnly _ _).trans (serveExhaust_valveOnly _ _))

theorem requestLift_valveOnly (on : Bool) (s : State) : ValveOnly s (requestLift on s) := by
  unfold requestLift
  dsimp only
  split
  · exact (noteRequest_valveOnly _ _ _).trans (energise_valveOnly _ _)
  · exact noteRequest_valveOnly _ _ _

/-- The lift solenoid's request is as made; an asked-off solenoid is off. -/
theorem requestLift_self (on : Bool) (s : State) :
    (requestLift on s).outputs[liftOutput].requested = on
      ∧ (on = false → (requestLift on s).outputs[liftOutput].energised = false) := by
  unfold requestLift noteRequest
  cases on with
  | false =>
    simp only [Bool.false_eq_true, if_false]
    have h := deenergise_self liftOutput
      (s.setOutput liftOutput { s.outputs[liftOutput] with requested := false })
    exact ⟨by rw [h.2, State.setOutput_get_self], fun _ => h.1⟩
  | true =>
    simp only [if_true]
    exact ⟨by rw [(energise_self _ _).2, State.setOutput_get_self], fun h => by cases h⟩

/-- No channel's output moves at a request for the lift solenoid. -/
theorem requestLift_other {o : Fin 13} (h : o ≠ liftOutput) (on : Bool) (s : State) :
    (requestLift on s).outputs[o] = s.outputs[o] := by
  unfold requestLift
  dsimp only
  split
  · rw [energise_other h, noteRequest_other h]
  · rw [noteRequest_other h]

theorem dropDisallowed_valveOnly (s : State) : ValveOnly s (dropDisallowed s) :=
  forEach_rel ValveOnly ValveOnly.refl ValveOnly.trans
    (fun o t => by
      split
      · exact ValveOnly.refl t
      · exact deenergise_valveOnly o t) s

/-! ### Channels -/

theorem arbitrate_valveOnly (c : Fin 4) (s : State) : ValveOnly s (arbitrate c s) :=
  setChannel_valveOnly _ _ _

@[simp] theorem arbitrate_outputs (c : Fin 4) (s : State) : (arbitrate c s).outputs = s.outputs := rfl

@[simp] theorem arbitrate_faults (c : Fin 4) (s : State) : (arbitrate c s).faults = s.faults := rfl

@[simp] theorem arbitrate_link (c : Fin 4) (s : State) : (arbitrate c s).link = s.link := rfl

/-- Forming a command twice is forming it once: it is a function of the latest inputs (R79). -/
theorem arbitrate_arbitrate (x : Channel) : x.arbitrate.arbitrate = x.arbitrate := rfl

/-- R80: the commanded pressure never exceeds P_LIM. -/
theorem command_le_pLim (x : Channel) : x.command ≤ x.pLim := Nat.min_le_right _ _

theorem handRequest_valveOnly (v : Nat) (c : Fin 4) (s : State) : ValveOnly s (handRequest v c s) := by
  unfold handRequest
  split
  · exact (setChannel_valveOnly _ _ _).trans (arbitrate_valveOnly _ _)
  · exact ValveOnly.refl s

theorem enterFallback_valveOnly (c : Fin 4) (s : State) : ValveOnly s (enterFallback c s) := by
  unfold enterFallback
  exact ((setChannel_valveOnly _ _ _).trans (report_valveOnly _ _ _)).trans
    (requestAction_valveOnly _ _ _)

theorem finishExercise_valveOnly (c : Fin 4) (how : ExerciseEnd) (s : State) :
    ValveOnly s (finishExercise c how s) := by
  unfold finishExercise
  exact (setChannel_valveOnly _ _ _).trans (requestAction_valveOnly _ _ _)

theorem followReason_valveOnly (c : Fin 4) (s : State) : ValveOnly s (followReason c s) := by
  unfold followReason
  split
  · split
    · exact enterFallback_valveOnly _ _
    · exact enterFallback_valveOnly _ _
    · exact enterFallback_valveOnly _ _
    · exact setChannel_valveOnly _ _ _
    · exact ValveOnly.refl s
  · exact ValveOnly.refl s

theorem settle_valveOnly (s : State) : ValveOnly s (settle s) :=
  (dropDisallowed_valveOnly s).trans
    (forEach_rel ValveOnly ValveOnly.refl ValveOnly.trans followReason_valveOnly _)

/-! ### The lift axle and the device state -/

/-- Besides the valves' part, only the AXLE records and the Lift Controller may differ. -/
structure LiftOnly (s t : State) : Prop where
  pending : t.pending = s.pending
  device : t.device = s.device
  analog : t.analog = s.analog
  capture : t.capture = s.capture
  loadUnit : t.loadUnit = s.loadUnit
  wheels : t.wheels = s.wheels
  tyres : t.tyres = s.tyres
  rollover : t.rollover = s.rollover
  receiver : t.receiver = s.receiver
  supervisor : t.supervisor = s.supervisor
  link : t.link = { s.link with faultPending := t.link.faultPending }

theorem LiftOnly.refl (s : State) : LiftOnly s s :=
  ⟨rfl, rfl, rfl, rfl, rfl, rfl, rfl, rfl, rfl, rfl, rfl⟩

theorem LiftOnly.trans {s t u : State} (a : LiftOnly s t) (b : LiftOnly t u) : LiftOnly s u where
  pending := b.pending.trans a.pending
  device := b.device.trans a.device
  analog := b.analog.trans a.analog
  capture := b.capture.trans a.capture
  loadUnit := b.loadUnit.trans a.loadUnit
  wheels := b.wheels.trans a.wheels
  tyres := b.tyres.trans a.tyres
  rollover := b.rollover.trans a.rollover
  receiver := b.receiver.trans a.receiver
  supervisor := b.supervisor.trans a.supervisor
  link := by rw [b.link, a.link]

theorem ValveOnly.liftOnly {s t : State} (h : ValveOnly s t) : LiftOnly s t :=
  ⟨h.pending, h.device, h.analog, h.capture, h.loadUnit, h.wheels, h.tyres, h.rollover, h.receiver,
    h.supervisor, h.link⟩

theorem putAxle_liftOnly (a : Fin 4) (x : Axle) (s : State) : LiftOnly s (putAxle a x s) :=
  ⟨rfl, rfl, rfl, rfl, rfl, rfl, rfl, rfl, rfl, rfl, rfl⟩

theorem startLowering_liftOnly (a : Fin 4) (s : State) : LiftOnly s (startLowering a s) := by
  unfold startLowering
  have h1 := putAxle_liftOnly a { s.axles[a] with liftState := .lowering } s
  have h2 : LiftOnly (putAxle a { s.axles[a] with liftState := .lowering } s)
      { putAxle a { s.axles[a] with liftState := .lowering } s with
        lift :=
          { (putAxle a { s.axles[a] with liftState := .lowering } s).lift with
            raiseTimer := none, loweringTimer := some loweringTime } } :=
    ⟨rfl, rfl, rfl, rfl, rfl, rfl, rfl, rfl, rfl, rfl, rfl⟩
  exact (h1.trans h2).trans (requestLift_valveOnly _ _).liftOnly

/-- What sends an axle to LOWERING does: the axle's state, the solenoid's request and the two timers. -/
theorem startLowering_self (a : Fin 4) (s : State) :
    (startLowering a s).axles[a].liftState = .lowering
      ∧ (startLowering a s).lift.raiseTimer = none
      ∧ (startLowering a s).lift.loweringTimer = some 6000000
      ∧ (startLowering a s).outputs[liftOutput].requested = false
      ∧ (startLowering a s).outputs[liftOutput].energised = false := by
  have key : ∀ u : State, ValveOnly u (requestLift false u) ∧
      (requestLift false u).outputs[liftOutput].requested = false ∧
      (requestLift false u).outputs[liftOutput].energised = false :=
    fun u => ⟨requestLift_valveOnly _ _, (requestLift_self false u).1, (requestLift_self false u).2 rfl⟩
  unfold startLowering
  dsimp only
  obtain ⟨h1, h2, h3⟩ := key
    { putAxle a { s.axles[a] with liftState := .lowering } s with
      lift :=
        { (putAxle a { s.axles[a] with liftState := .lowering } s).lift with
          raiseTimer := none, loweringTimer := some loweringTime } }
  refine ⟨?_, ?_, ?_, h2, h3⟩
  · rw [h1.axles]
    simp [putAxle]
  · rw [h1.lift]
  · rw [h1.lift]
    rfl

theorem forceLowering_liftOnly (s : State) : LiftOnly s (forceLowering s) := by
  unfold forceLowering
  split
  · exact LiftOnly.refl s
  · split
    · exact startLowering_liftOnly _ _
    · exact startLowering_liftOnly _ _
    · exact LiftOnly.refl s
    · exact LiftOnly.refl s
    · exact LiftOnly.refl s

/-- The forced lowering is all that R64 says of it. -/
theorem forceLowering_forced (s : State) : ForcedLowering s (forceLowering s) := by
  intro a h
  have lower : s.axles[a].liftState ≠ .lowering →
      (startLowering a s).axles[a] = { s.axles[a] with liftState := .lowering, changeMark := true }
        ∧ (startLowering a s).lift =
          { s.lift with raiseTimer := none, loweringTimer := some 6000000 } := by
    intro hx
    unfold startLowering
    dsimp only
    rw [(requestLift_valveOnly _ _).axles, (requestLift_valveOnly _ _).lift]
    constructor
    · simpa [putAxle, Axle.watchedDiffer] using Or.inr hx
    · rfl
  obtain ⟨-, -, -, h4, h5⟩ := startLowering_self a s
  cases hx : s.axles[a].liftState <;> simp_all [forceLowering]

/-- A change of device state touches the device state, the valves and the lift axle. -/
theorem setDeviceState_liftOnly (d : DeviceState) (s : State) :
    LiftOnly { s with device := { s.device with state := d } } (setDeviceState d s) := by
  unfold setDeviceState
  dsimp only
  split
  · exact (forceLowering_liftOnly _).trans (settle_valveOnly _).liftOnly
  · exact (settle_valveOnly _).liftOnly

/-! ### A restart leaves absent records as they stand (R5) -/

theorem Axle.restart_of_absent {x : Axle} (h : x.present = false) : x.restart = x := by
  simp [Axle.restart, h]

theorem Wheel.restart_of_absent {x : Wheel} (h : x.present = false) : x.restart = x := by
  simp [Wheel.restart, h]

theorem Tyre.restart_of_absent {x : Tyre} (h : x.present = false) :
    x.restart = { x with learnOutstanding := false } := by
  simp [Tyre.restart, h]

theorem Channel.restart_of_absent {x : Channel} (h : x.present = false) (gap : Nat) :
    x.restart gap = x := by
  simp [Channel.restart, h]

/-! ### Timers and transactions -/

/-- Words 0 to 9 of a transaction are the words sampled. -/
@[simp] theorem Link.outputWord_sampled (l : Link) (k : Fin 10) : l.outputWord k = l.dataOut[k] := by
  simp [Link.outputWord]

/-- Words 10 onward are all one word. -/
theorem Link.outputWord_rest (l : Link) {n : Nat} (h : 10 ≤ n) : l.outputWord n = l.dataRest := by
  simp [Link.outputWord, Nat.not_lt.mpr h]

theorem whileRunning_of_held {f : State → State} {s : State} (h : held s = true) :
    whileRunning f s = s := by
  simp [whileRunning, h]

theorem whileRunning_of_running {f : State → State} {s : State} (h : Running s) :
    whileRunning f s = f s := by
  simp [whileRunning, held, h.1, h.2]

/-- A served request is its owner's, with SELECT high and the response prepared. -/
theorem request_of_served {kind : BitVec 6} {owner : State → Reply × State} {s : State} (h : Served s) :
    request kind owner s =
      setResponse kind (owner (closeTransaction s)).1 (owner (closeTransaction s)).2 := by
  obtain ⟨⟨h1, h2⟩, h3, h4⟩ := h
  simp [request, transact, openTransaction, h4, linkServes, held, h1, h2, h3]

/-- A request that the link does not serve only ends its transaction. -/
theorem request_of_not_served {kind : BitVec 6} {owner : State → Reply × State} {s : State}
    (h : linkServes s = false) :
    request kind owner s = closeTransaction (openTransaction s) := by
  have h' : linkServes (openTransaction s) = false := by
    unfold openTransaction
    split
    · exact h
    · exact h
    · exact h
  simp [request, transact, h']

end Sys2Proof.Machine
end

