-- ==== Sys2Proof/Laws/PerInstr.lean ====
section
/-! SUPPORT. Facts stated per command: how many words a request takes. -/

namespace Sys2Proof.Laws

/-- R167: a well-formed command that is a request takes as many words as its kind needs, and its first word
carries that kind; an unlisted kind takes one. -/
def RequestLength.Statement (i : Instr) : Prop :=
  ∀ ws : List Word, i.wellFormed = true → Link.encode i = some ws →
    ∃ h rest, ws = h :: rest ∧ ws.length = Link.wordsNeeded (Link.headerKind h)

/-- The kind stands in bits 15 to 10 of a header. -/
theorem headerKind_header (k : BitVec 6) (t : BitVec 3) (i : BitVec 5) (g : BitVec 2) :
    Link.headerKind (Link.header k t i g) = k := by
  simp only [Link.headerKind, Link.header]
  ext j hj
  simp only [BitVec.getElem_extractLsb', BitVec.getLsbD_append]
  have : ¬ (10 + j < 2) ∧ ¬ (10 + j - 2 < 5) ∧ ¬ (10 + j - 2 - 5 < 3) := by omega
  simp only [this, if_false]
  rw [show 10 + j - 2 - 5 - 3 = j by omega, BitVec.getLsbD_eq_getElem hj]

/-- An unlisted kind counts as a one-word request. -/
theorem wordsNeeded_unlisted (k : BitVec 6) (h : 15 ≤ k.toNat) : Link.wordsNeeded k = 1 := by
  unfold Link.wordsNeeded
  split <;> omega

theorem RequestLength.powerOn (straps : BitVec 2) :
    RequestLength.Statement (.powerOn straps) := by
  rintro _ - ⟨⟩

theorem RequestLength.logicSupplyLow :
    RequestLength.Statement .logicSupplyLow := by
  rintro _ - ⟨⟩

theorem RequestLength.logicSupplyRestored (straps : BitVec 2) :
    RequestLength.Statement (.logicSupplyRestored straps) := by
  rintro _ - ⟨⟩

theorem RequestLength.resetLineAssert :
    RequestLength.Statement .resetLineAssert := by
  rintro _ - ⟨⟩

theorem RequestLength.resetLineRelease (straps : BitVec 2) :
    RequestLength.Statement (.resetLineRelease straps) := by
  rintro _ - ⟨⟩

theorem RequestLength.initTimerExpiry :
    RequestLength.Statement .initTimerExpiry := by
  rintro _ - ⟨⟩

theorem RequestLength.failsafeAssert :
    RequestLength.Statement .failsafeAssert := by
  rintro _ - ⟨⟩

theorem RequestLength.failsafeRelease :
    RequestLength.Statement .failsafeRelease := by
  rintro _ - ⟨⟩

theorem RequestLength.scanCompletion (readings : ScanInputs) (order : List ScanAgent) :
    RequestLength.Statement (.scanCompletion readings order) := by
  rintro _ - ⟨⟩

theorem RequestLength.sampleSet (now : Stamp) (openLines : BitVec 8) (antiLockFirst : Bool) :
    RequestLength.Statement (.sampleSet now openLines antiLockFirst) := by
  rintro _ - ⟨⟩

theorem RequestLength.wheelEdge (w : Fin 8) (now : Stamp) :
    RequestLength.Statement (.wheelEdge w now) := by
  rintro _ - ⟨⟩

theorem RequestLength.shortCircuitTrip (o : Fin 13) :
    RequestLength.Statement (.shortCircuitTrip o) := by
  rintro _ - ⟨⟩

theorem RequestLength.changeoverGapExpiry (c : Fin 4) :
    RequestLength.Statement (.changeoverGapExpiry c) := by
  rintro _ - ⟨⟩

theorem RequestLength.blankingTimerExpiry (o : Fin 13) :
    RequestLength.Statement (.blankingTimerExpiry o) := by
  rintro _ - ⟨⟩

theorem RequestLength.raiseTimerExpiry :
    RequestLength.Statement .raiseTimerExpiry := by
  rintro _ - ⟨⟩

theorem RequestLength.loweringTimerExpiry :
    RequestLength.Statement .loweringTimerExpiry := by
  rintro _ - ⟨⟩

theorem RequestLength.supplyTimerExpiry (c : Fin 4) :
    RequestLength.Statement (.supplyTimerExpiry c) := by
  rintro _ - ⟨⟩

theorem RequestLength.exerciseTimerExpiry (c : Fin 4) :
    RequestLength.Statement (.exerciseTimerExpiry c) := by
  rintro _ - ⟨⟩

theorem RequestLength.holdTimerExpiry (c : Fin 4) :
    RequestLength.Statement (.holdTimerExpiry c) := by
  rintro _ - ⟨⟩

theorem RequestLength.stepTimerExpiry (c : Fin 4) :
    RequestLength.Statement (.stepTimerExpiry c) := by
  rintro _ - ⟨⟩

theorem RequestLength.testTimerExpiry :
    RequestLength.Statement .testTimerExpiry := by
  rintro _ - ⟨⟩

theorem RequestLength.testSpacingExpiry :
    RequestLength.Statement .testSpacingExpiry := by
  rintro _ - ⟨⟩

theorem RequestLength.interventionMinExpiry :
    RequestLength.Statement .interventionMinExpiry := by
  rintro _ - ⟨⟩

theorem RequestLength.rampStepExpiry :
    RequestLength.Statement .rampStepExpiry := by
  rintro _ - ⟨⟩

theorem RequestLength.lineToSpacing :
    RequestLength.Statement .lineToSpacing := by
  rintro _ - ⟨⟩

theorem RequestLength.lineToMarking :
    RequestLength.Statement .lineToMarking := by
  rintro _ - ⟨⟩

theorem RequestLength.jamTimerExpiry :
    RequestLength.Statement .jamTimerExpiry := by
  rintro _ - ⟨⟩

theorem RequestLength.markTimerExpiry :
    RequestLength.Statement .markTimerExpiry := by
  rintro _ - ⟨⟩

theorem RequestLength.characterComplete (data : Byte) (parity stop : Bool) (nowMs : Nat) :
    RequestLength.Statement (.characterComplete data parity stop nowMs) := by
  rintro _ - ⟨⟩

theorem RequestLength.gapTimerExpiry :
    RequestLength.Statement .gapTimerExpiry := by
  rintro _ - ⟨⟩

theorem RequestLength.agingExpiry :
    RequestLength.Statement .agingExpiry := by
  rintro _ - ⟨⟩

theorem RequestLength.learnTimerExpiry :
    RequestLength.Statement .learnTimerExpiry := by
  rintro _ - ⟨⟩

theorem RequestLength.selectFall :
    RequestLength.Statement .selectFall := by
  rintro _ - ⟨⟩

theorem RequestLength.emptyTransaction :
    RequestLength.Statement .emptyTransaction := by
  rintro _ - ⟨⟩

theorem RequestLength.frameError (header : Option Word) :
    RequestLength.Statement (.frameError header) := by
  rintro _ - ⟨⟩

theorem RequestLength.initTransaction :
    RequestLength.Statement .initTransaction := by
  rintro _ - ⟨⟩

theorem RequestLength.unknownRequest (kind : BitVec 6) (index : BitVec 5) :
    RequestLength.Statement (.unknownRequest kind index) := by
  rintro _ hw ⟨⟩
  refine ⟨_, _, rfl, ?_⟩
  rw [headerKind_header, wordsNeeded_unlisted kind (by simpa [Instr.wellFormed] using hw)]
  rfl

theorem RequestLength.nop (index : BitVec 5) :
    RequestLength.Statement (.nop index) := by
  rintro _ - ⟨⟩
  exact ⟨_, _, rfl, by rw [headerKind_header]; rfl⟩

theorem RequestLength.lookup (table : BitVec 3) (index : BitVec 5) (group : BitVec 2) :
    RequestLength.Statement (.lookup table index group) := by
  rintro _ - ⟨⟩
  exact ⟨_, _, rfl, by rw [headerKind_header]; rfl⟩

theorem RequestLength.lookupNext (index : BitVec 5) (group : BitVec 2) :
    RequestLength.Statement (.lookupNext index group) := by
  rintro _ - ⟨⟩
  exact ⟨_, _, rfl, by rw [headerKind_header]; rfl⟩

theorem RequestLength.amend (table : BitVec 3) (index : BitVec 5) (field value : Word) :
    RequestLength.Statement (.amend table index field value) := by
  rintro _ - ⟨⟩
  exact ⟨_, _, rfl, by rw [headerKind_header]; rfl⟩

theorem RequestLength.enrol (table : BitVec 3) (index : BitVec 5) (idHigh idLow : Word) :
    RequestLength.Statement (.enrol table index idHigh idLow) := by
  rintro _ - ⟨⟩
  exact ⟨_, _, rfl, by rw [headerKind_header]; rfl⟩

theorem RequestLength.retire (table : BitVec 3) (index : BitVec 5) :
    RequestLength.Statement (.retire table index) := by
  rintro _ - ⟨⟩
  exact ⟨_, _, rfl, by rw [headerKind_header]; rfl⟩

theorem RequestLength.learn (table : BitVec 3) (index : BitVec 5) :
    RequestLength.Statement (.learn table index) := by
  rintro _ - ⟨⟩
  exact ⟨_, _, rfl, by rw [headerKind_header]; rfl⟩

theorem RequestLength.cancelLearn (index : BitVec 5) :
    RequestLength.Statement (.cancelLearn index) := by
  rintro _ - ⟨⟩
  exact ⟨_, _, rfl, by rw [headerKind_header]; rfl⟩

theorem RequestLength.liftCommand (index : BitVec 5) (mode : Word) :
    RequestLength.Statement (.liftCommand index mode) := by
  rintro _ - ⟨⟩
  exact ⟨_, _, rfl, by rw [headerKind_header]; rfl⟩

theorem RequestLength.exercise (table : BitVec 3) (index : BitVec 5) (argument : Word) :
    RequestLength.Statement (.exercise table index argument) := by
  rintro _ - ⟨⟩
  exact ⟨_, _, rfl, by rw [headerKind_header]; rfl⟩

theorem RequestLength.goActive (index : BitVec 5) :
    RequestLength.Statement (.goActive index) := by
  rintro _ - ⟨⟩
  exact ⟨_, _, rfl, by rw [headerKind_header]; rfl⟩

theorem RequestLength.goStandby (index : BitVec 5) :
    RequestLength.Statement (.goStandby index) := by
  rintro _ - ⟨⟩
  exact ⟨_, _, rfl, by rw [headerKind_header]; rfl⟩

theorem RequestLength.softReset (index : BitVec 5) :
    RequestLength.Statement (.softReset index) := by
  rintro _ - ⟨⟩
  exact ⟨_, _, rfl, by rw [headerKind_header]; rfl⟩

theorem RequestLength.ackFaults (index : BitVec 5) :
    RequestLength.Statement (.ackFaults index) := by
  rintro _ - ⟨⟩
  exact ⟨_, _, rfl, by rw [headerKind_header]; rfl⟩

theorem RequestLength.setAttention (index : BitVec 5) (enables : Word) :
    RequestLength.Statement (.setAttention index enables) := by
  rintro _ - ⟨⟩
  exact ⟨_, _, rfl, by rw [headerKind_header]; rfl⟩

theorem RequestLength.startBitTaken :
    RequestLength.Statement .startBitTaken := by
  rintro _ - ⟨⟩

end Sys2Proof.Laws
end

