-- ==== Sys2Proof/Tests/Slice0.lean ====
section
/-! SUPPORT. Tests: ill-formed commands, transaction words written out from section 11.5, the manual's worked
examples, and a witness for the hypotheses of every obligation. Each docstring names the source of its
expected values; a witness only shows that hypotheses can be met. -/

namespace Sys2Proof.Tests

open Sys2Proof.Machine

/-! ### Well-formedness -/

/-- A scan order in which a block is missing is refused. -/
theorem test_wellFormed_refuses_short_order (r : ScanInputs) :
    (Instr.scanCompletion r (allScanAgents.drop 1)).wellFormed = false := by
  simp only [Instr.wellFormed]; decide

/-- A scan order in which one block takes the completion twice is refused. -/
theorem test_wellFormed_refuses_double_order (r : ScanInputs) :
    (Instr.scanCompletion r (.antiLock :: allScanAgents.drop 1)).wellFormed = false := by
  simp only [Instr.wellFormed]; decide

/-- Any order of the ten blocks is accepted. -/
theorem test_wellFormed_accepts_any_order (r : ScanInputs) :
    (Instr.scanCompletion r allScanAgents.reverse).wellFormed = true := by
  simp only [Instr.wellFormed]; decide

/-- A kind that R167 lists is no unknown request; the first unlisted kind is. -/
theorem test_wellFormed_unknown_kinds (i : BitVec 5) :
    (Instr.unknownRequest 14 i).wellFormed = false
      ∧ (Instr.unknownRequest 15 i).wellFormed = true := by
  simp only [Instr.wellFormed]; decide

/-! ### Words of section 11.5, written bit by bit: kind, table, index, group -/

/-- LOOKUP ROLLOVER 0 group 0, as in section 11.4: kind 1, table 6. -/
theorem test_parse_lookup :
    Link.parse [0b000001_110_00000_00] 0 = .lookup 6 0 0 := by decide

/-- LOOKUP_NEXT, group 3: kind 2. -/
theorem test_parse_lookupNext :
    Link.parse [0b000010_000_00000_11] 0 = .lookupNext 0 3 := by decide

/-- AMEND of AXLE 1, field 16, value 200: kind 3, table 1, index 1. -/
theorem test_parse_amend :
    Link.parse [0b000011_001_00001_00, 16, 200] 0 = .amend 1 1 16 200 := by decide

/-- ENROL of TYRE 5 with the ID 4A3107H: kind 4, table 3, index 5; two padding words. -/
theorem test_parse_enrol :
    Link.parse [0b000100_011_00101_00, 0x004A, 0x3107, 0, 0] 0 = .enrol 3 5 0x4A 0x3107 := by decide

/-- EXERCISE of CHANNEL 2, VENT for 500 ms: kind 9, table 4, index 2; action code 2 in bits 15 to 14. -/
theorem test_parse_exercise :
    Link.parse [0b001001_100_00010_00, 0b10_00000111110100] 0 = .exercise 4 2 0x81F4 := by decide

/-- SET_ATTENTION with all six enables: kind 14. -/
theorem test_parse_setAttention :
    Link.parse [0b001110_000_00000_00, 0b111111] 0 = .setAttention 0 63 := by decide

/-- GO_ACTIVE is kind 10; a kind above 14 is unknown; its index is kept. -/
theorem test_parse_goActive_and_unknown :
    Link.parse [0b001010_000_00000_00] 0 = .goActive 0
      ∧ Link.parse [0b111111_000_11111_00] 0 = .unknownRequest 63 31 := by decide

/-- R165: a missing argument word, a padding word that is not 0, a left-over clock, and no clock. -/
theorem test_parse_frame_errors :
    Link.parse [0b000011_001_00001_00, 16] 0 = .frameError (some 0b000011_001_00001_00)
      ∧ Link.parse [0, 1] 0 = .frameError (some 0)
      ∧ Link.parse [] 3 = .frameError none
      ∧ Link.parse [] 0 = .emptyTransaction := by decide

/-! ### Worked examples of the manual -/

/-- Section 2.2, "Some conversions at a glance", and the band edges of R20. -/
theorem test_conversions :
    [118, 300, 592, 921, 101, 922, 50, 973].map (fun r => pressureOfRaw (BitVec.ofNat 10 r))
      = [some 19, some 241, some 598, some 1000, some 0, some 1000, none, none] := by decide

/-- Section 2.9: the supply condition over scans of 570, 560, 593 and 594. -/
theorem test_supply_dip :
    supplyLowAfter false (supplyOfRaw 570) = false ∧ supplyLowAfter false (supplyOfRaw 560) = true
      ∧ supplyLowAfter true (supplyOfRaw 593) = true
      ∧ supplyLowAfter true (supplyOfRaw 594) = false := by decide

/-- Section 3.2: eight edges 10,080 µs apart give 2222; one edge 28,800 µs after the last gives 111; no
edge for 38,000 µs gives 84. -/
theorem test_wheel_speeds :
    (windowSpeed { freshWheel true 0 with edgeCount := 8, firstEdge := 1000, lastEdge := 11080 }
        12000).1 = 2222
      ∧ windowSpeed { freshWheel true 0 with
          edgeCount := 1, firstEdge := 29800, lastEdge := 29800, lastEdgeTime := some 1000 } 30000
        = (111, some 29800)
      ∧ windowSpeed { freshWheel true 0 with speed := 111, lastEdgeTime := some 1000 } 39000
        = (84, some 1000) := by decide

/-- Section 4.3: the four-point curve of axle 1 at 330 and 400, with the load fractions. -/
theorem test_curve :
    curveLoad [⟨0, 180⟩, ⟨200, 420⟩, ⟨400, 700⟩, ⟨600, 900⟩] 330 = 602
      ∧ curveLoad [⟨0, 180⟩, ⟨200, 420⟩, ⟨400, 700⟩, ⟨600, 900⟩] 400 = 700
      ∧ loadFractionOf 602 180 900 = 600 ∧ loadFractionOf 700 180 900 = 739 := by decide

/-- Section 5.7: fractions 512 and 199 give gains 717 and 529, and at 400 kPa targets 280 and 207. -/
theorem test_targets :
    gainOf 410 1024 512 = 717 ∧ gainOf 410 1024 199 = 529
      ∧ targetOf 400 717 850 = 280 ∧ targetOf 400 529 850 = 207 := by decide

/-- Section 6.6: the loop's actions at 0, 510, 515 and 525 ms. -/
theorem test_loop :
    loopAction 280 40 15 = .apply ∧ loopAction 280 270 15 = .hold
      ∧ loopAction 150 270 15 = .vent ∧ loopAction 300 160 15 = .apply := by decide

/-- Section 7.6: the wheel's wish at 10, 20, 50, 60 and 70 ms. -/
theorem test_wishes :
    wishAfter .free 205 (slipOf 1488 1460) 2000 = .free
      ∧ wishAfter .free 205 (slipOf 1476 1390) 2000 = .release
      ∧ wishAfter .release 205 (slipOf 1440 1275) (-1500) = .hold
      ∧ wishAfter .hold 205 (slipOf 1428 1350) (-2000) = .hold
      ∧ wishAfter .hold 205 (slipOf 1416 1405) (-2000) = .free := by decide

/-- Section 8.10: the raw value 300 and the filtered 259 at 20 ms, and the threshold and alert level. -/
theorem test_rollover_estimate :
    lateralRaw 1800 1817 1783 204 = 300 ∧ lateralFilter 246 300 = 259
      ∧ thresholdOf 450 300 768 = 337 ∧ alertOf 337 = 252 := by decide

/-- Section 9.7: the telegram taken apart, and the same with byte 6 corrupted to 187. -/
theorem test_telegram :
    judgeTelegram [92, 74, 49, 7, 3, 183, 110, 0, 250] 0
        = .valid ⟨0x4A3107, 951, 110, ⟨false, false, false, false⟩, 0⟩
      ∧ judgeTelegram [92, 74, 49, 7, 3, 187, 110, 0, 250] 0 = .checkError := by decide

/-- Section 9.7: P is 850 kPa and T is 60 °C. -/
theorem test_arrival :
    (Arrival.mk 0x4A3107 951 110 ⟨false, false, false, false⟩ 0).gauge = 850
      ∧ (Arrival.mk 0x4A3107 951 110 ⟨false, false, false, false⟩ 0).celsius = 60 := by decide

/-- Section 10.7: the slow puncture at 60, 90, 105, 400 and 460 s. -/
theorem test_slow_puncture :
    levelAfter .noAlarm 800 715 = .lowWarn ∧ rapidAfter false (some ⟨715, 60000⟩) 695 90000 = true
      ∧ levelAfter .lowWarn 800 638 = .lowAlarm ∧ levelAfter .lowAlarm 800 645 = .lowAlarm
      ∧ levelAfter .lowAlarm 800 800 = .noAlarm
      ∧ rapidAfter true (some ⟨645, 400000⟩) 800 460000 = false := by decide

/-- R51: at the scan completion at which a bellows fault begins anew, the frozen value is that scan's. -/
theorem test_frozen_value_follows_a_new_fault :
    let frozenAt := fun (latched : Bool) =>
      let s := State.reset.setAxle 0 { State.reset.axles[0] with frozen := some 300 }
      let t := publishBellows 0 { s with
        faults := { s.faults with bellows := s.faults.bellows.set 0 ⟨false, latched⟩ }
        analog := { s.analog with bellows := s.analog.bellows.set 0 ⟨600, true, 0⟩ } }
      (t.axles[0].filtered (bellowsFaulty t 0)).frozen
    frozenAt false = some 600 ∧ frozenAt true = some 300 := by decide +kernel

/-- R65: B_DOWN completes a lowering, but not while the axle has a bellows fault. -/
theorem test_lowering_waits_out_a_bellows_fault :
    let s := State.reset.setAxle 1 { State.reset.axles[1] with
      liftable := true, liftState := .lowering, bellowsFiltered := 500 }
    (liftScan s).axles[1].liftState = .down
      ∧ (liftScan { s with faults := { s.faults with
          bellows := s.faults.bellows.set 1 ⟨false, true⟩ } }).axles[1].liftState = .lowering := by
  decide +kernel

/-- R164, R166: word 12 of a transaction is zeros where the link serves it and ones where it does not. -/
theorem test_output_word_twelve :
    State.reset.link.outputWord 12 = 0xFFFF
      ∧ (beginTransaction { State.reset with
          device := { State.reset.device with state := .standby } }).link.outputWord 12 = 0 := by
  decide +kernel

/-! ### Small states for the witnesses -/

/-- Layout 0 (two axles, two channels) in ACTIVE, every channel in ELECTRONIC. -/
def active : State := { State.reset with
  device := { State.reset.device with state := .active, initTimer := none }
  channels := State.reset.channels.map fun c => { c with state := .electronic } }

/-- The same in STANDBY, every channel in FALLBACK. -/
def standby : State := { State.reset with
  device := { State.reset.device with state := .standby, initTimer := none }
  channels := State.reset.channels.map fun c =>
    { c with state := .fallback, reason := .notActive } }

/-- SELECT low in a transaction that the link serves. -/
def served (s : State) : State := { s with link := { s.link with select := .serving } }

/-- Axle 1 liftable, in a lift state. -/
def lifting (x : LiftState) (s : State) : State :=
  s.setAxle 1 { s.axles[1] with liftable := true, liftState := x }

/-- The part held by the logic supply. -/
def heldLow : State := { State.reset with device := { State.reset.device with supplyFail := true } }

/-- The part held by the RESET line. -/
def heldLine : State := { State.reset with device := { State.reset.device with resetLow := true } }

/-- The monitor in a state, at V = 556 cm/s, with axle 0 able to estimate. -/
def watching (x : RolloverState) : State :=
  { (active.setWheel 0 { active.wheels[0] with valid := true, bearing := true }).setWheel 1
      { active.wheels[1] with valid := true, bearing := true } with
    device := { active.device with referenceSpeed := 556 }
    rollover := { active.rollover with state := x } }

/-- Readings of one scan: every input in span, the supply at 22,400 mV. -/
def readings : ScanInputs :=
  ⟨300, 700, Vector.replicate 4 118, Vector.replicate 4 300, 700, 0⟩

/-- Position 2 in a state, with an ID if it is paired. -/
def tyreAt (x : TyreState) (id : Option SensorId) (s : State) : State :=
  s.setTyre 2 { s.tyres[2] with state := x, id := id, learnTimer := some 5 }

/-- A channel 0 with an anti-lock state, cap and timer. -/
def locked (x : AntiLockState) (s : State) : State :=
  s.setChannel 0 { s.channels[0] with
    antiLock := x, cap := some 100, holdTimer := some 5, stepTimer := some 5, target := 300 }

/-! ### Witnesses: the hypotheses of each obligation are met -/

/-! One at a time: each of these runs in the kernel, and many at once ask for a stack each. -/

set_option Elab.async false

theorem witness_HeldOrUnservedCommandsAreNotTaken :
    held heldLow = true ∧ held heldLine = true
      ∧ (heldLow.device.supplyFail = true ∧ heldLow.device.resetLow = false)
      ∧ (heldLine.device.resetLow = true ∧ heldLine.device.supplyFail = false)
      ∧ (let s := { heldLow with device := { heldLow.device with resetLow := true } }
         held s = true ∧ s.device.supplyFail = true ∧ s.device.resetLow = true)
      ∧ (Link.encode (.nop 0)).isSome = true
      ∧ { State.reset.link with select := .unserved }.select = .unserved
      ∧ ((served State.reset).link.select = .serving ∧ (served State.reset).device.state = .init)
      ∧ State.reset.link.select = .high := by decide +kernel

theorem witness_ResetLaw_of_HeldOrUnservedCommandsAreNotTaken :
    let s := { heldLow with device := { heldLow.device with initTimer := none } }
    held s = true ∧ ResetLaw s := by
  unfold ResetLaw; decide +kernel

theorem witness_RequestWordsParse :
    (Instr.amend 1 3 16 1000).wellFormed = true
      ∧ Link.encode (.amend 1 3 16 1000) = some [Link.header 3 1 3 0, 16, 1000]
      ∧ [Link.header 3 1 3 0, 16, (1000 : Word)].length + 13 ≤ 16 := by decide +kernel

/-- Sixteen words and seventeen, one word too few, and a padding word that is not 0. -/
theorem witness_FrameErrorIffMalformed :
    Link.parse (List.replicate 16 0) 0 = .nop 0
      ∧ Link.parse (List.replicate 17 0) 0 = .frameError (some 0)
      ∧ Link.parse [Link.header 4 3 5 0, 0x4A] 0 = .frameError (some (Link.header 4 3 5 0))
      ∧ Link.parse [0, 0, 1] 0 = .frameError (some 0) ∧ Link.parse [] 1 = .frameError none := by
  decide +kernel

theorem witness_FullResetLeavesDefaults : Running State.reset := by decide +kernel

theorem witness_ResetCausesHoldAndRelease :
    State.reset.device.supplyFail = false ∧ State.reset.device.resetLow = false
      ∧ held heldLow = true
      ∧ (heldLow.device.supplyFail = true ∧ heldLow.device.resetLow = false)
      ∧ (heldLine.device.resetLow = true ∧ heldLine.device.supplyFail = false)
      ∧ Running State.reset := by decide +kernel

theorem witness_InitTimerExpiryEntersStandby :
    Running State.reset ∧ State.reset.device.state = .init
      ∧ State.reset.device.initTimer.isSome = true
      ∧ (∀ o : Fin 13, State.reset.outputs[o].energised = false)
      ∧ (∀ c : Fin 4, State.reset.channels[c].present = true → State.reset.channels[c].state = .off)
      ∧ State.reset.channels[0].present = true := by decide +kernel

theorem witness_SoftResetKeepsConfiguration :
    Served (served standby) ∧ (served standby).channels[0].present = true
      ∧ (served standby).axles[2].present = false ∧ (served standby).wheels[4].present = false
      ∧ (served standby).tyres[8].present = false
      ∧ (served standby).channels[2].present = false := by decide +kernel

theorem witness_RestartedMarkIsSetByResetsAndAcknowledged :
    Running State.reset ∧ (heldLow.device.supplyFail = true ∧ heldLow.device.resetLow = false)
      ∧ (heldLine.device.resetLow = true ∧ heldLine.device.supplyFail = false)
      ∧ Served (served active) := by decide +kernel

theorem witness_FailsafeLineDropsOutputs :
    Running (lifting .up active) ∧ liftAxle (lifting .up active) = some 1
      ∧ (lifting .up active).channels[0].state ≠ .off := by decide +kernel

theorem witness_ScanRunsBlocksInOrder :
    Running active ∧ active.analog.scanTimer.isSome = true
      ∧ (Instr.scanCompletion readings allScanAgents.reverse).wellFormed = true := by
  refine ⟨by decide +kernel, by decide +kernel, by simp only [Instr.wellFormed]; decide +kernel⟩

theorem witness_ScanPublishesReadings :
    Running active ∧ active.analog.scanTimer.isSome = true ∧ active.channels[0].present = true
      ∧ active.channels[2].present = false ∧ active.axles[1].present = true
      ∧ active.axles[2].present = false := by decide +kernel

theorem witness_ScanReportsSensorsAndSupply :
    Running active ∧ active.analog.scanTimer.isSome = true
      ∧ active.device.faultMask.getLsbD 9 = false
      ∧ (562 : Raw).toNat * 32 < 18000 ∧ 18000 ≤ (563 : Raw).toNat * 32
      ∧ (593 : Raw).toNat * 32 < 19000 ∧ 19000 ≤ (594 : Raw).toNat * 32 := by decide +kernel

theorem witness_ScanLeavesOtherStateAlone :
    Running active
      ∧ Running { active with device := { active.device with state := .waitRelease } } := by
  decide +kernel

theorem witness_LoadUnitFiltersHoldsAndWeighs :
    active.axles[0].present = true ∧ active.axles[3].present = false
      ∧ active.axles[0].curve ≠ [] ∧ (0 : Nat) ≤ (active.axles[0].curve.getD 0 ⟨0, 0⟩).bellows
      ∧ (active.axles[0].curve.getD 0 ⟨0, 0⟩).bellows < 600
      ∧ (active.axles[0].curve.getD 1 ⟨0, 0⟩).bellows ≤ 600
      ∧ (active.axles[0].curve.getD 0 ⟨0, 0⟩).bellows ≤ 599
      ∧ 599 < (active.axles[0].curve.getD 1 ⟨0, 0⟩).bellows := by decide +kernel

theorem witness_LiftAxleAtScan :
    liftAxle active = none ∧ liftAxle (lifting .down active) = some 1 ∧ liftAxle (lifting .raising active) = some 1
      ∧ liftAxle (lifting .up active) = some 1 ∧ liftAxle (lifting .lowering active) = some 1 := by
  decide +kernel

theorem witness_ServiceTargetsAtScan :
    active.channels[0].present = true ∧ active.channels[3].present = false := by decide +kernel

/-- An output that goes off, one that goes on, and the three outputs of channel 0. -/
theorem witness_ValveActionDrivesSolenoids :
    let s := requestAction 0 .apply active
    s.outputs[inletOf 0].energised = false ∧ active.channels[0].gapTimer.isSome = true
      ∧ active.outputs[backupOf 0].energised = false
      ∧ s.outputs[backupOf 0].energised = true
      ∧ (requestAction 0 .allOff s).outputs[backupOf 0].energised = false := by decide +kernel

theorem witness_PressureLoopAtScan : active.channels[1].present = true := by decide +kernel

theorem witness_FallbackReasonIsTheFirstThatHolds :
    standby.channels[0].present = true ∧ fallbackReason standby 0 ≠ .noReason
      ∧ fallbackReason { active with device := { active.device with failsafe := true } } 1
        ≠ .noReason := by decide +kernel

theorem witness_CoilChecksBrakingEdgesAndWaitRelease :
    active.channels[0].present = true ∧ active.channels[0].state = .electronic
      ∧ (valveDriverScan 1 (active.setOutput 0 ⟨true, true, none, true, 2⟩)).faults.valveOpen[0].latched
        = true := by decide +kernel

theorem witness_DriverTimersAndShortCircuit :
    active.channels[0].gapTimer.isSome = true ∧ Running active
      ∧ (active.setOutput 12 ⟨true, true, some 6000, false, 0⟩).outputs[12].blanking.isSome = true
      ∧ (active.setOutput 12 ⟨true, true, some 6000, false, 0⟩).outputs[12].energised = true
      ∧ active.device.faultMask.getLsbD 1 = false := by decide +kernel

theorem witness_WheelEdgesAndSampleSetOrder :
    Running active ∧ active.capture.windowTimer.isSome = true := by decide +kernel

/-- The windows of R32, R33 and R34, the last at both sides of 250 ms. -/
theorem witness_WheelSpeedsAtSampleSet :
    Running active ∧ active.capture.windowTimer.isSome = true
      ∧ active.wheels[0].present = true ∧ active.wheels[7].present = false
      ∧ active.wheels[0].edgeCount = 0 ∧ active.wheels[0].lastEdgeTime = none
      ∧ (let x := { active.wheels[0] with edgeCount := 1, lastEdge := 30, lastEdgeTime := some 20 }
         x.edgeCount = 1 ∧ x.lastEdgeTime ≠ none ∧ x.lastEdgeTime.getD 0 ≠ x.lastEdge)
      ∧ 250000 ≤ ((250020 : Stamp) - 20).toNat ∧ ((250019 : Stamp) - 20).toNat < 250000 := by decide +kernel

theorem witness_SensorStateAndValidity :
    Running active ∧ active.capture.windowTimer.isSome = true
      ∧ active.wheels[3].present = true ∧ active.wheels[4].present = false := by decide +kernel

/-- In each mode, and with the loss count at both sides of its bound. -/
theorem witness_ReferenceSpeedFollowsValidWheels :
    let s := fun n => { active with capture := { active.capture with mode := .holding, lostCount := n } }
    Running active ∧ active.capture.windowTimer.isSome = true ∧ active.capture.mode = .seeking
      ∧ Running (s 48) ∧ (s 48).capture.windowTimer.isSome = true ∧ (48 + 1 < 50) ∧ 50 ≤ 49 + 1 := by
  decide +kernel

theorem witness_SlipDecelerationAndWish :
    Running active ∧ active.capture.windowTimer.isSome = true ∧ active.wheels[0].present = true := by
  decide +kernel

/-- A channel whose anti-lock state runs, and one whose state does not. -/
theorem witness_AntiLockStepsAtSampleSet :
    let s := { watching .monitor with
      device := { (watching .monitor).device with braking := true, referenceSpeed := 150 } }
    s.channels[0].present = true ∧ s.device.state = .active ∧ s.device.braking = true
      ∧ (s.wheels[0].present && s.wheels[0].valid && s.wheels[0].channel == s.wheels[0].channel) = true
      ∧ active.device.braking = false ∧ active.channels[3].present = false
      ∧ Running s ∧ s.capture.windowTimer.isSome = true := by decide +kernel

theorem witness_HoldAndStepTimersExpire :
    Running (locked .hold active)
      ∧ ((locked .hold active).channels[0].holdTimer.isSome = true
        ∧ (locked .hold active).channels[0].antiLock = .hold)
      ∧ ((locked .reapply active).channels[0].stepTimer.isSome = true
        ∧ (locked .reapply active).channels[0].antiLock = .reapply)
      ∧ active.channels[0].holdTimer = none ∧ active.channels[0].stepTimer = none := by decide +kernel

/-- Out of control, slow at 555, degraded without valid wheel-ends at 556, and neither at 556. -/
theorem witness_RolloverStandsDown :
    (standby.device.state ≠ .active ∧ standby.device.state ≠ .waitRelease)
      ∧ degradedCondition active = true ∧ (watching .monitor).rollover.state ≠ .off
      ∧ degradedCondition (watching .degraded) = false
      ∧ (watching .degraded).rollover.state = .degraded
      ∧ ¬(watching .monitor).device.referenceSpeed < 556 := by decide +kernel

theorem witness_RolloverEstimatesLateralAcceleration :
    (watching .off).device.state = .active ∧ 556 ≤ (watching .off).device.referenceSpeed
      ∧ degradedCondition (watching .off) = false := by decide +kernel

theorem witness_RolloverWatchesAndTests :
    (watching .test).device.state = .active ∧ 556 ≤ (watching .test).device.referenceSpeed
      ∧ degradedCondition (watching .test) = false ∧ (watching .test).rollover.state ≠ .intervene
      ∧ (watching .test).rollover.state ≠ .recover
      ∧ degradedCondition (watching .alert) = false := by decide +kernel

theorem witness_RolloverIntervenesAndRecovers :
    (watching .intervene).device.state = .active
      ∧ (watching .intervene).rollover.state = .intervene
      ∧ (watching .recover).rollover.state = .recover := by decide +kernel

/-- The ramp at request levels 50 and 51. -/
theorem witness_RolloverTimersExpire :
    let s := { watching .test with rollover := { (watching .test).rollover with testTimer := some 5 } }
    let t := { watching .recover with
      rollover := { (watching .recover).rollover with rampTimer := some 5, level := 51 } }
    Running s ∧ s.rollover.testTimer.isSome = true ∧ s.rollover.state = .test
      ∧ Running t ∧ t.rollover.rampTimer.isSome = true ∧ t.rollover.state = .recover
      ∧ 50 < t.rollover.level ∧ t.rollover.level - 50 ≤ 50 := by decide +kernel

theorem witness_LiftAndChannelTimersExpire :
    let s := { lifting .raising active with lift := ⟨some 5, some 5, 0⟩ }
    let t := { lifting .lowering active with lift := ⟨none, some 5, 0⟩ }
    let u := active.setChannel 0 { active.channels[0] with
      state := .supplyWait, supplyTimer := some 5 }
    let v := active.setChannel 0 { active.channels[0] with
      state := .exercise, exerciseTimer := some 5 }
    (Running s ∧ s.lift.raiseTimer.isSome = true ∧ liftAxle s = some 1
        ∧ s.axles[1].liftState = .raising)
      ∧ (Running t ∧ t.lift.loweringTimer.isSome = true ∧ liftAxle t = some 1
        ∧ t.axles[1].liftState = .lowering)
      ∧ (Running u ∧ u.channels[0].supplyTimer.isSome = true ∧ u.channels[0].state = .supplyWait)
      ∧ (Running v ∧ v.channels[0].exerciseTimer.isSome = true
        ∧ v.channels[0].state = .exercise) := by decide +kernel

theorem witness_ReceiveLineEvents :
    let s := { active with receiver := { active.receiver with
      startPending := true, spacing := true, jamTimer := some 5, markTimer := some 5
      gapTimer := some 5 } }
    Running s ∧ s.receiver.startPending = true ∧ s.receiver.spacing = true
      ∧ s.receiver.jamTimer.isSome = true ∧ s.receiver.markTimer.isSome = true
      ∧ s.receiver.gapTimer.isSome = true := by decide +kernel

theorem witness_CharactersAndTelegramsAreJudged :
    let s := { active with receiver := { active.receiver with
      character := some .noParity, collected := [92, 74, 49, 7, 3, 183, 110, 0] } }
    Running s ∧ s.receiver.character = some .noParity
      ∧ s.receiver.collected = [92, 74, 49, 7, 3, 183, 110, 0] := by decide +kernel

/-- A paired position, and a position that is LEARNING while nothing is paired. -/
theorem witness_ArrivalsUpdateTyreRecords :
    (let s := tyreAt .live (some 5) active
     s.tyres[2].present = true ∧ s.tyres[2].state = .live ∧ s.tyres[2].id = some 5)
      ∧ pairedPosition (tyreAt .learning none active) 5 = none
      ∧ learningPosition (tyreAt .learning none active) = some 2 := by decide +kernel

theorem witness_CandidateListTakesArrivals :
    (∀ p : Fin 16, active.tyres[p].present = true →
        active.tyres[p].state ≠ .learning ∧ active.tyres[p].id ≠ some 5)
      ∧ (let s := tyreAt .learning none active
         let a : Arrival := ⟨5, 801, 70, ⟨true, false, false, false⟩, 0⟩
         s.tyres[2].state = .learning ∧ (∀ p : Fin 16, s.tyres[p].id ≠ some 5)
          ∧ a.flags.learnTrigger = false
          ∧ ∀ k ∈ [Candidate.mk 5 1 739 none ⟨false, false, false, false⟩ 0],
              k.lastGauge < a.pAbs - 101 + 40)
      ∧ active.supervisor.candidates.any (fun k => k.id == 5) = false
      ∧ [Candidate.mk 5 1 800 none ⟨false, false, false, false⟩ 0].any (fun k => k.id == 5)
        = true := by decide +kernel

/-- The learning position is the lowest that learns. -/
theorem witness_AgingAndLearnTimeout :
    let s := tyreAt .learning none active
    Running s ∧ s.supervisor.agingTimer.isSome = true ∧ s.tyres[2].present = true
      ∧ s.tyres[2].state = .learning ∧ s.tyres[2].learnTimer.isSome = true
      ∧ ∀ q < (2 : Fin 16), ¬(s.tyres[q].present = true ∧ s.tyres[q].state = .learning) := by decide +kernel

theorem witness_SelectFramesTransactions :
    (Running standby ∧ standby.device.state ≠ .init) ∧ State.reset.device.state = .init
      ∧ ¬Running heldLow ∧ { State.reset.link with select := .unserved }.select = .unserved
      ∧ (served standby).link.select = .serving ∧ Served (served standby) := by decide +kernel

/-- An existing record, an absent one, the first index beyond a range, and table 7. -/
theorem witness_LookupsAnswerRecords :
    Served (served active)
      ∧ recordExists (served active) (.axle 1) = true
      ∧ recordExists (served active) (.axle 2) = false
      ∧ [1, 4, 8, 16, 4, 8, 1].getD 1 0 ≤ (4 : BitVec 5).toNat
      ∧ [1, 4, 8, 16, 4, 8, 1].getD 7 0 ≤ (0 : BitVec 5).toNat
      ∧ nextRecord (served active) .device 0 = some (0, .device)
      ∧ (∀ k : Fin 8, recordExists (served active) (.candidate k) = false)
      ∧ [Candidate.mk 5 1 739 none ⟨false, false, false, false⟩ 0][(0 : Fin 8).val]?
        = some ⟨5, 1, 739, none, ⟨false, false, false, false⟩, 0⟩ := by decide +kernel

/-- The named record, a field of each class in STANDBY and elsewhere, a bad value and a structural block. -/
theorem witness_AmendChecksInOrder :
    Served (served standby) ∧ (served standby).device.state = .standby
      ∧ (served active).device.state ≠ .standby
      ∧ ((RecordId.axle 1).table.code = (1 : BitVec 3).toNat
        ∧ (RecordId.axle 1).index = (1 : BitVec 5).toNat)
      ∧ recordExists (served standby) (.axle 1) = true
      ∧ recordExists (served standby) (.axle 2) = false
      ∧ (lifting .lowering (served standby)).axles[1].liftable = true
      ∧ (lifting .lowering (served standby)).axles[1].liftState ≠ .down
      ∧ (1 : Nat) < (2 : Word).toNat := by decide +kernel

/-- A curve point below the count, an any-state setting in ACTIVE, values for the structural fields, and a
mask with the channels it needs. -/
theorem witness_AmendStoresSettings :
    Served (served standby) ∧ (served standby).device.state = .standby
      ∧ (16 - 16) / 2 < (served standby).axles[0].curve.length
      ∧ Served (served active) ∧ (served active).device.state = .active
      ∧ recordExists (served active) (.channel 0) = true
      ∧ (served active).axles[1].present = true ∧ (served active).wheels[0].present = true
      ∧ (served active).channels[0].present = true
      ∧ (served standby).axles[1].twin ≠ false
      ∧ (∀ p : Fin 16, (served standby).tyres[p].state = .unpaired)
      ∧ (∀ b : Fin 4, (served standby).axles[b].liftable = false)
      ∧ ((lifting .down (served standby)).axles[1].liftable = true
        ∧ (lifting .down (served standby)).axles[1].liftState = .down)
      ∧ (0x0DFD : Word) &&& 0xF202 = 0
      ∧ (∀ o : Fin 13, (served standby).outputs[o].energised = false)
      ∧ (∀ c : Fin 4, (served standby).channels[c].present = true →
        (served standby).channels[c].state = .fallback)
      ∧ (served standby).channels[0].present = true
      ∧ (served standby).channels[2].present = false := by decide +kernel

theorem witness_EnrolChecksInOrder :
    Served (served active) ∧ (served active).tyres[2].present = true
      ∧ (served active).tyres[8].present = false
      ∧ (served active).tyres[2].state = .unpaired
      ∧ (tyreAt .learning none (served active)).tyres[2].state = .learning
      ∧ (tyreAt .missing (some 0x4A3107) (served active)).tyres[2].state = .missing
      ∧ BitVec.ofNat 24 ((0x4A : Word).toNat * 65536 + (0x3107 : Word).toNat) = 0x4A3107
      ∧ (tyreAt .missing (some 0x4A3107) (served active)).tyres[2].id = some 0x4A3107
      ∧ (255 : Nat) < (256 : Word).toNat := by decide +kernel

theorem witness_RetireAndLearn :
    Served (served active) ∧ (served active).tyres[7].present = true
      ∧ (served active).tyres[8].present = false ∧ (served active).tyres[7].state = .unpaired
      ∧ (tyreAt .live (some 5) (served active)).tyres[2].state = .live
      ∧ (tyreAt .learning none (served active)).tyres[2].state = .learning := by decide +kernel

theorem witness_CancelLearnEndsLearning :
    let s := tyreAt .learning none (served active)
    Served s ∧ s.tyres[2].present = true ∧ s.tyres[2].state = .learning
      ∧ (∀ q < (2 : Fin 16), ¬(s.tyres[q].present = true ∧ s.tyres[q].state = .learning))
      ∧ ∀ q : Fin 16, ¬((served active).tyres[q].present = true
        ∧ (served active).tyres[q].state = .learning) := by decide +kernel

/-- Codes 2 and 3, enables 63 and 64. -/
theorem witness_LiftCommandAndSetAttention :
    let s := lifting .down (served active)
    Served s ∧ (s.axles[1].present = true ∧ s.axles[1].liftable = true)
      ∧ (∀ b < (1 : Fin 4), ¬(s.axles[b].present = true ∧ s.axles[b].liftable = true))
      ∧ (2 : Word).toNat ≤ 2 ∧ 2 < (3 : Word).toNat ∧ (63 : Word).toNat ≤ 63
      ∧ 63 < (64 : Word).toNat
      ∧ ∀ b : Fin 4, ¬((served active).axles[b].present = true
        ∧ (served active).axles[b].liftable = true) := by decide +kernel

/-- A channel that is ready, one that is not, codes 2 and 3, and an absent channel. -/
theorem witness_ExerciseChecksInOrder :
    Served (served active)
      ∧ ((served active).device.state = .active ∧ (served active).device.referenceSpeed = 0
        ∧ (served active).device.braking = false ∧ (served active).channels[0].commanded = 0
        ∧ (served active).channels[0].state = .electronic)
      ∧ (served standby).device.state ≠ .active
      ∧ (0x81F4 : Word).toNat / 16384 = 2 ∧ (0xC000 : Word).toNat / 16384 = 3
      ∧ (served active).channels[2].present = false := by decide +kernel

/-- A configuration that is complete, one that is not, and the states of the device. -/
theorem witness_DeviceStateRequests :
    Served (served active) ∧ Served (served standby) ∧ (served active).device.state = .active
      ∧ (∀ a : Fin 4, axleIncomplete (served standby).axles[a] = none)
      ∧ (∀ c : Fin 4, (served standby).channels[c].gEmpty ≤ (served standby).channels[c].gLaden)
      ∧ axleIncomplete { (served standby).axles[0] with l1 := 229 } = some 4
      ∧ channelIncomplete { (served standby).channels[0] with gEmpty := 1024, gLaden := 1023 }
        = some 5
      ∧ (served active).channels[0].commanded = 0 := by decide +kernel

theorem witness_ArbiterLaw_of_DeviceStateRequests : ArbiterLaw (served active) := by
  unfold ArbiterLaw; decide +kernel

theorem witness_AckFaultsClearsAbsentMarks : Served (served active) := by decide +kernel

/-! The laws' premises at State.reset, and a step from it. -/

theorem witness_ResetAndValveLawsKept : ResetLaw State.reset ∧ ValveLaw State.reset := by
  unfold ResetLaw ValveLaw; decide +kernel

theorem witness_ArbiterAndAntiLockLawsKept : ArbiterLaw active ∧ AntiLockLaw active := by
  unfold ArbiterLaw AntiLockLaw; decide +kernel

theorem witness_TyreLawKept : TyreLaw active := by
  refine ⟨?_, ?_, ?_, ?_, ?_, ?_⟩ <;> decide +kernel

theorem witness_ResetAndLiftLawsKept : ResetLaw active ∧ LiftLaw active := by
  refine ⟨by unfold ResetLaw; decide +kernel, ?_, ?_, ?_, ?_⟩ <;> decide +kernel

theorem witness_ResetAndRolloverLawsKept : ResetLaw active ∧ RolloverLaw active := by
  unfold ResetLaw RolloverLaw
  refine ⟨by decide +kernel, by decide +kernel, by decide +kernel, by decide +kernel⟩

theorem witness_FaultAndLinkLawsKept : FaultLaw State.reset ∧ LinkLaw State.reset := by
  refine ⟨?_, by unfold LinkLaw; decide +kernel⟩
  intro f
  cases f <;> simp [State.reset, FaultSet.get, clearFaults, clearMark, freshDevice]

theorem witness_SettingsAndRangesKept : SettingsLaw active ∧ RangeLaw active := by
  unfold SettingsLaw RangeLaw Within
  refine ⟨⟨?_, ?_, ?_, ?_, ?_, ?_, ?_, ?_, ?_, ?_, ?_, ?_, ?_⟩, ⟨?_, ?_, ?_, ?_, ?_⟩⟩ <;>
    decide +kernel

theorem witness_step_from_a_lawful_state :
    ∃ t, step { active with pending := [.wheelEdge 0 100] } = .next t
      ∧ t.wheels[0].edgeCount = 1 := ⟨_, rfl, by decide +kernel⟩

end Sys2Proof.Tests
end

section
/-! Proofs about the modulator channels (chapter 6): the arbiter, and the EXERCISE request with the rules
for a valve action that it rests on. -/

namespace Sys2Proof.Machine

/-! ### The arbiter -/

theorem AntiLockState.capped_iff (m : AntiLockState) :
    m.capped = true ↔ m = .release ∨ m = .hold ∨ m = .reapply := by
  cases m <;> simp [AntiLockState.capped]

/-- R80 steps 1 to 3. -/
theorem Channel.command_eq (x : Channel) :
    x.command =
      min (if x.antiLock = .release ∨ x.antiLock = .hold ∨ x.antiLock = .reapply then
          min (max x.target x.rolloverRequest) (x.cap.getD 0)
        else max x.target x.rolloverRequest) x.pLim := by
  simp only [Channel.command, Channel.capApplied, Channel.uncapped, AntiLockState.capped_iff]

/-- R80: the rows of the winning source, in their order. -/
theorem Channel.arbiterSource_eq (x : Channel) :
    x.arbiterSource =
      if (x.antiLock = .release ∨ x.antiLock = .hold ∨ x.antiLock = .reapply)
          ∧ x.cap.getD 0 < max x.target x.rolloverRequest then .antilock
      else if x.command = 0 then .noSource
      else if x.target < x.rolloverRequest then .rollover
      else .service := by
  simp only [Channel.arbiterSource, Channel.uncapped, AntiLockState.capped_iff]

/-- Settles O18: the command and the source are R80's, row by row. -/
theorem arbiterTakesTheLargestAndCaps : Obligations.ArbiterTakesTheLargestAndCaps := by
  intro x
  simp only [Channel.arbitrate, Channel.arbiterSource_eq, Channel.command_eq]

/-! ### Requests for outputs -/

/-- A note leaves the request as it was made, whether or not the output goes off. -/
@[simp] theorem noteRequest_requested_self (o : Fin 13) (on : Bool) (s : State) :
    (noteRequest o on s).outputs[o].requested = on := by
  cases on with
  | true => simp [noteRequest]
  | false =>
    have off := (deenergise_self o (s.setOutput o { s.outputs[o] with requested := false })).2
    rw [State.setOutput_get_self] at off
    exact off

@[simp] theorem noteRequest_link (o : Fin 13) (on : Bool) (s : State) :
    (noteRequest o on s).link = s.link := by
  cases on <;> simp [noteRequest]

/-- Energising an output changes no request. -/
theorem energise_requested (o o' : Fin 13) (s : State) :
    (energise o s).outputs[o'].requested = s.outputs[o'].requested := by
  by_cases h : o' = o
  · subst h
    exact (energise_self o' s).2
  · rw [energise_other h]

/-! ### Serving a channel's held requests -/

/-- What serving a channel's held requests keeps: the channels, the link and every request. -/
structure ServedOnly (s t : State) : Prop where
  channels : t.channels = s.channels
  link : t.link = s.link
  requested : ∀ o : Fin 13, t.outputs[o].requested = s.outputs[o].requested

theorem ServedOnly.refl (s : State) : ServedOnly s s := ⟨rfl, rfl, fun _ => rfl⟩

theorem ServedOnly.trans {s t u : State} (a : ServedOnly s t) (b : ServedOnly t u) : ServedOnly s u :=
  ⟨b.channels.trans a.channels, b.link.trans a.link, fun o => (b.requested o).trans (a.requested o)⟩

theorem energise_servedOnly (o : Fin 13) (s : State) : ServedOnly s (energise o s) :=
  ⟨energise_channels o s, energise_link o s, fun o' => energise_requested o o' s⟩

theorem serveInlet_servedOnly (c : Fin 4) (s : State) : ServedOnly s (serveInlet c s) := by
  unfold serveInlet
  split
  · exact energise_servedOnly _ _
  · exact ServedOnly.refl s

theorem serveExhaust_servedOnly (c : Fin 4) (s : State) : ServedOnly s (serveExhaust c s) := by
  unfold serveExhaust
  split
  · exact energise_servedOnly _ _
  · exact ServedOnly.refl s

theorem serveBackup_servedOnly (c : Fin 4) (s : State) : ServedOnly s (serveBackup c s) := by
  unfold serveBackup
  split
  · exact energise_servedOnly _ _
  · exact ServedOnly.refl s

theorem serveAll_servedOnly (c : Fin 4) (s : State) :
    ServedOnly s (serveExhaust c (serveInlet c (serveBackup c s))) :=
  ((serveBackup_servedOnly _ _).trans (serveInlet_servedOnly _ _)).trans (serveExhaust_servedOnly _ _)

/-! ### A channel's three solenoids and its changeover gap -/

theorem exhaustOf_ne_inletOf (c : Fin 4) : exhaustOf c ≠ inletOf c := by
  simp [inletOf, exhaustOf]

theorem backupOf_ne_inletOf (c : Fin 4) : backupOf c ≠ inletOf c := by
  simp [inletOf, backupOf]

theorem backupOf_ne_exhaustOf (c : Fin 4) : backupOf c ≠ exhaustOf c := by
  simp [exhaustOf, backupOf]

/-- Of the channels, only channel `c` may differ, and only in its changeover gap. -/
structure GapOnly (c : Fin 4) (s t : State) : Prop where
  other : ∀ d : Fin 4, d ≠ c → t.channels[d] = s.channels[d]
  self : t.channels[c] =
    { s.channels[c] with gapTimer := t.channels[c].gapTimer, gapNote := t.channels[c].gapNote }

theorem GapOnly.of_channels_eq {c : Fin 4} {s t : State} (h : t.channels = s.channels) :
    GapOnly c s t where
  other d _ := by rw [h]
  self := by rw [h]

theorem GapOnly.trans {c : Fin 4} {s t u : State} (a : GapOnly c s t) (b : GapOnly c t u) :
    GapOnly c s u where
  other d h := (b.other d h).trans (a.other d h)
  self := by rw [b.self, a.self]

theorem GapOnly.congr_left {c : Fin 4} {s s' t : State} (h : GapOnly c s' t)
    (same : s'.channels = s.channels) : GapOnly c s t :=
  (GapOnly.of_channels_eq same).trans h

theorem setChannel_gapOnly (c : Fin 4) (timer : Timer) (note : GapNote) (s : State) :
    GapOnly c s (s.setChannel c { s.channels[c] with gapTimer := timer, gapNote := note }) where
  other d h := State.setChannel_get_ne s c d _ h
  self := by rw [State.setChannel_get_self]

theorem startGap_inletOf (c : Fin 4) (s : State) :
    startGap (inletOf c) s = s.setChannel c { s.channels[c] with
      gapTimer := some (s.device.changeoverGap * 1000), gapNote := .inlet } := by
  simp [startGap, inletOf]

theorem startGap_exhaustOf (c : Fin 4) (s : State) :
    startGap (exhaustOf c) s = s.setChannel c { s.channels[c] with
      gapTimer := some (s.device.changeoverGap * 1000), gapNote := .exhaust } := by
  have exhausts : 4 + c.val < 8 := by omega
  simp [startGap, exhaustOf, exhausts]

theorem startGap_backupOf (c : Fin 4) (s : State) : startGap (backupOf c) s = s := by
  have notInlet : ¬8 + c.val < 4 := by omega
  simp [startGap, backupOf, notInlet]

/-- R92: an inlet or an exhaust starts its own channel's gap, and a backup none. -/
theorem startGap_gapOnly {c : Fin 4} {o : Fin 13}
    (h : o = inletOf c ∨ o = exhaustOf c ∨ o = backupOf c) (s : State) :
    GapOnly c s (startGap o s) := by
  obtain rfl | rfl | rfl := h
  · rw [startGap_inletOf]
    exact setChannel_gapOnly c _ _ s
  · rw [startGap_exhaustOf]
    exact setChannel_gapOnly c _ _ s
  · exact .of_channels_eq (by rw [startGap_backupOf])

theorem deenergise_gapOnly {c : Fin 4} {o : Fin 13}
    (h : o = inletOf c ∨ o = exhaustOf c ∨ o = backupOf c) (s : State) :
    GapOnly c s (deenergise o s) := by
  unfold deenergise
  split
  · exact (startGap_gapOnly h _).congr_left rfl
  · exact .of_channels_eq rfl

theorem noteRequest_gapOnly {c : Fin 4} {o : Fin 13}
    (h : o = inletOf c ∨ o = exhaustOf c ∨ o = backupOf c) (on : Bool) (s : State) :
    GapOnly c s (noteRequest o on s) := by
  cases on with
  | true => exact .of_channels_eq rfl
  | false =>
    exact (deenergise_gapOnly h (s.setOutput o { s.outputs[o] with requested := false })).congr_left rfl

/-! ### A valve action -/

/-- Section 6.2: what a channel's three solenoids are asked for by a valve action. -/
theorem requestAction_requested (c : Fin 4) (a : ValveAction) (s : State) :
    (requestAction c a s).outputs[inletOf c].requested = (a == .apply)
      ∧ (requestAction c a s).outputs[exhaustOf c].requested = (a == .vent)
      ∧ (requestAction c a s).outputs[backupOf c].requested = (a != .allOff) := by
  simp only [requestAction, (serveAll_servedOnly _ _).requested]
  refine ⟨?_, ?_, ?_⟩
  · rw [noteRequest_other (backupOf_ne_inletOf c).symm, noteRequest_other (exhaustOf_ne_inletOf c).symm,
      noteRequest_requested_self]
  · rw [noteRequest_other (backupOf_ne_exhaustOf c).symm, noteRequest_requested_self]
  · rw [noteRequest_requested_self]

/-- Section 6.2, R92: of the channels, a valve action writes its own channel's action and gap only. -/
theorem requestAction_gapOnly (c : Fin 4) (a : ValveAction) (s : State) :
    GapOnly c (s.setChannel c { s.channels[c] with action := a }) (requestAction c a s) :=
  (((noteRequest_gapOnly (.inl rfl) _ _).trans (noteRequest_gapOnly (.inr (.inl rfl)) _ _)).trans
    (noteRequest_gapOnly (.inr (.inr rfl)) _ _)).trans
    (.of_channels_eq (serveAll_servedOnly _ _).channels)

/-- A valve action reports conditions absent at most, so the FAULT source stands. -/
@[simp] theorem requestAction_link (c : Fin 4) (a : ValveAction) (s : State) :
    (requestAction c a s).link = s.link := by
  simp [requestAction, (serveAll_servedOnly _ _).link]

/-! ### A served request -/

@[simp] theorem setResponse_link (kind : BitVec 6) (r : Reply) (s : State) :
    (setResponse kind r s).link = { s.link with response := ⟨r.result, kind, r.index, r.data⟩ } := rfl

/-- R167: a served request that its owner refuses leaves the response and nothing else. -/
theorem request_of_refused {kind : BitVec 6} {owner : State → Reply × State} {s : State} {e : Result}
    {index : BitVec 5} (served : Served s)
    (refused : owner (closeTransaction s) = (plainReply e index, closeTransaction s)) :
    request kind owner s = Answered kind ⟨e, index, Vector.replicate 8 0⟩ s := by
  rw [request_of_served served, refused]
  rfl

/-! ### The argument of an EXERCISE -/

/-- R97 step 2: the action stands in bits 15 and 14. -/
theorem ExerciseAction.ofWord_eq (w : Word) :
    ExerciseAction.ofWord w =
      if w.toNat / 16384 = 0 then some .apply
      else if w.toNat / 16384 = 1 then some .hold
      else if w.toNat / 16384 = 2 then some .vent
      else none := by
  have bits : (w.extractLsb' 14 2).toNat = w.toNat / 16384 := by
    have := w.isLt
    simp only [BitVec.extractLsb'_toNat, Nat.shiftRight_eq_div_pow]
    omega
  unfold ExerciseAction.ofWord
  rw [bits]
  split <;> simp_all

/-- The action of a code below 3 (R97 step 2). -/
def ExerciseAction.ofCode (code : Nat) : ExerciseAction :=
  if code = 0 then .apply else if code = 1 then .hold else .vent

theorem ExerciseAction.ofWord_of_lt {w : Word} (h : w.toNat / 16384 < 3) :
    ExerciseAction.ofWord w = some (.ofCode (w.toNat / 16384)) := by
  rw [ExerciseAction.ofWord_eq, ExerciseAction.ofCode]
  grind

theorem ExerciseAction.some_ofCode (code : Nat) :
    some (ExerciseAction.ofCode code) =
      if code = 0 then some .apply else if code = 1 then some .hold else some .vent := by
  simp only [ExerciseAction.ofCode, apply_ite some]

theorem ExerciseAction.valve_ofCode (code : Nat) :
    (ExerciseAction.ofCode code).valve =
      if code = 0 then .apply else if code = 1 then .hold else .vent := by
  rw [ExerciseAction.ofCode, apply_ite ExerciseAction.valve, apply_ite ExerciseAction.valve]
  rfl

theorem ExerciseAction.ofCode_eq_apply_iff (code : Nat) :
    ExerciseAction.ofCode code = .apply ↔ code = 0 := by
  grind [ExerciseAction.ofCode]

theorem ExerciseAction.ofCode_eq_vent_iff {code : Nat} (h : code < 3) :
    ExerciseAction.ofCode code = .vent ↔ code = 2 := by
  grind [ExerciseAction.ofCode]

/-- R97 step 5: the duration stands in bits 13 to 0. -/
theorem exerciseDuration_eq (w : Word) : exerciseDuration w = w.toNat % 16384 := by
  simp [exerciseDuration]

/-! ### The checks of an EXERCISE -/

theorem mayExercise_iff (s : State) (c : Fin 4) :
    mayExercise s c = true ↔ s.device.state = .active ∧ s.device.referenceSpeed = 0
      ∧ s.device.braking = false ∧ s.channels[c].commanded = 0
      ∧ s.channels[c].state = .electronic := by
  simp [mayExercise, and_assoc]

section Checks

variable {table : BitVec 3} {index : BitVec 5} {argument : Word} {c : Fin 4} {s : State}

theorem exerciseOwner_of_outOfRange (h : table ≠ 4 ∨ 4 ≤ index.toNat) :
    exerciseOwner table index argument s = (plainReply .refusedRange index, s) := by
  unfold exerciseOwner
  split
  · next is4 => rw [dif_neg (Nat.not_lt.mpr (h.resolve_left (not_not_intro is4)))]
  · rfl

theorem exerciseOwner_of_absent (is4 : table = 4) (names : index.toNat = c.val)
    (absent : s.channels[c].present = false) :
    exerciseOwner table index argument s = (plainReply .refusedAbsent index, s) := by
  have inRange : index.toNat < 4 := names ▸ c.isLt
  simp_all [exerciseOwner]

theorem exerciseOwner_of_present (is4 : table = 4) (names : index.toNat = c.val)
    (present : s.channels[c].present = true) :
    exerciseOwner table index argument s = exerciseChannel c index argument s := by
  have inRange : index.toNat < 4 := names ▸ c.isLt
  have same : (⟨index.toNat, inRange⟩ : Fin 4) = c := Fin.ext names
  simp_all [exerciseOwner]

theorem exerciseChannel_of_noAction (h : ExerciseAction.ofWord argument = none) :
    exerciseChannel c index argument s = (plainReply .refusedRange index, s) := by
  simp [exerciseChannel, h]

variable {action : ExerciseAction}

theorem exerciseChannel_of_exercising (h : ExerciseAction.ofWord argument = some action)
    (busy : s.channels[c].state = .exercise) :
    exerciseChannel c index argument s = (plainReply .refusedBusy index, s) := by
  simp_all [exerciseChannel]

theorem exerciseChannel_of_notReady (h : ExerciseAction.ofWord argument = some action)
    (idle : s.channels[c].state ≠ .exercise) (notReady : mayExercise s c = false) :
    exerciseChannel c index argument s = (plainReply .refusedState index, s) := by
  simp_all [exerciseChannel]

/-- R97 step 5: the exercise starts with the clamped duration. -/
theorem exerciseChannel_of_ready (h : ExerciseAction.ofWord argument = some action)
    (ready : mayExercise s c = true) :
    exerciseChannel c index argument s =
      (plainReply
          (if clampNat 10 2000 (exerciseDuration argument) = exerciseDuration argument then .done
           else .doneClamped) index,
        startExercise c action (clampNat 10 2000 (exerciseDuration argument)) s) := by
  obtain ⟨-, -, -, -, electronic⟩ := (mayExercise_iff s c).mp ready
  simp_all [exerciseChannel]

end Checks

/-! ### The exercise that starts -/

/-- R98: `t` is `s` with an exercise of channel `c` started; every exercise requests the backup. -/
structure ExerciseStarted (c : Fin 4) (action : ExerciseAction) (ms : Nat) (s t : State) : Prop where
  frame : ValveOnly s t
  link : t.link = s.link
  other : ∀ d : Fin 4, d ≠ c → t.channels[d] = s.channels[d]
  state : t.channels[c].state = .exercise
  winning : t.channels[c].winning = .exercise
  timer : t.channels[c].exerciseTimer = some (ms * 1000)
  exerciseAction : t.channels[c].exerciseAction = some action
  valve : t.channels[c].action = action.valve
  inlet : t.outputs[inletOf c].requested = true ↔ action = .apply
  exhaust : t.outputs[exhaustOf c].requested = true ↔ action = .vent
  backup : t.outputs[backupOf c].requested = true

theorem startExercise_started (c : Fin 4) (action : ExerciseAction) (ms : Nat) (s : State) :
    ExerciseStarted c action ms s (startExercise c action ms s) := by
  unfold startExercise
  generalize exercising : ({ s.channels[c] with
      state := .exercise
      exerciseAction := some action
      exerciseTimer := some (ms * 1000) } : Channel).arbitrate = x
  have gap := requestAction_gapOnly c action.valve (s.setChannel c x)
  obtain ⟨inlet, exhaust, backup⟩ := requestAction_requested c action.valve (s.setChannel c x)
  exact {
    frame := (setChannel_valveOnly _ _ _).trans (requestAction_valveOnly _ _ _)
    link := requestAction_link _ _ _
    other := fun d h => by
      rw [gap.other d h, State.setChannel_get_ne _ _ _ _ h, State.setChannel_get_ne _ _ _ _ h]
    state := by rw [gap.self]; simp [← exercising, Channel.arbitrate]
    winning := by rw [gap.self]; simp [← exercising, Channel.arbitrate]
    timer := by rw [gap.self]; simp [← exercising, Channel.arbitrate]
    exerciseAction := by rw [gap.self]; simp [← exercising, Channel.arbitrate]
    valve := by rw [gap.self, State.setChannel_get_self]
    inlet := by rw [inlet]; cases action <;> decide
    exhaust := by rw [exhaust]; cases action <;> decide
    backup := by rw [backup]; cases action <;> rfl }

/-! ### The EXERCISE request -/

section Request

variable {table : BitVec 3} {index : BitVec 5} {argument : Word} {c : Fin 4} {s : State} {e : Result}

/-- A check that refuses an EXERCISE leaves its response and nothing else. -/
theorem exec_exercise_of_refused (served : Served s)
    (refused : exerciseOwner table index argument (closeTransaction s) =
      (plainReply e index, closeTransaction s)) :
    exec (.exercise table index argument) s = .next
      (Answered 9 ⟨e, index, Vector.replicate 8 0⟩ s) :=
  congrArg _ (request_of_refused served refused)

/-- R97 steps 2 to 4, for a channel that exists. -/
theorem exec_exercise_of_channel_refused (served : Served s)
    (named : table = 4 ∧ index.toNat = c.val ∧ s.channels[c].present = true)
    (refused : exerciseChannel c index argument (closeTransaction s) =
      (plainReply e index, closeTransaction s)) :
    exec (.exercise table index argument) s = .next
      (Answered 9 ⟨e, index, Vector.replicate 8 0⟩ s) := by
  obtain ⟨is4, names, present⟩ := named
  have owner := exerciseOwner_of_present (s := closeTransaction s) (argument := argument)
    is4 names present
  exact exec_exercise_of_refused served (owner.trans refused)

/-- R97 step 5, R98: an EXERCISE that passes every check is answered and starts the exercise. -/
theorem exec_exercise_of_ready {action : ExerciseAction} (served : Served s)
    (named : table = 4 ∧ index.toNat = c.val ∧ s.channels[c].present = true)
    (acts : ExerciseAction.ofWord argument = some action) (ready : mayExercise s c = true) :
    ∃ t, ExerciseStarted c action (clampNat 10 2000 (exerciseDuration argument)) (closeTransaction s) t
      ∧ exec (.exercise table index argument) s = .next (setResponse 9
        (plainReply
          (if clampNat 10 2000 (exerciseDuration argument) = exerciseDuration argument then .done
           else .doneClamped) index) t) := by
  obtain ⟨is4, names, present⟩ := named
  have owner := (exerciseOwner_of_present (s := closeTransaction s) (argument := argument)
    is4 names present).trans (exerciseChannel_of_ready acts ready)
  have taken := request_of_served (kind := 9) (owner := exerciseOwner table index argument) served
  rw [owner] at taken
  exact ⟨_, startExercise_started _ _ _ _, congrArg _ taken⟩

end Request

/-- Settles O50: each check refuses in its turn, and an EXERCISE that passes all of them starts. -/
theorem exerciseChecksInOrder : Obligations.ExerciseChecksInOrder := by
  intro table index argument c s served
  refine ⟨fun outOfRange => ?_, fun is4 names absent => ?_, fun named code3 => ?_,
    fun named code busy => ?_, fun named code idle notReady => ?_, fun named code ready => ?_⟩
  · exact exec_exercise_of_refused served (exerciseOwner_of_outOfRange outOfRange)
  · exact exec_exercise_of_refused served (exerciseOwner_of_absent is4 names absent)
  · have noAction : ExerciseAction.ofWord argument = none := by
      rw [ExerciseAction.ofWord_eq]
      grind
    exact exec_exercise_of_channel_refused served named (exerciseChannel_of_noAction noAction)
  · exact exec_exercise_of_channel_refused served named
      (exerciseChannel_of_exercising (ExerciseAction.ofWord_of_lt code) busy)
  · have refuses : mayExercise s c = false :=
      Bool.eq_false_iff.mpr (mt (mayExercise_iff s c).mp notReady)
    exact exec_exercise_of_channel_refused served named
      (exerciseChannel_of_notReady (ExerciseAction.ofWord_of_lt code) idle refuses)
  · obtain ⟨t, started, runs⟩ := exec_exercise_of_ready served named
      (ExerciseAction.ofWord_of_lt code) ((mayExercise_iff s c).mpr ready)
    rw [exerciseDuration_eq, clampNat] at started runs
    refine ⟨_, runs, ?_, started.state, started.winning, started.timer,
      started.exerciseAction.trans (ExerciseAction.some_ofCode _),
      started.valve.trans (ExerciseAction.valve_ofCode _),
      started.inlet.trans (ExerciseAction.ofCode_eq_apply_iff _),
      started.exhaust.trans (ExerciseAction.ofCode_eq_vent_iff code), started.backup,
      started.other, started.frame.device, started.frame.axles, started.frame.rollover⟩
    rw [setResponse_link, started.link]
    rfl

end Sys2Proof.Machine
end

section
/-! Proofs about the anti-lock control (chapter 7): what the Rollover Monitor leaves unchanged at a sample
set, what a window end hands to the judgement of the wheel-ends, and the judgement itself. -/

namespace Sys2Proof.Machine

/-! ### What the Rollover Monitor leaves unchanged -/

/-- Besides the lift axle's and the valves' part, only the ROLLOVER record and the ROLLOVER source may
differ. -/
structure MonitorOnly (s t : State) : Prop where
  pending : t.pending = s.pending
  device : t.device = s.device
  analog : t.analog = s.analog
  capture : t.capture = s.capture
  loadUnit : t.loadUnit = s.loadUnit
  wheels : t.wheels = s.wheels
  tyres : t.tyres = s.tyres
  receiver : t.receiver = s.receiver
  supervisor : t.supervisor = s.supervisor
  link : t.link = { s.link with
    faultPending := t.link.faultPending, rolloverPending := t.link.rolloverPending }

theorem MonitorOnly.refl (s : State) : MonitorOnly s s :=
  ⟨rfl, rfl, rfl, rfl, rfl, rfl, rfl, rfl, rfl, rfl⟩

theorem MonitorOnly.trans {s t u : State} (a : MonitorOnly s t) (b : MonitorOnly t u) :
    MonitorOnly s u where
  pending := b.pending.trans a.pending
  device := b.device.trans a.device
  analog := b.analog.trans a.analog
  capture := b.capture.trans a.capture
  loadUnit := b.loadUnit.trans a.loadUnit
  wheels := b.wheels.trans a.wheels
  tyres := b.tyres.trans a.tyres
  receiver := b.receiver.trans a.receiver
  supervisor := b.supervisor.trans a.supervisor
  link := by rw [b.link, a.link]

theorem LiftOnly.monitorOnly {s t : State} (h : LiftOnly s t) : MonitorOnly s t :=
  ⟨h.pending, h.device, h.analog, h.capture, h.loadUnit, h.wheels, h.tyres, h.receiver, h.supervisor,
    by rw [h.link]⟩

theorem setRollover_monitorOnly (r : Rollover) (s : State) : MonitorOnly s (s.setRollover r) :=
  ⟨rfl, rfl, rfl, rfl, rfl, rfl, rfl, rfl, rfl, rfl⟩

theorem raiseRollover_monitorOnly (s : State) : MonitorOnly s (raiseRollover s) :=
  ⟨rfl, rfl, rfl, rfl, rfl, rfl, rfl, rfl, rfl, rfl⟩

theorem forceLowering_monitorOnly (s : State) : MonitorOnly s (forceLowering s) :=
  (forceLowering_liftOnly s).monitorOnly

/-- R131: handing requests to the channels' arbiters. -/
theorem handRequests_monitorOnly (v : Fin 4 → State → Nat) (s : State) :
    MonitorOnly s (forEach 4 (fun c s => handRequest (v c s) c s) s) :=
  (forEach_rel ValveOnly ValveOnly.refl ValveOnly.trans
    (fun c t => handRequest_valveOnly (v c t) c t) s).liftOnly.monitorOnly

theorem handAll_monitorOnly (v : Nat) (s : State) : MonitorOnly s (handAll v s) :=
  (setRollover_monitorOnly _ s).trans (handRequests_monitorOnly (fun _ _ => v) _)

theorem endTest_monitorOnly (result : TestResult) (s : State) : MonitorOnly s (endTest result s) := by
  unfold endTest
  split
  · exact setRollover_monitorOnly _ s
  · exact MonitorOnly.refl s

theorem withdraw_monitorOnly (next : RolloverState) (s : State) : MonitorOnly s (withdraw next s) :=
  ((endTest_monitorOnly .noResult s).trans (setRollover_monitorOnly _ _)).trans
    (handAll_monitorOnly 0 _)

theorem enterOff_monitorOnly (s : State) : MonitorOnly s (enterOff s) := by
  unfold enterOff
  split
  · exact MonitorOnly.refl s
  · split
    · exact (withdraw_monitorOnly .off s).trans (raiseRollover_monitorOnly _)
    · exact withdraw_monitorOnly .off s

theorem enterDegraded_monitorOnly (s : State) : MonitorOnly s (enterDegraded s) :=
  (withdraw_monitorOnly .degraded s).trans (raiseRollover_monitorOnly _)

theorem enterMonitor_monitorOnly (s : State) : MonitorOnly s (enterMonitor s) := by
  unfold enterMonitor
  dsimp only
  split
  · exact (setRollover_monitorOnly _ s).trans (raiseRollover_monitorOnly _)
  · exact setRollover_monitorOnly _ s

/-- R116, R117: stages 1 and 2. -/
theorem applyOffAndDegraded_monitorOnly (degraded : Bool) (s : State) :
    MonitorOnly s (applyOffAndDegraded degraded s) := by
  have stand : MonitorOnly s (if degraded then enterDegraded s else s) := by
    split
    · exact enterDegraded_monitorOnly s
    · exact MonitorOnly.refl s
  unfold applyOffAndDegraded
  split
  · exact enterOff_monitorOnly s
  · split
    case h_1 =>
      split
      · exact enterDegraded_monitorOnly s
      · exact enterMonitor_monitorOnly s
    case h_2 =>
      split
      · exact MonitorOnly.refl s
      · exact enterMonitor_monitorOnly s
    case h_3 | h_4 | h_5 => exact stand
    case h_6 | h_7 => exact MonitorOnly.refl s

theorem estimate_monitorOnly (s : State) : MonitorOnly s (estimate s) :=
  setRollover_monitorOnly _ s

theorem enterIntervene_monitorOnly (s : State) : MonitorOnly s (enterIntervene s) :=
  ((setRollover_monitorOnly _ s).trans (handAll_monitorOnly _ _)).trans (raiseRollover_monitorOnly _)

theorem enterTest_monitorOnly (s : State) : MonitorOnly s (enterTest s) :=
  (setRollover_monitorOnly _ s).trans
    (handRequests_monitorOnly
      (fun c t => testRequest t (innerSide s.rollover.filtered s.rollover.inner) c) _)

theorem enterRecover_monitorOnly (s : State) : MonitorOnly s (enterRecover s) :=
  setRollover_monitorOnly _ s

theorem alertRule_monitorOnly (s : State) : MonitorOnly s (alertRule s) := by
  unfold alertRule
  split
  · exact enterIntervene_monitorOnly s
  split
  · exact setRollover_monitorOnly _ s
  split
  · exact enterTest_monitorOnly s
  · exact MonitorOnly.refl s

theorem monitorRule_monitorOnly (s : State) : MonitorOnly s (monitorRule s) := by
  unfold monitorRule
  split
  · exact (forceLowering_monitorOnly s).trans (enterIntervene_monitorOnly _)
  split
  · exact ((setRollover_monitorOnly _ s).trans (forceLowering_monitorOnly _)).trans
      (alertRule_monitorOnly _)
  · exact MonitorOnly.refl s

theorem testRule_monitorOnly (s : State) : MonitorOnly s (testRule s) := by
  unfold testRule
  split
  · exact (endTest_monitorOnly .noResult s).trans (enterIntervene_monitorOnly _)
  split
  · exact (endTest_monitorOnly .lift s).trans (enterIntervene_monitorOnly _)
  · exact MonitorOnly.refl s

theorem interveneRule_monitorOnly (degraded : Bool) (s : State) :
    MonitorOnly s (interveneRule degraded s) := by
  have counted := setRollover_monitorOnly { s.rollover with calm := s.rollover.calmAfter } s
  have leaves := counted.trans (enterRecover_monitorOnly _)
  unfold interveneRule
  dsimp only
  split
  · exact leaves
  split
  · exact leaves
  split
  · exact leaves
  · exact counted

theorem recoverRule_monitorOnly (degraded : Bool) (s : State) :
    MonitorOnly s (recoverRule degraded s) := by
  unfold recoverRule
  split
  · exact enterIntervene_monitorOnly s
  · exact MonitorOnly.refl s

/-- R115: the Rollover Monitor's whole operation at a sample set. -/
theorem rolloverSample_monitorOnly (s : State) : MonitorOnly s (rolloverSample s) := by
  have staged := (setRollover_monitorOnly { s.rollover with degradedSeen := degradedCondition s } s).trans
    (applyOffAndDegraded_monitorOnly (degradedCondition s) _)
  have estimated := staged.trans (estimate_monitorOnly _)
  unfold rolloverSample
  dsimp only
  split
  case h_1 | h_2 => exact staged
  case h_3 => exact estimated.trans (monitorRule_monitorOnly _)
  case h_4 => exact estimated.trans (alertRule_monitorOnly _)
  case h_5 => exact estimated.trans (testRule_monitorOnly _)
  case h_6 => exact estimated.trans (interveneRule_monitorOnly _ _)
  case h_7 => exact estimated.trans (recoverRule_monitorOnly _ _)

/-! ### The window end -/

theorem reportSensors_valveOnly (s : State) : ValveOnly s (reportSensors s) :=
  forEach_rel ValveOnly ValveOnly.refl ValveOnly.trans
    (fun w t => by
      split
      · exact report_valveOnly _ _ t
      · exact ValveOnly.refl t) s

/-- R44 to R46: of the DEVICE record, a window end writes the reference speed and its lost mark only. -/
theorem windowEnd_device (now : Stamp) (lines : BitVec 8) (s : State) :
    (windowEnd now lines s).device = { s.device with
      referenceSpeed := (windowEnd now lines s).device.referenceSpeed
      referenceLost := (windowEnd now lines s).device.referenceLost } := by
  simp only [windowEnd, (reportSensors_valveOnly _).device]
  rfl

/-- R30: a window end closes the windows of the existing wheel-ends and no other. -/
theorem windowEnd_wheel (now : Stamp) (lines : BitVec 8) (s : State) (w : Fin 8) :
    (windowEnd now lines s).wheels[w] =
      if s.wheels[w].present then
        s.wheels[w].close now (lines.getLsbD w.val) (axleDown s (axleOfWheel w)) (speedSuspect s w)
          (masked s (.speed w)) s.device.referenceSpeed
      else s.wheels[w] := by
  simp only [windowEnd, (reportSensors_valveOnly _).wheels, formReference, closeWindows,
    Fin.getElem_fin, Vector.getElem_ofFn]
  rfl

section Close
variable (x : Wheel) (now : Stamp) (lineOpen down suspect speedMasked : Bool) (reference : Nat)

@[simp] theorem Wheel.close_present :
    (x.close now lineOpen down suspect speedMasked reference).present = x.present := rfl

@[simp] theorem Wheel.close_previousSpeed :
    (x.close now lineOpen down suspect speedMasked reference).previousSpeed = x.speed := rfl

@[simp] theorem Wheel.close_wish :
    (x.close now lineOpen down suspect speedMasked reference).wish = x.wish := rfl

end Close

/-! ### The judgement of a wheel-end -/

theorem releaseCondition_iff (slipRel slip : Nat) (decel : Int) :
    releaseCondition slipRel slip decel = true ↔ slipRel ≤ slip ∨ 1500 ≤ decel ∧ 51 ≤ slip := by
  simp [releaseCondition]

theorem recoveryCondition_iff (slipRel slip : Nat) (decel : Int) :
    recoveryCondition slipRel slip decel = true ↔ slip < slipRel / 2 ∨ decel ≤ -300 := by
  simp [recoveryCondition]

section Judged
variable (x : Wheel) (v slipRel : Nat)

@[simp] theorem Wheel.judged_speed : (x.judged v slipRel).speed = x.speed := by
  unfold Wheel.judged
  split <;> rfl

@[simp] theorem Wheel.judged_valid : (x.judged v slipRel).valid = x.valid := by
  unfold Wheel.judged
  split <;> rfl

/-- R35, R103. -/
@[simp] theorem Wheel.judged_deceleration :
    (x.judged v slipRel).deceleration = decelerationOf x.previousSpeed x.speed := by
  unfold Wheel.judged
  split <;> rfl

/-- R102. -/
theorem Wheel.judged_slip :
    (x.judged v slipRel).slip =
      if x.valid = true ∧ 150 ≤ v then some (slipOf v x.speed) else none := by
  unfold Wheel.judged
  split <;> rfl

/-- R104. -/
theorem Wheel.judged_wish :
    (x.judged v slipRel).wish =
      if x.valid = true ∧ 150 ≤ v then
        wishAfter x.wish slipRel (slipOf v x.speed) (decelerationOf x.previousSpeed x.speed)
      else .free := by
  unfold Wheel.judged
  split <;> rfl

end Judged

/-- R101: every existing wheel-end is judged against the reference speed and SLIP_REL. -/
theorem judgeWheels_wheel (s : State) (w : Fin 8) :
    (judgeWheels s).wheels[w] =
      if s.wheels[w].present then
        s.wheels[w].judged s.device.referenceSpeed s.device.slipRel
      else s.wheels[w] := by
  simp only [judgeWheels, Fin.getElem_fin, Vector.getElem_ofFn]

@[simp] theorem judgeWheels_device (s : State) : (judgeWheels s).device = s.device := rfl

/-- The judgement reads the WHEEL and DEVICE records only. -/
theorem judgeWheels_wheels_congr {s t : State} (wheels : t.wheels = s.wheels)
    (device : t.device = s.device) : (judgeWheels t).wheels = (judgeWheels s).wheels := by
  simp only [judgeWheels, wheels, device]

/-! ### The sample set -/

theorem antiLockChannel_valveOnly (c : Fin 4) (s : State) : ValveOnly s (antiLockChannel c s) := by
  unfold antiLockChannel
  split
  · exact (setChannel_valveOnly _ _ _).trans (arbitrate_valveOnly _ _)
  · exact ValveOnly.refl s

/-- R101 stages 3 and 4: after the judgement the Anti-Lock Unit touches the channels' part only. -/
theorem antiLockSample_valveOnly (s : State) : ValveOnly (judgeWheels s) (antiLockSample s) :=
  forEach_rel ValveOnly ValveOnly.refl ValveOnly.trans antiLockChannel_valveOnly _

theorem sampleSet_antiLock_first (now : Stamp) (lines : BitVec 8) (s : State) :
    sampleSet now lines true s = rolloverSample (antiLockSample (windowEnd now lines s)) := by
  simp only [sampleSet, if_true]

theorem sampleSet_antiLock_last (now : Stamp) (lines : BitVec 8) (s : State) :
    sampleSet now lines false s = antiLockSample (rolloverSample (windowEnd now lines s)) := by
  simp only [sampleSet, Bool.false_eq_true, if_false]

/-- R30, R101: in either order of the two blocks, the WHEEL records are those of the window end, judged. -/
theorem sampleSet_wheels (now : Stamp) (lines : BitVec 8) (first : Bool) (s : State) :
    (sampleSet now lines first s).wheels = (judgeWheels (windowEnd now lines s)).wheels := by
  cases first with
  | true =>
    rw [sampleSet_antiLock_first, (rolloverSample_monitorOnly _).wheels,
      (antiLockSample_valveOnly _).wheels]
  | false =>
    have monitor := rolloverSample_monitorOnly (windowEnd now lines s)
    rw [sampleSet_antiLock_last, (antiLockSample_valveOnly _).wheels,
      judgeWheels_wheels_congr monitor.wheels monitor.device]

/-- Neither block writes the DEVICE record. -/
theorem sampleSet_device (now : Stamp) (lines : BitVec 8) (first : Bool) (s : State) :
    (sampleSet now lines first s).device = (windowEnd now lines s).device := by
  cases first with
  | true =>
    rw [sampleSet_antiLock_first, (rolloverSample_monitorOnly _).device,
      (antiLockSample_valveOnly _).device, judgeWheels_device]
  | false =>
    rw [sampleSet_antiLock_last, (antiLockSample_valveOnly _).device, judgeWheels_device,
      (rolloverSample_monitorOnly _).device]

theorem exec_sampleSet_of_running {s : State} (running : Running s)
    (window : s.capture.windowTimer.isSome = true) (now : Stamp) (lines : BitVec 8) (first : Bool) :
    exec (.sampleSet now lines first) s = .next (sampleSet now lines first s) := by
  change execSampleSet now lines first s = _
  simp only [execSampleSet, whileRunning_of_running running, window, if_true]

/-- An existing wheel-end leaves a sample set as its closed window, judged against the new reference
speed. -/
theorem sampleSet_wheel_of_present {s : State} {w : Fin 8} (existing : s.wheels[w].present = true)
    (now : Stamp) (lines : BitVec 8) (first : Bool) :
    (sampleSet now lines first s).wheels[w] =
      (s.wheels[w].close now (lines.getLsbD w.val) (axleDown s (axleOfWheel w)) (speedSuspect s w)
          (masked s (.speed w)) s.device.referenceSpeed).judged
        (sampleSet now lines first s).device.referenceSpeed s.device.slipRel := by
  have slipRel : (windowEnd now lines s).device.slipRel = s.device.slipRel := by
    rw [windowEnd_device]
  simp only [sampleSet_wheels, sampleSet_device, judgeWheels_wheel, windowEnd_wheel, existing,
    if_true, Wheel.close_present, slipRel]

/-- Settles O28: an existing wheel-end is its closed window judged, whose three results are R102's, R35's
and R104's. -/
theorem slipDecelerationAndWish : Obligations.SlipDecelerationAndWish := by
  intro now lines first s running window
  refine ⟨_, exec_sampleSet_of_running running window now lines first, fun w existing => ?_⟩
  have judged := sampleSet_wheel_of_present existing now lines first
  refine ⟨?_, ?_, ?_⟩
  · rw [judged]
    simp [decelerationOf, clampInt]
  · rw [judged]
    simp [Wheel.judged_slip, slipOf]
  · rw [judged]
    simp only [Wheel.judged_wish, Wheel.judged_speed, Wheel.judged_valid, Wheel.judged_deceleration,
      Wheel.close_previousSpeed, Wheel.close_wish, wishAfter, releaseCondition_iff,
      recoveryCondition_iff]
    rfl

end Sys2Proof.Machine
end

section
/-! Proofs about the tyre records (chapter 10): the position that is LEARNING, the end of its learning, and
the CANCEL_LEARN request. -/

namespace Sys2Proof.Machine

/-! ### The position that is LEARNING -/

/-- R152: the LEARNING position, the first by index where a state has more than one. -/
theorem learningPosition_eq_some_iff {s : State} {p : Fin 16} :
    learningPosition s = some p ↔
      (s.tyres[p].present = true ∧ s.tyres[p].state = .learning)
        ∧ ∀ q < p, ¬(s.tyres[q].present = true ∧ s.tyres[q].state = .learning) := by
  rw [learningPosition, ← Fin.find?_eq_find?_finRange, Fin.find?_eq_some_iff]
  simp

theorem learningPosition_eq_none_iff {s : State} :
    learningPosition s = none ↔
      ∀ q : Fin 16, ¬(s.tyres[q].present = true ∧ s.tyres[q].state = .learning) := by
  simp [learningPosition]

/-! ### The end of a learning -/

/-- R153: a write that changes a watched field sets the change mark. -/
theorem putTyre_of_watchedDiffer {p : Fin 16} {x : Tyre} {s : State}
    (differ : s.tyres[p].watchedDiffer x = true) :
    putTyre p x s = s.setTyre p { x with changeMark := true } := by
  rw [putTyre, differ, Bool.or_true]

theorem Tyre.watchedDiffer_of_state_ne {x y : Tyre} (h : x.state ≠ y.state) :
    x.watchedDiffer y = true := by
  simp [Tyre.watchedDiffer, h]

/-- R153: a learning that ends without a pairing leaves LEARNING, so its change mark is set. -/
theorem endLearning_of_learning {p : Fin 16} {s : State} (result : LearnResult)
    (learning : s.tyres[p].state = .learning) :
    endLearning p result s = s.setTyre p { s.tyres[p] with
      state := .unpaired, learnTimer := none, learnResult := result
      learnOutstanding := true, changeMark := true } :=
  putTyre_of_watchedDiffer (Tyre.watchedDiffer_of_state_ne (by rw [learning]; simp))

/-! ### The CANCEL_LEARN request -/

/-- A served CANCEL_LEARN leaves the response and, besides, its owner's effect. -/
theorem exec_cancelLearn_of_served {s : State} (index : BitVec 5) (served : Served s) :
    exec (.cancelLearn index) s = .next (setResponse 7
      (cancelLearnOwner index (closeTransaction s)).1
      (cancelLearnOwner index (closeTransaction s)).2) :=
  congrArg _ (request_of_served served)

theorem cancelLearnOwner_of_learning {s : State} {p : Fin 16} (index : BitVec 5)
    (learns : learningPosition s = some p) :
    cancelLearnOwner index s = (plainReply .done index, endLearning p .cancelled s) := by
  rw [cancelLearnOwner, learns]

theorem cancelLearnOwner_of_none {s : State} (index : BitVec 5)
    (noneLearns : learningPosition s = none) :
    cancelLearnOwner index s = (plainReply .refusedState index, s) := by
  rw [cancelLearnOwner, noneLearns]

/-- The rise of SELECT touches no TYRE record. -/
@[simp] theorem learningPosition_closeTransaction (s : State) :
    learningPosition (closeTransaction s) = learningPosition s := rfl

/-- Settles O48: CANCEL_LEARN cancels the learning of the position that is LEARNING, and with none is
refused. -/
theorem cancelLearnEndsLearning : Obligations.CancelLearnEndsLearning := by
  intro index p s served
  refine ⟨fun present learning first => ?_, fun noneLearns => ?_⟩
  · have learns : learningPosition (closeTransaction s) = some p := by
      rw [learningPosition_closeTransaction, learningPosition_eq_some_iff]
      exact ⟨⟨present, learning⟩, first⟩
    have ended := endLearning_of_learning (s := closeTransaction s) .cancelled learning
    rw [exec_cancelLearn_of_served index served, cancelLearnOwner_of_learning index learns, ended]
    rfl
  · have learns : learningPosition (closeTransaction s) = none := by
      rw [learningPosition_closeTransaction, learningPosition_eq_none_iff]
      exact noneLearns
    exact congrArg _ (request_of_refused served (cancelLearnOwner_of_none index learns))

end Sys2Proof.Machine
end

section
/-! Proofs about the operating states and the resets (chapter 12): how each reset ends, and the RESTARTED
mark. -/

namespace Sys2Proof.Machine

/-! ### The RESTARTED mark in the host's view -/

/-- R179: field 5 of the DEVICE table is the RESTARTED mark. -/
theorem fieldWord_device_restarted (s : State) :
    fieldWord s .device 5 = if s.device.restarted then 1 else 0 := by
  change flag s.device.restarted = _
  cases s.device.restarted <;> rfl

/-- R179: status word bit 7 is the RESTARTED mark; below it stand FAILSAFE, the rollover state and the
FALLBACK count (section 11.5). -/
theorem statusWord_restarted (s : State) : (statusWord s).getLsbD 7 = s.device.restarted := by
  rw [statusWord, BitVec.getLsbD_append, BitVec.getLsbD_append, BitVec.getLsbD_append,
    BitVec.getLsbD_append]
  simp

/-! ### How each reset ends -/

theorem held_eq_false_iff_running (s : State) : held s = false ↔ Running s := by
  simp [held]

@[simp] theorem startInit_state (s : State) : (startInit s).device.state = .init := rfl

@[simp] theorem startInit_restarted (s : State) : (startInit s).device.restarted = true := rfl

/-- R180: with no cause left, the straps are sampled and INIT begins. -/
theorem endFullReset_of_running {s : State} (straps : BitVec 2) (running : Running s) :
    endFullReset straps s = startInit (sampleLayout straps s) := by
  simp [endFullReset, (held_eq_false_iff_running s).mpr running]

/-- R180: a power-on that nothing holds is a full reset that ends at once; its beginning leaves the causes
as they stand. -/
theorem exec_powerOn_of_running {s : State} (straps : BitVec 2) (running : Running s) :
    exec (.powerOn straps) s = .next (startInit (sampleLayout straps (beginFullReset s))) :=
  congrArg Host.Outcome.next
    (endFullReset_of_running straps (s := beginFullReset s) running)

/-- R180: the logic supply's return ends the reset if the RESET line does not hold it. -/
theorem exec_logicSupplyRestored_of_only_cause {s : State} (straps : BitVec 2)
    (low : s.device.supplyFail = true) (released : s.device.resetLow = false) :
    exec (.logicSupplyRestored straps) s = .next (startInit (sampleLayout straps
      { s with device := { s.device with supplyFail := false } })) := by
  have running : Running { s with device := { s.device with supplyFail := false } } :=
    ⟨rfl, released⟩
  exact congrArg Host.Outcome.next ((if_pos low).trans (endFullReset_of_running straps running))

/-- R180: the RESET line's release ends the reset if the logic supply does not hold it. -/
theorem exec_resetLineRelease_of_only_cause {s : State} (straps : BitVec 2)
    (low : s.device.resetLow = true) (supplied : s.device.supplyFail = false) :
    exec (.resetLineRelease straps) s = .next (startInit (sampleLayout straps
      { s with device := { s.device with resetLow := false } })) := by
  have running : Running { s with device := { s.device with resetLow := false } } :=
    ⟨supplied, rfl⟩
  exact congrArg Host.Outcome.next ((if_pos low).trans (endFullReset_of_running straps running))

/-- A served transaction carries out its act with SELECT high. -/
theorem transact_of_served {act : State → State} {s : State} (served : Served s) :
    transact act s = act (closeTransaction s) := by
  obtain ⟨⟨supplied, released⟩, notInit, serving⟩ := served
  simp [transact, openTransaction, linkServes, held, supplied, released, notInit, serving]

theorem exec_softReset_of_served {s : State} (index : BitVec 5) (served : Served s) :
    exec (.softReset index) s = .next (restart (closeTransaction s)) :=
  congrArg Host.Outcome.next (transact_of_served served)

@[simp] theorem restart_state (s : State) : (restart s).device.state = .init := rfl

/-- R179: a restart begins INIT too, so it sets the mark. -/
@[simp] theorem restart_restarted (s : State) : (restart s).device.restarted = true := rfl

/-! ### ACK_FAULTS -/

/-- A served ACK_FAULTS leaves the response and, besides, its owner's effect. -/
theorem exec_ackFaults_of_served {s : State} (index : BitVec 5) (served : Served s) :
    exec (.ackFaults index) s = .next (setResponse 13
      (ackFaultsOwner index (closeTransaction s)).1
      (ackFaultsOwner index (closeTransaction s)).2) :=
  congrArg Host.Outcome.next (request_of_served served)

@[simp] theorem setResponse_device (kind : BitVec 6) (r : Reply) (s : State) :
    (setResponse kind r s).device = s.device := rfl

/-- R178, R179: of the DEVICE record ACK_FAULTS clears the RESTARTED mark only. -/
theorem ackFaultsOwner_device (index : BitVec 5) (s : State) :
    (ackFaultsOwner index s).2.device = { s.device with restarted := false } := by
  rw [ackFaultsOwner, (settle_valveOnly _).device]

/-- Settles O9: RESTARTED is DEVICE field 5 and status word bit 7; INIT's beginning, with which every
reset ends, sets it, and ACK_FAULTS clears it. -/
theorem restartedMarkIsSetByResetsAndAcknowledged :
    Obligations.RestartedMarkIsSetByResetsAndAcknowledged := by
  intro straps index s
  refine ⟨fieldWord_device_restarted s, statusWord_restarted s, fun running => ?powerOn,
    fun low released => ?supply, fun low supplied => ?resetLine, fun served => ?softReset,
    fun served => ?ackFaults⟩
  case powerOn =>
    exact ⟨_, exec_powerOn_of_running straps running, startInit_state _, startInit_restarted _⟩
  case supply =>
    exact ⟨_, exec_logicSupplyRestored_of_only_cause straps low released, startInit_state _,
      startInit_restarted _⟩
  case resetLine =>
    exact ⟨_, exec_resetLineRelease_of_only_cause straps low supplied, startInit_state _,
      startInit_restarted _⟩
  case softReset =>
    exact ⟨_, exec_softReset_of_served index served, restart_state _, restart_restarted _⟩
  case ackFaults =>
    exact ⟨_, exec_ackFaults_of_served index served, by
      rw [setResponse_device, ackFaultsOwner_device]⟩

end Sys2Proof.Machine
end

section
/-! Proofs about the operations that the blocks share: what a command's frame is, and what the drivers, the
controllers and the lift axle's operations can change. -/

namespace Sys2Proof.Machine

/-! ### The effect of a command -/

theorem exec_next (i : Instr) (s : State) : ∃ t, exec i s = .next t := by
  cases i <;> exact ⟨_, rfl⟩

/-- What every command keeps, and the queue does not matter to, every step keeps. -/
theorem step_keeps {P : State → Prop} (queue : ∀ s l, P s → P { s with pending := l })
    (command : ∀ i s t, P s → exec i s = .next t → P t) {s t : State} (h : P s)
    (stepped : step s = .next t) : P t := by
  unfold step at stepped
  split at stepped
  · cases stepped
    exact h
  · exact command _ _ _ (queue s _ h) stepped

theorem whileRunning_keeps {P : State → Prop} {f : State → State} {s : State} (h : P s)
    (op : Running s → P (f s)) : P (whileRunning f s) := by
  unfold whileRunning
  split
  · exact h
  · next running =>
    rw [Bool.not_eq_true, held_eq_false_iff_running] at running
    exact op running

theorem linkServes_iff (s : State) : linkServes s = true ↔ Running s ∧ s.device.state ≠ .init := by
  simp [linkServes, held]

/-- The link as SELECT's fall, if the command finds it high, and its rise leave it. -/
def passedLink (s : State) : Link := (closeTransaction (openTransaction s)).link

theorem closeTransaction_openTransaction (s : State) :
    closeTransaction (openTransaction s) = { s with link := passedLink s } := by
  unfold passedLink openTransaction
  split <;> rfl

/-- R166: a transaction that is served has the act carried out, and another changes the link alone. -/
theorem transact_cases (act : State → State) (s : State) :
    transact act s = { s with link := passedLink s }
      ∨ (Running s ∧ s.device.state ≠ .init)
        ∧ transact act s = act { s with link := passedLink s } := by
  have serves : linkServes (openTransaction s) = linkServes s := by
    unfold openTransaction
    split <;> rfl
  unfold transact
  dsimp only
  rw [closeTransaction_openTransaction]
  split
  · next h =>
    rw [Bool.and_eq_true, serves, linkServes_iff] at h
    exact .inr ⟨h.2, rfl⟩
  · exact .inl rfl

theorem transact_keeps {P : State → Prop} (link : ∀ s l, P s → P { s with link := l })
    {act : State → State} {s : State} (h : P s)
    (op : ∀ u, Running u → u.device.state ≠ .init → P u → P (act u)) : P (transact act s) := by
  obtain passed | ⟨⟨running, notInit⟩, taken⟩ := transact_cases act s
  · rw [passed]
    exact link s _ h
  · rw [taken]
    exact op _ running notInit (link s _ h)

theorem request_keeps {P : State → Prop} (link : ∀ s l, P s → P { s with link := l })
    {kind : BitVec 6} {owner : State → Reply × State} {s : State} (h : P s)
    (op : ∀ u, Running u → u.device.state ≠ .init → P u → P (owner u).2) :
    P (request kind owner s) :=
  transact_keeps link h fun u running notInit hu => link _ _ (op u running notInit hu)

/-! ### What the drivers and the controllers may change of a channel -/

/-- R79: the command and the winning source are the arbiter's of the latest inputs. -/
def Channel.Arbitrated (x : Channel) : Prop :=
  x.commanded = x.command ∧ x.winning = if x.state = .exercise then .exercise else x.arbiterSource

theorem Channel.arbitrate_arbitrated (x : Channel) : x.arbitrate.Arbitrated := ⟨rfl, rfl⟩

/-- A channel after operations of its Channel Controller and of the Valve Driver Stage: the requests at its
arbiter stand, and if the command was formed from them it still is. -/
structure Channel.Driven (x y : Channel) : Prop where
  static : y = { x with
    state := y.state, reason := y.reason, action := y.action, winning := y.winning
    commanded := y.commanded, supplyTimer := y.supplyTimer, exerciseTimer := y.exerciseTimer
    exerciseAction := y.exerciseAction, lastEnd := y.lastEnd, gapTimer := y.gapTimer
    gapNote := y.gapNote }
  arbiter : x.Arbitrated → y.Arbitrated

theorem Channel.Driven.refl (x : Channel) : x.Driven x := ⟨rfl, id⟩

theorem Channel.Driven.trans {x y z : Channel} (a : x.Driven y) (b : y.Driven z) : x.Driven z where
  static := by rw [b.static, a.static]
  arbiter := b.arbiter ∘ a.arbiter

/-- What an operation of the drivers changes besides its own purpose: the channels as `Channel.Driven` says,
and of the fault set at most the present conditions of VALVE_OPEN and SUPPLY_WAIT, which it reports absent. -/
structure DriverFrame (s t : State) : Prop where
  channels : ∀ c : Fin 4, s.channels[c].Driven t.channels[c]
  sameLink : t.link = s.link
  latched : ∀ f, (t.faults.get f).latched = (s.faults.get f).latched
  present : ∀ f, (t.faults.get f).present = true → (s.faults.get f).present = true
  others : ∀ f, (∀ o : Fin 13, f ≠ .valveOpen o) → (∀ c : Fin 4, f ≠ .supplyWait c) →
    t.faults.get f = s.faults.get f

theorem DriverFrame.trans {s t u : State} (a : DriverFrame s t) (b : DriverFrame t u) :
    DriverFrame s u where
  channels c := (a.channels c).trans (b.channels c)
  sameLink := b.sameLink.trans a.sameLink
  latched f := (b.latched f).trans (a.latched f)
  present f h := a.present f (b.present f h)
  others f open' wait := (b.others f open' wait).trans (a.others f open' wait)

theorem DriverFrame.of_eq {s t : State} (channels : t.channels = s.channels) (link : t.link = s.link)
    (faults : t.faults = s.faults) : DriverFrame s t where
  channels c := by rw [channels]; exact .refl _
  sameLink := link
  latched f := by rw [faults]
  present f := by rw [faults]; exact id
  others f _ _ := by rw [faults]

theorem DriverFrame.refl (s : State) : DriverFrame s s := .of_eq rfl rfl rfl

theorem DriverFrame.setChannel {c : Fin 4} {x : Channel} {s : State} (h : s.channels[c].Driven x) :
    DriverFrame s (s.setChannel c x) where
  channels d := by
    by_cases same : d = c
    · subst same
      rw [State.setChannel_get_self]
      exact h
    · rw [State.setChannel_get_ne _ _ _ _ same]
      exact .refl _
  sameLink := rfl
  latched _ := rfl
  present _ := id
  others _ _ _ := rfl

/-- A report of absent of a valve that is open or a supply that is awaited. -/
theorem DriverFrame.report_false {f : FaultId} (s : State)
    (kind : (∃ o, f = .valveOpen o) ∨ ∃ c, f = .supplyWait c) : DriverFrame s (report f false s) where
  channels _ := .refl _
  sameLink := report_false_link f s
  latched g := report_false_latched f g s
  present g h := by
    obtain ⟨-, absent, -, other, -⟩ := report_spec f false s
    by_cases same : g = f
    · subst same
      rw [absent] at h
      simp at h
    · rwa [other g same] at h
  others g notOpen notWait := by
    refine (report_spec f false s).2.2.2.1 g fun same => ?_
    obtain ⟨o, rfl⟩ | ⟨c, rfl⟩ := kind
    · exact notOpen o same
    · exact notWait c same

/-- What an operation of the drivers leaves: the valves' part within `DriverFrame`, the lift solenoid's
request as it stood. -/
structure Drove (s t : State) : Prop extends ValveOnly s t, DriverFrame s t where
  liftRequest : t.outputs[liftOutput].requested = s.outputs[liftOutput].requested

theorem Drove.refl (s : State) : Drove s s := ⟨.refl s, .refl s, rfl⟩

theorem Drove.trans {s t u : State} (a : Drove s t) (b : Drove t u) : Drove s u :=
  ⟨a.toValveOnly.trans b.toValveOnly, a.toDriverFrame.trans b.toDriverFrame,
    b.liftRequest.trans a.liftRequest⟩

theorem setChannel_drove {c : Fin 4} {x : Channel} {s : State} (h : s.channels[c].Driven x) :
    Drove s (s.setChannel c x) :=
  ⟨setChannel_valveOnly _ _ _, .setChannel h, rfl⟩

theorem report_false_drove {f : FaultId} (s : State)
    (kind : (∃ o, f = .valveOpen o) ∨ ∃ c, f = .supplyWait c) : Drove s (report f false s) :=
  ⟨report_valveOnly _ _ _, .report_false s kind, rfl⟩

theorem startGap_drove (o : Fin 13) (s : State) : Drove s (startGap o s) := by
  unfold startGap
  split
  · exact setChannel_drove ⟨rfl, id⟩
  split
  · exact setChannel_drove ⟨rfl, id⟩
  · exact .refl s

/-- The request of the lift output, when another output or none changes its request. -/
theorem setOutput_requested (o o' : Fin 13) (x : Output) (s : State)
    (same : x.requested = s.outputs[o].requested) :
    (s.setOutput o x).outputs[o'].requested = s.outputs[o'].requested := by
  by_cases h : o' = o
  · subst h
    rw [State.setOutput_get_self, same]
  · rw [State.setOutput_get_ne _ _ _ _ h]

theorem setOutput_drove {o : Fin 13} {x : Output} {s : State}
    (same : o = liftOutput → x.requested = s.outputs[o].requested) : Drove s (s.setOutput o x) where
  toValveOnly := setOutput_valveOnly _ _ _
  toDriverFrame := .of_eq rfl rfl rfl
  liftRequest := by
    by_cases h : o = liftOutput
    · exact setOutput_requested _ _ _ _ (same h)
    · rw [State.setOutput_get_ne _ _ _ _ (Ne.symm h)]

theorem deenergise_drove (o : Fin 13) (s : State) : Drove s (deenergise o s) := by
  unfold deenergise
  split
  · refine .trans (.trans (setOutput_drove ?_) (report_false_drove _ (.inl ⟨o, rfl⟩)))
      (startGap_drove _ _)
    exact fun _ => rfl
  · exact .refl s

theorem energise_drove (o : Fin 13) (s : State) : Drove s (energise o s) := by
  unfold energise
  split
  · exact setOutput_drove fun _ => rfl
  · exact .refl s

theorem noteRequest_driverFrame (o : Fin 13) (on : Bool) (s : State) :
    DriverFrame s (noteRequest o on s) := by
  have noted := DriverFrame.of_eq (s := s)
    (t := s.setOutput o { s.outputs[o] with requested := on }) rfl rfl rfl
  unfold noteRequest
  dsimp only
  split
  · exact noted
  · exact noted.trans (deenergise_drove _ _).toDriverFrame

theorem noteRequest_drove {o : Fin 13} (other : o ≠ liftOutput) (on : Bool) (s : State) :
    Drove s (noteRequest o on s) :=
  ⟨noteRequest_valveOnly _ _ _, noteRequest_driverFrame _ _ _, by
    rw [noteRequest_other (Ne.symm other)]⟩

theorem serveInlet_drove (c : Fin 4) (s : State) : Drove s (serveInlet c s) := by
  unfold serveInlet
  split
  · exact energise_drove _ _
  · exact .refl s

theorem serveExhaust_drove (c : Fin 4) (s : State) : Drove s (serveExhaust c s) := by
  unfold serveExhaust
  split
  · exact energise_drove _ _
  · exact .refl s

theorem serveBackup_drove (c : Fin 4) (s : State) : Drove s (serveBackup c s) := by
  unfold serveBackup
  split
  · exact energise_drove _ _
  · exact .refl s

theorem inletOf_ne_liftOutput (c : Fin 4) : inletOf c ≠ liftOutput := by
  revert c; decide

theorem exhaustOf_ne_liftOutput (c : Fin 4) : exhaustOf c ≠ liftOutput := by
  revert c; decide

theorem backupOf_ne_liftOutput (c : Fin 4) : backupOf c ≠ liftOutput := by
  revert c; decide

theorem requestAction_drove (c : Fin 4) (a : ValveAction) (s : State) :
    Drove s (requestAction c a s) := by
  have written : Drove s (s.setChannel c { s.channels[c] with action := a }) :=
    setChannel_drove ⟨rfl, id⟩
  unfold requestAction
  exact (((((written.trans (noteRequest_drove (inletOf_ne_liftOutput c) _ _)).trans
    (noteRequest_drove (exhaustOf_ne_liftOutput c) _ _)).trans
    (noteRequest_drove (backupOf_ne_liftOutput c) _ _)).trans
    (serveBackup_drove _ _)).trans (serveInlet_drove _ _)).trans (serveExhaust_drove _ _)

theorem requestLift_driverFrame (on : Bool) (s : State) : DriverFrame s (requestLift on s) := by
  unfold requestLift
  dsimp only
  split
  · exact (noteRequest_driverFrame _ _ _).trans (energise_drove _ _).toDriverFrame
  · exact noteRequest_driverFrame _ _ _

/-- What each pass leaves so, the repetition leaves so. -/
theorem forEach_drove {n : Nat} {f : Fin n → State → State} (step : ∀ i s, Drove s (f i s))
    (s : State) : Drove s (forEach n f s) :=
  forEach_rel Drove .refl .trans step s

theorem dropDisallowed_drove (s : State) : Drove s (dropDisallowed s) :=
  forEach_drove (fun o t => by
    split
    · exact .refl t
    · exact deenergise_drove o t) s

theorem enterFallback_drove (c : Fin 4) (s : State) : Drove s (enterFallback c s) :=
  ((setChannel_drove ⟨rfl, fun _ => Channel.arbitrate_arbitrated _⟩).trans
    (report_false_drove _ (.inr ⟨c, rfl⟩))).trans (requestAction_drove _ _ _)

theorem finishExercise_drove (c : Fin 4) (how : ExerciseEnd) (s : State) :
    Drove s (finishExercise c how s) :=
  (setChannel_drove ⟨rfl, fun _ => Channel.arbitrate_arbitrated _⟩).trans (requestAction_drove _ _ _)

theorem followReason_drove (c : Fin 4) (s : State) : Drove s (followReason c s) := by
  unfold followReason
  split
  · split
    case h_1 | h_2 | h_3 => exact enterFallback_drove c s
    case h_4 => exact setChannel_drove ⟨rfl, id⟩
    case h_5 => exact .refl s
  · exact .refl s

/-- R83, R91: what the change of a condition makes the drivers and the controllers do. -/
theorem settle_drove (s : State) : Drove s (settle s) :=
  (dropDisallowed_drove s).trans (forEach_drove followReason_drove _)

/-! ### The lift axle and the device state -/

/-- An axle after an operation of the Lift Controller that only sends it to LOWERING. -/
structure Axle.Lowered (x y : Axle) : Prop where
  static : y = { x with liftState := y.liftState, changeMark := y.changeMark }
  lift : y.liftState = x.liftState ∨ y.liftState = .lowering

theorem Axle.Lowered.refl (x : Axle) : x.Lowered x := ⟨rfl, .inl rfl⟩

theorem Axle.Lowered.trans {x y z : Axle} (a : x.Lowered y) (b : y.Lowered z) : x.Lowered z where
  static := by rw [b.static, a.static]
  lift := by
    obtain h | h := b.lift
    · rw [h]
      exact a.lift
    · exact .inr h

/-- What a change of the device state may do to everything else: the drivers' part, and an axle lowered. -/
structure LiftDrove (s t : State) : Prop extends LiftOnly s t, DriverFrame s t where
  axles : ∀ a : Fin 4, s.axles[a].Lowered t.axles[a]

theorem LiftDrove.refl (s : State) : LiftDrove s s := ⟨.refl s, .refl s, fun _ => .refl _⟩

theorem LiftDrove.trans {s t u : State} (a : LiftDrove s t) (b : LiftDrove t u) : LiftDrove s u :=
  ⟨a.toLiftOnly.trans b.toLiftOnly, a.toDriverFrame.trans b.toDriverFrame,
    fun i => (a.axles i).trans (b.axles i)⟩

theorem Drove.liftDrove {s t : State} (h : Drove s t) : LiftDrove s t :=
  ⟨h.toValveOnly.liftOnly, h.toDriverFrame, fun a => by rw [h.axles]; exact .refl _⟩

theorem requestLift_liftDrove (on : Bool) (s : State) : LiftDrove s (requestLift on s) :=
  ⟨(requestLift_valveOnly on s).liftOnly, requestLift_driverFrame on s, fun a => by
    rw [(requestLift_valveOnly on s).axles]; exact .refl _⟩

/-- R15: an axle written by its owner, of which only the lift state moved. -/
theorem putAxle_get_ne {a b : Fin 4} (h : b ≠ a) (x : Axle) (s : State) :
    (putAxle a x s).axles[b] = s.axles[b] :=
  State.setAxle_get_ne _ _ _ _ h

theorem putAxle_get_self (a : Fin 4) (x : Axle) (s : State) :
    (putAxle a x s).axles[a] = { x with changeMark := x.changeMark || s.axles[a].watchedDiffer x } :=
  State.setAxle_get_self _ _ _

theorem putAxle_lowering_lowered (a b : Fin 4) (s : State) :
    s.axles[b].Lowered (putAxle a { s.axles[a] with liftState := .lowering } s).axles[b] := by
  by_cases same : b = a
  · subst same
    rw [putAxle_get_self]
    exact ⟨rfl, .inr rfl⟩
  · rw [putAxle_get_ne same]
    exact .refl _

theorem startLowering_liftDrove (a : Fin 4) (s : State) : LiftDrove s (startLowering a s) :=
  LiftDrove.trans
    (t := { putAxle a { s.axles[a] with liftState := .lowering } s with
      lift := { s.lift with raiseTimer := none, loweringTimer := some loweringTime } })
    ⟨⟨rfl, rfl, rfl, rfl, rfl, rfl, rfl, rfl, rfl, rfl, rfl⟩, .of_eq rfl rfl rfl,
      fun b => putAxle_lowering_lowered a b s⟩
    (requestLift_liftDrove false _)

theorem forceLowering_liftDrove (s : State) : LiftDrove s (forceLowering s) := by
  unfold forceLowering
  split
  · exact .refl s
  · split
    case h_1 | h_2 => exact startLowering_liftDrove _ s
    case h_3 | h_4 | h_5 => exact .refl s

/-- R174. -/
theorem setDeviceState_liftDrove (d : DeviceState) (s : State) :
    LiftDrove { s with device := { s.device with state := d } } (setDeviceState d s) := by
  unfold setDeviceState
  dsimp only
  split
  · exact (forceLowering_liftDrove _).trans (settle_drove _).liftDrove
  · exact (settle_drove _).liftDrove

end Sys2Proof.Machine
end

section
/-! Proofs about the frame of a scan completion (section 2.1): what its blocks leave unchanged, and that each
takes it once. -/

namespace Sys2Proof.Machine

/-! ### What a scan completion may change -/

/-- Section 7.3: a channel's cap and timers stand with its anti-lock state. -/
def Channel.AntiLocked (x : Channel) : Prop :=
  (x.cap.isSome = true ↔ x.antiLock = .release ∨ x.antiLock = .hold ∨ x.antiLock = .reapply)
    ∧ (x.holdTimer.isSome = true ↔ x.antiLock = .hold)
    ∧ (x.stepTimer.isSome = true ↔ x.antiLock = .reapply)
    ∧ (x.antiLock = .release → x.cap = some 0)

/-- A channel after a scan completion. -/
structure Channel.Scanned (x y : Channel) : Prop where
  static : y = { x with
    state := y.state, reason := y.reason, action := y.action, winning := y.winning
    fraction := y.fraction, groupBearing := y.groupBearing, gain := y.gain, target := y.target
    commanded := y.commanded, delivered := y.delivered, exerciseAction := y.exerciseAction
    lastEnd := y.lastEnd, antiLock := y.antiLock, cap := y.cap, releaseCount := y.releaseCount
    handFraction := y.handFraction, handBearing := y.handBearing, supplyTimer := y.supplyTimer
    exerciseTimer := y.exerciseTimer, holdTimer := y.holdTimer, stepTimer := y.stepTimer
    gapTimer := y.gapTimer, gapNote := y.gapNote }
  arbiter : x.Arbitrated → y.Arbitrated
  antiLocked : x.AntiLocked → y.AntiLocked

theorem Channel.Scanned.refl (x : Channel) : x.Scanned x := ⟨rfl, id, id⟩

theorem Channel.Scanned.trans {x y z : Channel} (a : x.Scanned y) (b : y.Scanned z) :
    x.Scanned z where
  static := by rw [b.static, a.static]
  arbiter := b.arbiter ∘ a.arbiter
  antiLocked := b.antiLocked ∘ a.antiLocked

theorem Channel.Driven.antiLocked {x y : Channel} (h : x.Driven y) (law : x.AntiLocked) :
    y.AntiLocked := by
  rw [h.static]
  exact law

theorem Channel.Driven.scanned {x y : Channel} (h : x.Driven y) : x.Scanned y where
  static := by rw [h.static]
  arbiter := h.arbiter
  antiLocked := h.antiLocked

/-- An axle after a scan completion. -/
def Axle.Scanned (x y : Axle) : Prop :=
  y = { x with
    bellowsRaw := y.bellowsRaw, bellowsFiltered := y.bellowsFiltered, filterEmpty := y.filterEmpty
    frozen := y.frozen, load := y.load, loadFraction := y.loadFraction
    bellowsFault := y.bellowsFault, changeMark := y.changeMark, liftState := y.liftState
    liftMode := y.liftMode, seenDown := y.seenDown }

theorem Axle.Scanned.trans {x y z : Axle} (a : x.Scanned y) (b : y.Scanned z) : x.Scanned z := by
  unfold Axle.Scanned at *
  rw [b, a]

theorem Axle.Lowered.scanned {x y : Axle} (h : x.Lowered y) : x.Scanned y := by
  unfold Axle.Scanned
  rw [h.static]

/-- The faults that no block reports at a scan completion. -/
def FaultId.unscanned : FaultId → Bool
  | .speed _ | .jam | .linkFrame => true
  | _ => false

/-- The state after blocks have taken a scan completion. -/
structure Scanned (s t : State) : Prop where
  pending : t.pending = s.pending
  capture : t.capture = s.capture
  wheels : t.wheels = s.wheels
  tyres : t.tyres = s.tyres
  rollover : t.rollover = s.rollover
  receiver : t.receiver = s.receiver
  supervisor : t.supervisor = s.supervisor
  link : t.link = { s.link with faultPending := t.link.faultPending }
  faultPending : s.link.faultPending = true → t.link.faultPending = true
  device : t.device = { s.device with
    state := t.device.state, demand := t.device.demand, reservoir := t.device.reservoir
    valveSupply := t.device.valveSupply, braking := t.device.braking, fTot := t.device.fTot }
  state : t.device.state = s.device.state
    ∨ s.device.state = .waitRelease ∧ t.device.state = .standby ∧ s.rollover.state.alarmed = false
  axles : ∀ a : Fin 4, s.axles[a].Scanned t.axles[a]
  channels : ∀ c : Fin 4, s.channels[c].Scanned t.channels[c]
  unscanned : ∀ f, f.unscanned = true → t.faults.get f = s.faults.get f
  latched : ∀ f, (s.faults.get f).latched = true → (t.faults.get f).latched = true

theorem Scanned.refl (s : State) : Scanned s s :=
  ⟨rfl, rfl, rfl, rfl, rfl, rfl, rfl, rfl, id, rfl, .inl rfl, fun _ => rfl, fun _ => .refl _,
    fun _ _ => rfl, fun _ => id⟩

theorem Scanned.trans {s t u : State} (a : Scanned s t) (b : Scanned t u) : Scanned s u where
  pending := b.pending.trans a.pending
  capture := b.capture.trans a.capture
  wheels := b.wheels.trans a.wheels
  tyres := b.tyres.trans a.tyres
  rollover := b.rollover.trans a.rollover
  receiver := b.receiver.trans a.receiver
  supervisor := b.supervisor.trans a.supervisor
  link := by rw [b.link, a.link]
  faultPending := b.faultPending ∘ a.faultPending
  device := by rw [b.device, a.device]
  state := by
    obtain h | ⟨h, h', calm⟩ := b.state
    · rw [h]
      exact a.state
    · obtain k | ⟨_, k, _⟩ := a.state
      · exact .inr ⟨k ▸ h, h', a.rollover ▸ calm⟩
      · rw [k] at h
        cases h
  axles i := (a.axles i).trans (b.axles i)
  channels i := (a.channels i).trans (b.channels i)
  unscanned f h := (b.unscanned f h).trans (a.unscanned f h)
  latched f := b.latched f ∘ a.latched f

theorem forEach_scanned {n : Nat} {f : Fin n → State → State} (step : ∀ i s, Scanned s (f i s))
    (s : State) : Scanned s (forEach n f s) :=
  forEach_rel Scanned .refl .trans step s

theorem LiftDrove.scanned {s t : State} (h : LiftDrove s t) : Scanned s t where
  pending := h.pending
  capture := h.capture
  wheels := h.wheels
  tyres := h.tyres
  rollover := h.rollover
  receiver := h.receiver
  supervisor := h.supervisor
  link := h.link
  faultPending := by rw [h.sameLink]; exact id
  device := by rw [h.device]
  state := .inl (by rw [h.device])
  axles a := (h.axles a).scanned
  channels c := (h.channels c).scanned
  unscanned f hf := h.others f (by rintro o rfl; cases hf) (by rintro c rfl; cases hf)
  latched f := by rw [h.latched]; exact id

theorem Drove.scanned {s t : State} (h : Drove s t) : Scanned s t := h.liftDrove.scanned

theorem setAxle_scanned {a : Fin 4} {x : Axle} {s : State} (h : s.axles[a].Scanned x) :
    Scanned s (s.setAxle a x) :=
  { Scanned.refl s with
    axles := fun b => by
      by_cases same : b = a
      · subst same
        rw [State.setAxle_get_self]
        exact h
      · rw [State.setAxle_get_ne _ _ _ _ same]
        rfl }

theorem putAxle_scanned {a : Fin 4} {x : Axle} {s : State} (h : s.axles[a].Scanned x) :
    Scanned s (putAxle a x s) :=
  setAxle_scanned (h.trans rfl)

theorem setChannel_scanned {c : Fin 4} {x : Channel} {s : State} (h : s.channels[c].Scanned x) :
    Scanned s (s.setChannel c x) :=
  { Scanned.refl s with
    channels := fun d => by
      by_cases same : d = c
      · subst same
        rw [State.setChannel_get_self]
        exact h
      · rw [State.setChannel_get_ne _ _ _ _ same]
        exact .refl _ }

/-- R177: a report latches at most. -/
theorem report_scanned {f : FaultId} (scanned : f.unscanned = false) (c : Bool) (s : State) :
    Scanned s (report f c s) := by
  obtain ⟨frame, -, latched, others, pending⟩ := report_spec f c s
  exact {
    pending := frame.pending
    capture := frame.capture
    wheels := frame.wheels
    tyres := frame.tyres
    rollover := frame.rollover
    receiver := frame.receiver
    supervisor := frame.supervisor
    link := frame.link
    faultPending := fun h => by rw [pending, h, Bool.true_or]
    device := by rw [frame.device]
    state := .inl (by rw [frame.device])
    axles := fun a => by rw [frame.axles]; rfl
    channels := fun c => by rw [frame.channels]; exact .refl _
    unscanned := fun g h => others g (by rintro rfl; rw [h] at scanned; cases scanned)
    latched := fun g h => by
      by_cases same : g = f
      · subst same
        rw [latched, h, Bool.true_or]
      · rwa [others g same] }

/-! ### The blocks -/

theorem publishDelivered_scanned (c : Fin 4) (s : State) : Scanned s (publishDelivered c s) := by
  unfold publishDelivered
  split
  · refine .trans (setChannel_scanned ?_) (report_scanned rfl _ _)
    exact ⟨rfl, id, id⟩
  · exact .refl s

theorem publishBellows_scanned (a : Fin 4) (s : State) : Scanned s (publishBellows a s) := by
  unfold publishBellows
  split
  · refine .trans (putAxle_scanned ?_) (report_scanned rfl _ _)
    rfl
  · exact .refl s

theorem publish_scanned (r : ScanInputs) (s : State) : Scanned s (publish r s) := by
  unfold publish
  dsimp only
  refine .trans (.trans (.trans (.trans (.trans (.trans ?written (report_scanned rfl _ _))
    (report_scanned rfl _ _)) (report_scanned rfl _ _)) (forEach_scanned publishDelivered_scanned _))
    (forEach_scanned publishBellows_scanned _)) (settle_drove _).scanned
  exact { Scanned.refl s with device := rfl }

theorem Axle.filtered_scanned (x : Axle) (faulty : Bool) : x.Scanned (x.filtered faulty) := rfl

theorem Axle.weighed_scanned (x : Axle) : x.Scanned x.weighed := rfl

theorem loadAxle_scanned (before after : LoadUnit) (a : Fin 4) (s : State) :
    Scanned s (loadAxle before after a s) := by
  unfold loadAxle
  split
  · refine setAxle_scanned (.trans ?_ rfl)
    have filtered := s.axles[a].filtered_scanned (bellowsFaulty s a)
    split
    · exact filtered.trans (Axle.weighed_scanned _)
    · split
      · exact filtered.trans (Axle.weighed_scanned _)
      · exact filtered
    · exact filtered
  · exact .refl s

theorem handOver_scanned (c : Fin 4) (s : State) : Scanned s (handOver c s) := by
  unfold handOver
  split
  · exact setChannel_scanned ⟨rfl, id, id⟩
  · exact .refl s

theorem loadUnitScan_scanned (s : State) : Scanned s (loadUnitScan s) := by
  have state (u : LoadUnit) : Scanned s { s with loadUnit := u } := { Scanned.refl s with }
  have total (t : State) (n : Nat) : Scanned t { t with device := { t.device with fTot := n } } :=
    { Scanned.refl t with device := rfl }
  unfold loadUnitScan
  exact .trans (.trans (.trans (state _) (forEach_scanned (loadAxle_scanned _ _) _)) (total _ _))
    (forEach_scanned handOver_scanned _)

/-- The Lift Controller's own state is no part of the frame. -/
theorem lift_scanned (l : LiftController) (s : State) : Scanned s { s with lift := l } :=
  { Scanned.refl s with }

theorem putAxle_liftState_scanned (a : Fin 4) (l : LiftState) (s : State) :
    Scanned s (putAxle a { s.axles[a] with liftState := l } s) :=
  putAxle_scanned rfl

theorem startRaise_scanned (a : Fin 4) (s : State) : Scanned s (startRaise a s) := by
  unfold startRaise
  exact ((putAxle_liftState_scanned a _ s).trans (lift_scanned _ _)).trans
    (requestLift_liftDrove _ _).scanned

theorem completeRaise_scanned (a : Fin 4) (s : State) : Scanned s (completeRaise a s) :=
  (putAxle_liftState_scanned a _ s).trans (lift_scanned _ _)

theorem completeLowering_scanned (a : Fin 4) (s : State) : Scanned s (completeLowering a s) :=
  (putAxle_liftState_scanned a _ s).trans (lift_scanned _ _)

theorem lowerRaised_scanned (a : Fin 4) (s : State) : Scanned s (lowerRaised a s) := by
  have lowered := (startLowering_liftDrove a s).scanned
  unfold lowerRaised
  dsimp only
  split
  · exact lowered.trans (setAxle_scanned rfl)
  · exact lowered

/-- R65, R60: the Lift Controller's first two stages at a scan completion: a lowering that ends here, then
the light count. -/
def liftCounted (a : Fin 4) (s : State) : State :=
  let t := if lowered s a then completeLowering a s else s
  { t with lift := { t.lift with lightCount := lightCountAfter t a } }

theorem liftScan_of_none {s : State} (h : liftAxle s = none) :
    liftScan s = { report .lift false s with
      lift := { (report .lift false s).lift with lightCount := 0 } } := by
  have h' : liftAxle (report .lift false s) = none := h
  simp only [liftScan, h']

/-- R61 to R63: the Lift Controller's transitions at a scan completion, from the state `was`. -/
def liftMove (was : LiftState) (a : Fin 4) (s : State) : State :=
  match was with
  | .down => if mayRaise s a then startRaise a s else s
  | .raising =>
    if raiseInhibited s a then startLowering a s
    else if s.axles[a].bellowsFiltered < s.axles[a].bUp then completeRaise a s
    else s
  | .up => if mustLower s a then lowerRaised a s else s
  | .lowering => s
  | .notLiftable => s

theorem liftScan_of_some {s : State} {a : Fin 4} (h : liftAxle s = some a) :
    liftScan s = liftMove s.axles[a].liftState a (liftCounted a (report .lift false s)) := by
  have h' : liftAxle (report .lift false s) = some a := h
  simp only [liftScan, h']
  rfl

theorem liftCounted_scanned (a : Fin 4) (s : State) : Scanned s (liftCounted a s) := by
  unfold liftCounted
  dsimp only
  refine .trans ?_ (lift_scanned _ _)
  split
  · exact completeLowering_scanned a s
  · exact .refl s

theorem liftMove_scanned (was : LiftState) (a : Fin 4) (s : State) : Scanned s (liftMove was a s) := by
  unfold liftMove
  split
  case h_1 =>
    split
    · exact startRaise_scanned a s
    · exact .refl s
  case h_2 =>
    split
    · exact (startLowering_liftDrove a s).scanned
    split
    · exact completeRaise_scanned a s
    · exact .refl s
  case h_3 =>
    split
    · exact lowerRaised_scanned a s
    · exact .refl s
  case h_4 | h_5 => exact .refl s

theorem liftScan_scanned (s : State) : Scanned s (liftScan s) := by
  have reported := report_scanned (f := .lift) rfl false s
  cases h : liftAxle s with
  | none =>
    rw [liftScan_of_none h]
    exact reported.trans (lift_scanned _ _)
  | some a =>
    rw [liftScan_of_some h]
    exact (reported.trans (liftCounted_scanned a _)).trans (liftMove_scanned _ a _)

/-- R79: a change of the channel of which the arbiter then forms the command afresh. -/
theorem arbitrate_setChannel (c : Fin 4) (x : Channel) (s : State) :
    arbitrate c (s.setChannel c x) = s.setChannel c x.arbitrate := by
  simp [arbitrate, State.setChannel]

theorem pressureTargetScan_scanned (s : State) : Scanned s (pressureTargetScan s) :=
  forEach_scanned (fun c t => by
    split
    · rw [arbitrate_setChannel]
      exact setChannel_scanned ⟨rfl, fun _ => Channel.arbitrate_arbitrated _, id⟩
    · exact .refl t) s

theorem runLoop_drove (c : Fin 4) (s : State) (notExercise : s.channels[c].state ≠ .exercise) :
    Drove s (runLoop c s) := by
  unfold runLoop
  split
  · split
    · exact requestAction_drove _ _ _
    · refine .trans (setChannel_drove ?_) (requestAction_drove _ _ _)
      refine ⟨rfl, fun h => ⟨h.1, ?_⟩⟩
      have source := h.2
      rw [if_neg notExercise] at source
      exact source
  · exact requestAction_drove _ _ _
  · exact requestAction_drove _ _ _
  · exact requestAction_drove _ _ _

theorem runWaitingLoop_drove (c : Fin 4) (s : State) : Drove s (runWaitingLoop c s) := by
  unfold runWaitingLoop
  split <;> exact requestAction_drove _ _ _

/-- R80: outside an exercise the winning source does not depend on the controller's state. -/
theorem Channel.Arbitrated.of_state {x : Channel} {state : ControllerState} {reason : FallbackReason}
    {timer : Timer} (old : x.state ≠ .exercise) (new : state ≠ .exercise) (h : x.Arbitrated) :
    ({ x with state := state, reason := reason, supplyTimer := timer } : Channel).Arbitrated := by
  obtain ⟨command, source⟩ := h
  rw [if_neg old] at source
  exact ⟨command, by rw [if_neg new]; exact source⟩

theorem channelScan_drove (c : Fin 4) (s : State) : Drove s (channelScan c s) := by
  unfold channelScan
  split
  case isFalse => exact .refl s
  split
  case h_1 => exact .refl s
  case h_2 state => exact runLoop_drove c s (by rw [state]; decide)
  case h_3 state =>
    split
    · refine .trans (.trans (setChannel_drove ?_) (report_false_drove _ (.inr ⟨c, rfl⟩)))
        (runLoop_drove c _ ?_)
      · exact ⟨rfl, .of_state (by rw [state]; decide) (by decide)⟩
      · rw [report_channels, State.setChannel_get_self]
        simp
    · exact runWaitingLoop_drove c s
  case h_4 =>
    split
    · exact finishExercise_drove c _ s
    split
    · exact finishExercise_drove c _ s
    · exact .refl s
  case h_5 state =>
    split
    · refine .trans (setChannel_drove ?_) (runLoop_drove c _ ?_)
      · exact ⟨rfl, .of_state (by rw [state]; decide) (by decide)⟩
      · rw [State.setChannel_get_self]
        simp
    · exact .refl s

theorem valveDriverScan_scanned (low : BitVec 13) (s : State) : Scanned s (valveDriverScan low s) := by
  unfold valveDriverScan
  dsimp only
  refine .trans (.trans (.trans ?sampled (forEach_scanned ?shorts _)) (forEach_scanned ?opens _))
    (settle_drove _).scanned
  case sampled => exact { Scanned.refl s with }
  case shorts => exact fun o t => report_scanned rfl _ t
  case opens =>
    intro o t
    split
    · exact report_scanned rfl _ t
    · exact .refl t

theorem Channel.antiLockOff_antiLocked (x : Channel) : x.antiLockOff.AntiLocked := by
  simp [Channel.AntiLocked, Channel.antiLockOff]

theorem antiLockScan_scanned (before : Bool) (s : State) : Scanned s (antiLockScan before s) :=
  forEach_scanned (fun c t => by
    split
    case isFalse => exact .refl t
    split
    · exact setChannel_scanned ⟨rfl, id, id⟩
    split
    · rw [arbitrate_setChannel]
      exact setChannel_scanned ⟨rfl, fun _ => Channel.arbitrate_arbitrated _,
        fun _ => Channel.antiLockOff_antiLocked t.channels[c]⟩
    · exact .refl t) s

theorem waitReleaseScan_scanned (s : State) : Scanned s (waitReleaseScan s) := by
  unfold waitReleaseScan
  split
  · next h =>
    obtain ⟨waits, released⟩ := Bool.and_eq_true_iff.mp h
    have waits : s.device.state = .waitRelease := by simpa using waits
    have calm : s.rollover.state.alarmed = false := by
      rw [releaseConditions, Bool.and_eq_true] at released
      simpa using released.2
    have entered : Scanned s { s with device := { s.device with state := .standby } } :=
      { Scanned.refl s with device := rfl, state := .inr ⟨waits, rfl, calm⟩ }
    exact entered.trans (setDeviceState_liftDrove .standby s).scanned
  · exact .refl s

theorem takeScan_scanned (r : ScanInputs) (before : Bool) (agent : ScanAgent) (s : State) :
    Scanned s (takeScan r before agent s) := by
  cases agent with
  | loadUnit => exact loadUnitScan_scanned s
  | liftController => exact liftScan_scanned s
  | pressureTarget => exact pressureTargetScan_scanned s
  | channel c => exact (channelScan_drove c s).scanned
  | valveDriver => exact valveDriverScan_scanned _ s
  | antiLock => exact antiLockScan_scanned before s
  | operatingState => exact waitReleaseScan_scanned s

/-- What every block keeps in its turn, the blocks keep together. -/
theorem foldl_takeScan_keeps {P : State → Prop} {r : ScanInputs} {before : Bool}
    (step : ∀ agent s, P s → P (takeScan r before agent s)) (order : List ScanAgent) {s : State}
    (h : P s) : P (order.foldl (fun s a => takeScan r before a s) s) := by
  induction order generalizing s with
  | nil => exact h
  | cons a l ih => exact ih (step a s h)

theorem scanCompletion_scanned (r : ScanInputs) (order : List ScanAgent) (s : State) :
    Scanned s (scanCompletion r order s) :=
  foldl_takeScan_keeps (P := Scanned s) (fun a t h => h.trans (takeScan_scanned r _ a t)) _
    (publish_scanned r s)

theorem exec_scanCompletion_of_running {s : State} (running : Running s) (r : ScanInputs)
    (order : List ScanAgent) :
    exec (.scanCompletion r order) s = .next
      (if s.analog.scanTimer.isSome then scanCompletion r order s else s) :=
  congrArg Host.Outcome.next (whileRunning_of_running running)

/-- Settles O14: the blocks' frames, one after the other. -/
theorem scanLeavesOtherStateAlone : Obligations.ScanLeavesOtherStateAlone := by
  intro r order s running
  refine ⟨_, exec_scanCompletion_of_running running r order, ?_⟩
  have frame : Scanned s (if s.analog.scanTimer.isSome then scanCompletion r order s else s) := by
    split
    · exact scanCompletion_scanned r order s
    · exact .refl s
  generalize (if s.analog.scanTimer.isSome then scanCompletion r order s else s) = t at frame
  refine ⟨frame.pending, frame.capture, frame.wheels, frame.tyres, frame.rollover, frame.receiver,
    frame.supervisor, frame.link, frame.faultPending, frame.device,
    frame.state.imp id fun ⟨waits, stands, _⟩ => ⟨waits, stands⟩, frame.axles, fun c => ?_, fun w => frame.unscanned (.speed w) rfl, frame.unscanned .jam rfl,
    frame.unscanned .linkFrame rfl, fun f _ => frame.latched f⟩
  dsimp only
  rw [(frame.channels c).static]
  exact ⟨rfl, rfl, rfl, rfl, rfl, rfl, rfl, rfl, rfl, rfl⟩

/-! ### The order of the blocks -/

theorem mem_allScanAgents (a : ScanAgent) : a ∈ allScanAgents := by
  cases a with
  | channel c => revert c; decide
  | _ => decide

/-- An order that names every block once stands as the command names it (log entry 5). -/
theorem completeOrder_of_scanOrder {order : List ScanAgent} (h : isScanOrder order = true) :
    completeOrder order = order := by
  have counts : ∀ a, order.count a = 1 := fun a => by
    rw [isScanOrder, Bool.and_eq_true, List.all_eq_true] at h
    simpa using h.1 a (mem_allScanAgents a)
  have nodup : order.Nodup := List.nodup_iff_count_le_one.mpr fun a => (counts a).le
  have named : (allScanAgents.filter fun a => !order.contains a) = [] := by
    refine List.filter_eq_nil_iff.mpr fun a _ => ?_
    have mem : a ∈ order := List.count_pos_iff.mp (by rw [counts a]; exact Nat.one_pos)
    simp [mem]
  rw [completeOrder, nodup.dedup, named, List.append_nil]

/-- Settles O11: the working set is published, and the blocks take the completion in the named order. -/
theorem scanRunsBlocksInOrder : Obligations.ScanRunsBlocksInOrder := by
  intro r order s running timer wellFormed
  rw [exec_scanCompletion_of_running running, if_pos timer, scanCompletion,
    completeOrder_of_scanOrder wellFormed]
  have same : (fun u agent => takeScan r s.device.braking agent u) =
      fun u agent => match agent with
        | .loadUnit => loadUnitScan u
        | .liftController => liftScan u
        | .pressureTarget => pressureTargetScan u
        | .channel c => channelScan c u
        | .valveDriver => valveDriverScan r.lowCurrent u
        | .antiLock => antiLockScan s.device.braking u
        | .operatingState => waitReleaseScan u := by
    funext u agent
    cases agent <;> rfl
  exact congrArg (fun f => Host.Outcome.next (order.foldl f (publish r s))) same

end Sys2Proof.Machine
end

section
/-! Proofs about the law of the tyre records (sections 9.5 and 10.1), and that no command touches the queue. -/

namespace Sys2Proof.Machine

/-! ### Commands that leave the tyres alone -/

/-- The queue, the TYRE records and the candidate list stand. -/
structure TyresStand (s t : State) : Prop where
  pending : t.pending = s.pending
  tyres : t.tyres = s.tyres
  candidates : t.supervisor.candidates = s.supervisor.candidates

theorem TyresStand.refl (s : State) : TyresStand s s := ⟨rfl, rfl, rfl⟩

theorem TyresStand.trans {s t u : State} (a : TyresStand s t) (b : TyresStand t u) : TyresStand s u :=
  ⟨b.pending.trans a.pending, b.tyres.trans a.tyres, b.candidates.trans a.candidates⟩

theorem MonitorOnly.tyresStand {s t : State} (h : MonitorOnly s t) : TyresStand s t :=
  ⟨h.pending, h.tyres, by rw [h.supervisor]⟩

theorem LiftOnly.tyresStand {s t : State} (h : LiftOnly s t) : TyresStand s t :=
  h.monitorOnly.tyresStand

theorem ValveOnly.tyresStand {s t : State} (h : ValveOnly s t) : TyresStand s t :=
  h.liftOnly.tyresStand

theorem Scanned.tyresStand {s t : State} (h : Scanned s t) : TyresStand s t :=
  ⟨h.pending, h.tyres, by rw [h.supervisor]⟩

theorem report_tyresStand (f : FaultId) (c : Bool) (s : State) : TyresStand s (report f c s) :=
  (report_valveOnly f c s).tyresStand

theorem settle_tyresStand (s : State) : TyresStand s (settle s) := (settle_valveOnly s).tyresStand

theorem setDeviceState_tyresStand (d : DeviceState) (s : State) :
    TyresStand s (setDeviceState d s) :=
  have frame := (setDeviceState_liftOnly d s).tyresStand
  ⟨frame.pending, frame.tyres, frame.candidates⟩

theorem leaveOff_drove (c : Fin 4) (s : State) : Drove s (leaveOff c s) := by
  unfold leaveOff
  split
  · exact enterFallback_drove c s
  · exact .refl s

theorem endExercises_drove (s : State) : Drove s (endExercises s) :=
  forEach_drove (fun c t => by
    split
    · exact finishExercise_drove c _ t
    · exact .refl t) s

theorem windowEnd_tyresStand (now : Stamp) (lines : BitVec 8) (s : State) :
    TyresStand s (windowEnd now lines s) := by
  have formed (t : State) : TyresStand t (formReference t) := ⟨rfl, rfl, rfl⟩
  have closed (t : State) : TyresStand t (closeWindows lines t) := ⟨rfl, rfl, rfl⟩
  have stamped : TyresStand s { s with capture := { s.capture with timestamp := now } } :=
    ⟨rfl, rfl, rfl⟩
  unfold windowEnd
  exact ((stamped.trans (closed _)).trans (formed _)).trans (reportSensors_valveOnly _).tyresStand

theorem antiLockSample_tyresStand (s : State) : TyresStand s (antiLockSample s) :=
  have frame := (antiLockSample_valveOnly s).tyresStand
  ⟨frame.pending, frame.tyres, frame.candidates⟩

theorem sampleSet_tyresStand (now : Stamp) (lines : BitVec 8) (first : Bool) (s : State) :
    TyresStand s (sampleSet now lines first s) := by
  have closed := windowEnd_tyresStand now lines s
  cases first with
  | true =>
    rw [sampleSet_antiLock_first]
    exact (closed.trans (antiLockSample_tyresStand _)).trans (rolloverSample_monitorOnly _).tyresStand
  | false =>
    rw [sampleSet_antiLock_last]
    exact (closed.trans (rolloverSample_monitorOnly _).tyresStand).trans (antiLockSample_tyresStand _)

theorem leaveRecover_monitorOnly (s : State) : MonitorOnly s (leaveRecover s) := by
  unfold leaveRecover
  split
  · exact enterOff_monitorOnly s
  split
  · exact enterDegraded_monitorOnly s
  · exact setRollover_monitorOnly _ s

/-- R127: the test timer's expiry while it runs. -/
def testTimerExpired (s : State) : State :=
  if s.rollover.state = .test then
    handAll 0 ((endTest .noLift s).setRollover { (endTest .noLift s).rollover with
      state := if s.rollover.alertLevel ≤ s.rollover.magnitude then RolloverState.alert else .monitor })
  else s.setRollover { s.rollover with testTimer := none }

/-- R130: the ramp step timer's expiry while it runs. -/
def rampStepExpired (s : State) : State :=
  if s.rollover.state = .recover then
    if 0 < s.rollover.level - 50 then
      (handAll (s.rollover.level - 50) s).setRollover
        { (handAll (s.rollover.level - 50) s).rollover with rampTimer := some rampTime }
    else leaveRecover ((handAll (s.rollover.level - 50) s).setRollover
      { (handAll (s.rollover.level - 50) s).rollover with rampTimer := none })
  else s.setRollover { s.rollover with rampTimer := none }

theorem testTimerExpired_monitorOnly (s : State) : MonitorOnly s (testTimerExpired s) := by
  unfold testTimerExpired
  split
  · exact ((endTest_monitorOnly _ s).trans (setRollover_monitorOnly _ _)).trans
      (handAll_monitorOnly _ _)
  · exact setRollover_monitorOnly _ s

theorem rampStepExpired_monitorOnly (s : State) : MonitorOnly s (rampStepExpired s) := by
  have handed (r : Rollover) := (handAll_monitorOnly (s.rollover.level - 50) s).trans
    (setRollover_monitorOnly r _)
  unfold rampStepExpired
  split
  · split
    · exact handed _
    · exact (handed _).trans (leaveRecover_monitorOnly _)
  · exact setRollover_monitorOnly _ s

theorem clearLookedUp_pending (r : RecordId) (group : BitVec 2) (s : State) :
    (clearLookedUp r group s).pending = s.pending := by
  unfold clearLookedUp
  split <;> first | rfl | (split <;> rfl)

/-! ### The law of the tyres -/

/-- An existing position stands as the law reads it. -/
structure Tyre.SameHold (x y : Tyre) : Prop where
  present : x.present = true
  id : y.id = x.id
  paired : (y.state = .live ∨ y.state = .missing) ↔ (x.state = .live ∨ x.state = .missing)
  learning : y.state = .learning → x.state = .learning

/-- A position that holds nothing. -/
def Tyre.Free (y : Tyre) : Prop := y.id = none ∧ y.state = .unpaired

theorem Tyre.free_fresh (present : Bool) : (freshTyre present).Free := ⟨rfl, rfl⟩

/-- The law is kept where every position stands or becomes free, and the list loses entries at most. -/
theorem TyreLaw.of_stand_or_free {s t : State} (law : TyreLaw s)
    (tyres : ∀ p : Fin 16, t.tyres[p].present = true →
      t.tyres[p].Free ∨ s.tyres[p].SameHold t.tyres[p])
    (candidates : (t.supervisor.candidates.map Candidate.id).Sublist
      (s.supervisor.candidates.map Candidate.id)) : TyreLaw t := by
  obtain ⟨held, unique, learning, short, nodup, unpaired⟩ := law
  refine ⟨fun p present => ?_, fun p q hp hq some same => ?_, fun p q hp hq learnsP learnsQ => ?_, ?_,
    nodup.sublist candidates, fun x listed p present => ?_⟩
  · obtain ⟨noId, free⟩ | stands := tyres p present
    · rw [noId, free]
      simp
    · rw [stands.id, stands.paired]
      exact held p stands.present
  · have stands (r : Fin 16) (hr : t.tyres[r].present = true) (id : t.tyres[r].id.isSome = true) :
        s.tyres[r].SameHold t.tyres[r] :=
      (tyres r hr).resolve_left fun free => by rw [free.1] at id; cases id
    have standsP := stands p hp some
    have standsQ := stands q hq (same ▸ some)
    exact unique p q standsP.present standsQ.present (standsP.id ▸ some)
      (standsP.id.symm.trans (same.trans standsQ.id))
  · have stands (r : Fin 16) (hr : t.tyres[r].present = true) (h : t.tyres[r].state = .learning) :
        s.tyres[r].SameHold t.tyres[r] :=
      (tyres r hr).resolve_left fun free => by rw [free.2] at h; cases h
    have standsP := stands p hp learnsP
    have standsQ := stands q hq learnsQ
    exact learning p q standsP.present standsQ.present (standsP.learning learnsP)
      (standsQ.learning learnsQ)
  · have := candidates.length_le
    simp only [List.length_map] at this
    omega
  · obtain ⟨y, old, same⟩ := List.mem_map.mp (candidates.subset (List.mem_map_of_mem listed))
    obtain ⟨noId, -⟩ | stands := tyres p present
    · rw [noId]
      simp
    · rw [stands.id, ← same]
      exact unpaired y old p stands.present

theorem TyreLaw.of_tyresStand {s t : State} (h : TyresStand s t) (law : TyreLaw s) : TyreLaw t := by
  refine law.of_stand_or_free (fun p present => .inr ?_) (by rw [h.candidates])
  rw [h.tyres] at present ⊢
  exact ⟨present, rfl, .rfl, id⟩

/-- One position changes, the list stands. -/
theorem TyreLaw.setTyre {p : Fin 16} {x : Tyre} {s : State} (law : TyreLaw s)
    (h : x.present = true → x.Free ∨ s.tyres[p].SameHold x) : TyreLaw (s.setTyre p x) := by
  refine law.of_stand_or_free (fun q present => ?_) (.refl _)
  by_cases same : q = p
  · subst same
    rw [State.setTyre_get_self] at present ⊢
    exact h present
  · rw [State.setTyre_get_ne _ _ _ _ same] at present ⊢
    exact .inr ⟨present, rfl, .rfl, id⟩

theorem TyreLaw.putTyre {p : Fin 16} {x : Tyre} {s : State} (law : TyreLaw s)
    (h : x.present = true → x.Free ∨ s.tyres[p].SameHold x) : TyreLaw (putTyre p x s) :=
  law.setTyre fun present =>
    (h present).imp id fun stands => ⟨stands.present, stands.id, stands.paired, stands.learning⟩

theorem TyreLaw.setCandidates {l : List Candidate} {s : State} (law : TyreLaw s)
    (h : (l.map Candidate.id).Sublist (s.supervisor.candidates.map Candidate.id)) :
    TyreLaw (s.setCandidates l) :=
  law.of_stand_or_free (fun _ present => .inr ⟨present, rfl, .rfl, id⟩) h

theorem TyreLaw.removeCandidate (id : SensorId) {s : State} (law : TyreLaw s) :
    TyreLaw (removeCandidate id s) :=
  law.setCandidates ((List.filter_sublist).map _)

/-- An existing position that is not paired holds no ID. -/
theorem TyreLaw.id_eq_none {s : State} (law : TyreLaw s) {p : Fin 16}
    (present : s.tyres[p].present = true)
    (notPaired : ¬(s.tyres[p].state = .live ∨ s.tyres[p].state = .missing)) :
    s.tyres[p].id = none := by
  rw [← law.1 p present] at notPaired
  simpa using notPaired

theorem TyreState.isPaired_iff (x : TyreState) : x.isPaired = true ↔ x = .live ∨ x = .missing := by
  cases x <;> simp [TyreState.isPaired]

/-- R142 case 1: no existing paired position holds the ID. -/
theorem pairedPosition_eq_none_iff {s : State} {id : SensorId} :
    pairedPosition s id = none ↔
      ∀ p : Fin 16, s.tyres[p].present = true →
        (s.tyres[p].state = .live ∨ s.tyres[p].state = .missing) → s.tyres[p].id ≠ some id := by
  simp [pairedPosition, TyreState.isPaired_iff]

/-- No existing position holds an ID that no paired position holds. -/
theorem TyreLaw.id_ne_of_pairedPosition {s : State} (law : TyreLaw s) {id : SensorId}
    (h : pairedPosition s id = none) (p : Fin 16) (present : s.tyres[p].present = true) :
    s.tyres[p].id ≠ some id := fun holds =>
  pairedPosition_eq_none_iff.mp h p present ((law.1 p present).mp (by rw [holds]; rfl)) holds

/-- R149, R150: a position pairs an ID that no position and no entry of the list holds. -/
theorem TyreLaw.pair {p : Fin 16} {x : Tyre} {id : SensorId} {s : State} (law : TyreLaw s)
    (fresh : ∀ q : Fin 16, s.tyres[q].present = true → s.tyres[q].id ≠ some id)
    (unlisted : ∀ k ∈ s.supervisor.candidates, k.id ≠ id)
    (holds : x.id = some id) (live : x.state = .live) : TyreLaw (s.setTyre p x) := by
  obtain ⟨held, unique, learning, short, nodup, unpaired⟩ := law
  have other {q : Fin 16} (h : q ≠ p) := State.setTyre_get_ne s p q x h
  have self := State.setTyre_get_self s p x
  refine ⟨fun q present => ?_, fun q r hq hr some same => ?_, fun q r hq hr learnsQ learnsR => ?_,
    short, nodup, fun k listed q present => ?_⟩
  · by_cases isP : q = p
    · subst isP
      rw [self, holds, live]
      simp
    · rw [other isP] at present ⊢
      exact held q present
  · by_cases qIsP : q = p <;> by_cases rIsP : r = p
    · rw [qIsP, rIsP]
    · subst qIsP
      rw [self, holds, other rIsP] at same
      rw [other rIsP] at hr
      exact absurd same.symm (fresh r hr)
    · subst rIsP
      rw [self, holds, other qIsP] at same
      rw [other qIsP] at hq
      exact absurd same (fresh q hq)
    · rw [other qIsP] at hq some
      rw [other rIsP] at hr
      rw [other qIsP, other rIsP] at same
      exact unique q r hq hr some same
  · have notP {i : Fin 16} (h : (s.setTyre p x).tyres[i].state = .learning) : i ≠ p := by
      rintro rfl
      rw [self, live] at h
      cases h
    rw [other (notP learnsQ)] at hq learnsQ
    rw [other (notP learnsR)] at hr learnsR
    exact learning q r hq hr learnsQ learnsR
  · by_cases isP : q = p
    · subst isP
      rw [self, holds]
      exact fun same => unlisted k listed (Option.some.inj same).symm
    · rw [other isP] at present ⊢
      exact unpaired k listed q present

/-- R152: a free position starts to learn where none learns. -/
theorem TyreLaw.learn {p : Fin 16} {x : Tyre} {s : State} (law : TyreLaw s)
    (noneLearns : ∀ q : Fin 16, ¬(s.tyres[q].present = true ∧ s.tyres[q].state = .learning))
    (noId : x.id = none) (learns : x.state = .learning) : TyreLaw (s.setTyre p x) := by
  obtain ⟨held, unique, learning, short, nodup, unpaired⟩ := law
  have other {q : Fin 16} (h : q ≠ p) := State.setTyre_get_ne s p q x h
  have self := State.setTyre_get_self s p x
  have isP {q : Fin 16} (present : (s.setTyre p x).tyres[q].present = true)
      (h : (s.setTyre p x).tyres[q].state = .learning) : q = p := by
    by_contra notP
    rw [other notP] at present h
    exact noneLearns q ⟨present, h⟩
  have notP {q : Fin 16} (h : (s.setTyre p x).tyres[q].id.isSome = true) : q ≠ p := by
    rintro rfl
    rw [self, noId] at h
    cases h
  refine ⟨fun q present => ?_, fun q r hq hr some same => ?_, fun q r hq hr learnsQ learnsR => ?_,
    short, nodup, fun k listed q present => ?_⟩
  · by_cases same : q = p
    · subst same
      rw [self, noId, learns]
      simp
    · rw [other same] at present ⊢
      exact held q present
  · have qNotP := notP some
    have rNotP := notP (same ▸ some)
    rw [other qNotP] at hq some
    rw [other rNotP] at hr
    rw [other qNotP, other rNotP] at same
    exact unique q r hq hr some same
  · rw [isP hq learnsQ, isP hr learnsR]
  · by_cases same : q = p
    · subst same
      rw [self, noId]
      simp
    · rw [other same] at present ⊢
      exact unpaired k listed q present

end Sys2Proof.Machine
end

section
/-! Proofs about the law of the tyre records, command by command, and that no command touches the queue. -/

namespace Sys2Proof.Machine

/-! ### AMEND -/

/-- R11 steps 3 to 6: the checks of an existing record's field pass, and the value `v` is admitted. -/
structure Admitted (r : RecordId) (field value : Word) (v : Nat) (s : State) : Prop where
  setting : ∃ x clamped, settingOf s r field.toNat = some x
    ∧ (x.standbyOnly = true → s.device.state = .standby)
    ∧ x.domain.accept value.toNat = some (v, clamped)
  structural : structureBlocks s r field.toNat v = false

/-- R11: an AMEND is refused without effect, or stores an admitted value. -/
theorem amendRecord_cases (r : RecordId) (field value : Word) (s : State) :
    (amendRecord r field value s).2 = s
      ∨ ∃ v, Admitted r field value v s
        ∧ (amendRecord r field value s).2 = store r field.toNat v s := by
  unfold amendRecord
  split
  · exact .inl rfl
  · next setting known =>
    split
    · exact .inl rfl
    · next state =>
      split
      · exact .inl rfl
      · next v clamped accepted =>
        split
        · exact .inl rfl
        · next blocks =>
          refine .inr ⟨v, ⟨⟨setting, clamped, known, fun only => ?_, accepted⟩,
            Bool.eq_false_iff.mpr blocks⟩, rfl⟩
          simpa [only] using state

theorem amendOwner_cases (table : BitVec 3) (index : BitVec 5) (field value : Word) (s : State) :
    (amendOwner table index field value s).2 = s
      ∨ ∃ r v, recordExists s r = true ∧ Admitted r field value v s
        ∧ (amendOwner table index field value s).2 = store r field.toNat v s := by
  unfold amendOwner
  split
  · exact .inl rfl
  · next r named =>
    have exist : recordExists s r = true := by
      unfold namedRecord at named
      split at named
      · cases named
      · split at named
        · cases named
        · split at named
          · next exist =>
            cases named
            exact exist
          · cases named
    obtain same | ⟨v, admitted, stored⟩ := amendRecord_cases r field value s
    · exact .inl same
    · exact .inr ⟨r, v, exist, admitted, stored⟩

/-- What every value admitted stores is kept, if each store of an existing record keeps it. -/
theorem amendOwner_keeps {P : State → Prop} {table : BitVec 3} {index : BitVec 5} {field value : Word}
    {s : State} (h : P s)
    (op : ∀ r v, recordExists s r = true → Admitted r field value v s → P (store r field.toNat v s)) :
    P (amendOwner table index field value s).2 := by
  obtain same | ⟨r, v, exist, admitted, stored⟩ := amendOwner_cases table index field value s
  · rw [same]
    exact h
  · rw [stored]
    exact op r v exist admitted

theorem storeMask_tyresStand (v : Nat) (s : State) :
    TyresStand s (storeMask v s) := by
  have frame (t : State) (jam : Bool) : TyresStand t (settle (report .jam jam t)) :=
    (report_tyresStand .jam jam t).trans (settle_tyresStand _)
  unfold storeMask
  refine .trans ?_ (frame _ _)
  exact ⟨rfl, rfl, rfl⟩

theorem storeLiftable_tyresStand (a : Fin 4) (v : Nat) (s : State) :
    TyresStand s (storeLiftable a v s) := by
  have put (x : Axle) (l : LiftController) :
      TyresStand s { putAxle a x s with lift := l } := ⟨rfl, rfl, rfl⟩
  unfold storeLiftable
  dsimp only
  split
  · exact .refl s
  split
  · exact (put _ _).trans (requestLift_valveOnly _ _).tyresStand
  · exact (put _ _).trans (requestLift_valveOnly _ _).tyresStand

/-- Of the settings, TWIN and the nominal pressures alone are the tyres'. -/
theorem store_tyresStand {r : RecordId} {n : Nat} (notTwin : ∀ a, r = .axle a → n ≠ 1)
    (notTyre : ∀ p, r ≠ .tyre p) (v : Nat) (s : State) : TyresStand s (store r n v s) := by
  cases r with
  | device =>
    unfold store
    dsimp only
    split
    case h_1 => exact storeMask_tyresStand v s
    case h_4 =>
      exact .trans (t := { s with device := { s.device with stopOnValveFault := v == 1 } })
        ⟨rfl, rfl, rfl⟩ (settle_tyresStand _)
    all_goals exact ⟨rfl, rfl, rfl⟩
  | axle a =>
    unfold store
    dsimp only
    split
    case h_1 => exact absurd rfl (notTwin a rfl)
    case h_2 => exact storeLiftable_tyresStand a v s
    all_goals exact ⟨rfl, rfl, rfl⟩
  | tyre p => exact absurd rfl (notTyre p)
  | candidate k => exact .refl s
  | wheel w | channel c | rollover =>
    unfold store
    dsimp only
    split <;> exact ⟨rfl, rfl, rfl⟩

/-! ### Commands on the tyres -/

/-- An existing position of which nothing moved that the law reads. -/
theorem Tyre.SameHold.of_eq {x y : Tyre} (existing : x.present = true) (id : y.id = x.id)
    (state : y.state = x.state) : x.SameHold y :=
  ⟨existing, id, by rw [state], fun h => state ▸ h⟩

theorem storeTwin_keeps_tyreLaw (a : Fin 4) (v : Nat) {s : State} (law : TyreLaw s) :
    TyreLaw (storeTwin a v s) := by
  unfold storeTwin
  dsimp only
  split
  · exact law
  · refine List.foldlRecOn (motive := TyreLaw) _ _ law fun t lawT p _ => lawT.setTyre fun present => ?_
    split
    · exact .inl (Tyre.free_fresh true)
    · next off =>
      rw [if_neg off] at present
      cases present

theorem store_keeps_tyreLaw (r : RecordId) (n v : Nat) {s : State} (law : TyreLaw s) :
    TyreLaw (store r n v s) := by
  by_cases twin : ∃ a, r = .axle a ∧ n = 1
  · obtain ⟨a, rfl, rfl⟩ := twin
    exact storeTwin_keeps_tyreLaw a v law
  by_cases tyre : ∃ p, r = .tyre p
  · obtain ⟨p, rfl⟩ := tyre
    unfold store
    dsimp only
    split
    · exact law.setTyre fun present => .inr (.of_eq present rfl rfl)
    · exact law
  · exact law.of_tyresStand (store_tyresStand (fun a isAxle isTwin => twin ⟨a, isAxle, isTwin⟩)
      (fun p isTyre => tyre ⟨p, isTyre⟩) v s)

theorem namedTyre_ok {s : State} {table : BitVec 3} {index : BitVec 5} {p : Fin 16}
    (h : namedTyre s table index = .ok p) :
    table = 3 ∧ index.toNat = p.val ∧ s.tyres[p].present = true := by
  unfold namedTyre at h
  split at h
  · next isTyre =>
    split at h
    · split at h
      · next present =>
        cases h
        exact ⟨isTyre, rfl, present⟩
      · cases h
    · cases h
  · cases h

/-- R149, R150: a pairing, of an ID that no position holds. -/
theorem pairTyre_keeps_tyreLaw {p : Fin 16} {x : Tyre} {id : SensorId} {s : State} (law : TyreLaw s)
    (fresh : pairedPosition s id = none) (holds : x.id = some id) (live : x.state = .live) :
    TyreLaw (removeCandidate id (putTyre p x s)) :=
  (law.removeCandidate id).pair (fun q present => law.id_ne_of_pairedPosition fresh q present)
    (fun k listed => by simpa using (List.mem_filter.mp listed).2) holds live

/-- R150 steps 3 to 6: an ENROL of an existing position passes. -/
theorem enrolRefusal_eq_none_iff {s : State} {p : Fin 16} {high : Word} {id : SensorId} :
    enrolRefusal s p high id = none ↔
      ¬(255 < high.toNat ∨ id = 0 ∨ id = 0xFFFFFF) ∧ s.tyres[p].state = .unpaired
        ∧ pairedPosition s id = none := by
  unfold enrolRefusal
  split
  · next range =>
    constructor
    · intro h
      cases h
    · exact fun h => absurd range h.1
  · next range => cases h : s.tyres[p].state <;> simp_all [TyreState.isPaired]

theorem enrolOwner_keeps_tyreLaw (table : BitVec 3) (index : BitVec 5) (high low : Word) {s : State}
    (law : TyreLaw s) : TyreLaw (enrolOwner table index high low s).2 := by
  unfold enrolOwner
  split
  · exact law
  · split
    · exact law
    · next p _ accepted =>
      refine pairTyre_keeps_tyreLaw law ?_ rfl rfl
      exact (enrolRefusal_eq_none_iff.mp accepted).2.2

/-- R153: a LEARNING position that does not pair is free. -/
theorem endLearning_keeps_tyreLaw {p : Fin 16} (result : LearnResult) {s : State} (law : TyreLaw s)
    (learning : s.tyres[p].state = .learning) : TyreLaw (endLearning p result s) :=
  law.putTyre fun present => .inl ⟨law.id_eq_none present (by rw [learning]; simp), rfl⟩

theorem retireOwner_keeps_tyreLaw (table : BitVec 3) (index : BitVec 5) {s : State}
    (law : TyreLaw s) : TyreLaw (retireOwner table index s).2 := by
  unfold retireOwner
  split
  · exact law
  · next p _ =>
    split
    case h_1 => exact law
    case h_2 state => exact endLearning_keeps_tyreLaw _ law state
    case h_3 | h_4 => exact law.putTyre fun _ => .inl ⟨rfl, rfl⟩

theorem learnOwner_keeps_tyreLaw (table : BitVec 3) (index : BitVec 5) {s : State}
    (law : TyreLaw s) : TyreLaw (learnOwner table index s).2 := by
  unfold learnOwner
  split
  · exact law
  · next p named =>
    split
    · next free =>
      obtain ⟨state, noneLearns⟩ := free
      exact law.learn (learningPosition_eq_none_iff.mp noneLearns)
        (law.id_eq_none (namedTyre_ok named).2.2 (by rw [state]; simp)) rfl
    · exact law

theorem learningPosition_state {s : State} {p : Fin 16} (h : learningPosition s = some p) :
    s.tyres[p].present = true ∧ s.tyres[p].state = .learning :=
  (learningPosition_eq_some_iff.mp h).1

theorem cancelLearnOwner_keeps_tyreLaw (index : BitVec 5) {s : State} (law : TyreLaw s) :
    TyreLaw (cancelLearnOwner index s).2 := by
  unfold cancelLearnOwner
  split
  · exact law
  · next p learns => exact endLearning_keeps_tyreLaw _ law (learningPosition_state learns).2

theorem clearLookedUp_keeps_tyreLaw (r : RecordId) (group : BitVec 2) {s : State} (law : TyreLaw s) :
    TyreLaw (clearLookedUp r group s) := by
  cases r with
  | device =>
    unfold clearLookedUp
    dsimp only
    split <;> exact law
  | tyre p => exact law.setTyre fun present => .inr (.of_eq present rfl rfl)
  | axle | wheel | channel | candidate | rollover => exact law

theorem lookupOwner_keeps_tyreLaw (table : BitVec 3) (index : BitVec 5) (group : BitVec 2) {s : State}
    (law : TyreLaw s) : TyreLaw (lookupOwner table index group s).2 := by
  unfold lookupOwner
  split
  · exact law
  split
  · exact law
  split
  · exact clearLookedUp_keeps_tyreLaw _ _ (s := setCursor _ _ s) law
  · unfold clearAbsent
    split <;> exact law

theorem lookupNextOwner_keeps_tyreLaw (index : BitVec 5) (group : BitVec 2) {s : State}
    (law : TyreLaw s) : TyreLaw (lookupNextOwner index group s).2 := by
  unfold lookupNextOwner
  split
  · unfold clearAbsent
    split <;> exact law
  · exact clearLookedUp_keeps_tyreLaw _ _ (s := setCursor _ _ s) law

/-! ### Arrivals and aging -/

theorem pairedPosition_eq_some_iff {s : State} {id : SensorId} {p : Fin 16} :
    pairedPosition s id = some p ↔
      (s.tyres[p].present = true ∧ (s.tyres[p].state = .live ∨ s.tyres[p].state = .missing)
          ∧ s.tyres[p].id = some id)
        ∧ ∀ q < p, ¬(s.tyres[q].present = true
          ∧ (s.tyres[q].state = .live ∨ s.tyres[q].state = .missing) ∧ s.tyres[q].id = some id) := by
  rw [pairedPosition, ← Fin.find?_eq_find?_finRange, Fin.find?_eq_some_iff]
  simp [TyreState.isPaired_iff, and_assoc]

theorem Candidate.heardAgain_id (k : Candidate) (a : Arrival) : (k.heardAgain a).id = k.id := rfl

/-- R143, R144: the list's law at an arrival of an ID that no position holds. -/
theorem listCandidate_keeps_tyreLaw {a : Arrival} {s : State} (law : TyreLaw s)
    (fresh : pairedPosition s a.id = none) : TyreLaw (listCandidate a s) := by
  unfold listCandidate
  dsimp only
  split
  · refine law.setCandidates ?_
    have same : (Candidate.id ∘ fun c => if c.id == a.id then c.heardAgain a else c) = Candidate.id := by
      funext k
      simp only [Function.comp_apply]
      split <;> rfl
    rw [List.map_map, same]
  · next unlisted =>
    obtain ⟨held, unique, learning, short, nodup, unpaired⟩ := law
    have sub : (if 8 ≤ s.supervisor.candidates.length then s.supervisor.candidates.drop 1
        else s.supervisor.candidates).Sublist s.supervisor.candidates := by
      split
      · exact List.drop_sublist _ _
      · exact .refl _
    have room : (if 8 ≤ s.supervisor.candidates.length then s.supervisor.candidates.drop 1
        else s.supervisor.candidates).length ≤ 7 := by
      split
      · rw [List.length_drop]
        omega
      · omega
    have notListed : ∀ k ∈ s.supervisor.candidates, k.id ≠ a.id := by simpa using unlisted
    refine ⟨held, unique, learning, ?_, ?_, fun k listed p present => ?_⟩
    · change (_ ++ [a.candidate]).length ≤ 8
      rw [List.length_append, List.length_singleton]
      omega
    · change ((_ ++ [a.candidate]).map Candidate.id).Nodup
      rw [List.map_append, List.nodup_append]
      refine ⟨nodup.sublist (sub.map _), List.nodup_singleton _, fun i old j new same => ?_⟩
      obtain ⟨k, listed, rfl⟩ := List.mem_map.mp old
      rw [List.map_singleton, List.mem_singleton] at new
      exact notListed k (sub.subset listed) (same.trans new)
    · obtain old | new := List.mem_append.mp listed
      · exact unpaired k (sub.subset old) p present
      · rw [List.mem_singleton.mp new]
        exact TyreLaw.id_ne_of_pairedPosition
          ⟨held, unique, learning, short, nodup, unpaired⟩ fresh p present

theorem takeArrival_keeps_tyreLaw (a : Arrival) {s : State} (law : TyreLaw s) :
    TyreLaw (takeArrival a s) := by
  unfold takeArrival
  split
  · next p found =>
    obtain ⟨⟨present, paired, -⟩, -⟩ := pairedPosition_eq_some_iff.mp found
    exact law.putTyre fun _ => .inr ⟨present, rfl, iff_of_true (.inl rfl) paired, fun h => nomatch h⟩
  · next fresh =>
    split
    · split
      · exact pairTyre_keeps_tyreLaw law fresh rfl rfl
      · exact listCandidate_keeps_tyreLaw law fresh
    · exact listCandidate_keeps_tyreLaw law fresh

/-- The line counters, the receiver and the clock are no part of the tyres' law. -/
theorem assemble_keeps_tyreLaw (b : Option Byte) {s : State} (law : TyreLaw s) :
    TyreLaw (assemble b s) := by
  unfold assemble takeTelegram
  dsimp only
  split
  · exact law
  split
  · split <;> exact law
  split
  · exact law
  split
  case h_1 | h_2 => exact law
  case h_3 => exact takeArrival_keeps_tyreLaw _ law

/-- R158: aging makes a LIVE position MISSING at most. -/
theorem Tyre.aged_state (x : Tyre) (timeout : Nat) :
    (x.aged timeout).state = x.state
      ∨ x.state = .live ∧ (x.aged timeout).state = .missing := by
  by_cases h : x.state = .live ∧
      timeout ≤ (if x.state.isPaired then min 65535 (x.age + 1) else x.age)
  · exact .inr ⟨h.1, if_pos h⟩
  · exact .inl (if_neg h)

theorem ageTyre_keeps_tyreLaw (p : Fin 16) {s : State} (law : TyreLaw s) : TyreLaw (ageTyre p s) := by
  unfold ageTyre
  split
  · refine law.putTyre fun present => .inr ?_
    obtain same | ⟨live, missing⟩ := s.tyres[p].aged_state s.device.missingTimeout
    · exact .of_eq present rfl same
    · exact ⟨present, rfl, iff_of_true (.inr missing) (.inl live), fun h => by
        rw [missing] at h; cases h⟩
  · exact law

theorem ageCandidates_ids (l : List Candidate) :
    ((ageCandidates l).map Candidate.id).Sublist (l.map Candidate.id) := by
  have same : (l.map fun c => { c with age := c.age + 1 }).map Candidate.id = l.map Candidate.id := by
    rw [List.map_map]
    rfl
  rw [← same]
  exact List.filter_sublist.map _

/-! ### The resets -/

theorem freshTyres_free (layout : BitVec 2) (p : Fin 16) : (freshTyres layout)[p].Free := by
  simp only [freshTyres, Fin.getElem_fin, Vector.getElem_ofFn]
  exact Tyre.free_fresh _

/-- Records at their defaults hold nothing. -/
theorem TyreLaw.of_fresh {s t : State} (law : TyreLaw s) {layout : BitVec 2}
    (tyres : t.tyres = freshTyres layout)
    (candidates : (t.supervisor.candidates.map Candidate.id).Sublist
      (s.supervisor.candidates.map Candidate.id)) : TyreLaw t :=
  law.of_stand_or_free (fun p _ => .inl (by rw [tyres]; exact freshTyres_free layout p)) candidates

theorem Tyre.restart_sameHold {x : Tyre} (existing : x.present = true) :
    x.restart.Free ∨ x.SameHold x.restart := by
  unfold Tyre.restart
  rw [if_pos existing]
  split
  · next state => exact .inr ⟨existing, rfl, by simp [state], fun h => nomatch h⟩
  · next state => exact .inr ⟨existing, rfl, by simp [state], fun h => nomatch h⟩
  · exact .inl ⟨rfl, rfl⟩
  · exact .inl ⟨rfl, rfl⟩

theorem Tyre.restart_present (x : Tyre) : x.restart.present = x.present := by
  unfold Tyre.restart
  split
  · next existing => split <;> exact existing.symm
  · rfl

theorem restart_tyre (s : State) (p : Fin 16) : (restart s).tyres[p] = s.tyres[p].restart := by
  simp [restart, startInit]

theorem restart_keeps_tyreLaw {s : State} (law : TyreLaw s) : TyreLaw (restart s) := by
  refine law.of_stand_or_free (fun p present => ?_) (List.nil_sublist _)
  rw [restart_tyre] at present ⊢
  rw [Tyre.restart_present] at present
  exact Tyre.restart_sameHold present

theorem beginFullReset_keeps_tyreLaw {s : State} (law : TyreLaw s) : TyreLaw (beginFullReset s) :=
  law.of_fresh rfl (List.nil_sublist _)

theorem endFullReset_keeps_tyreLaw (straps : BitVec 2) {s : State} (law : TyreLaw s) :
    TyreLaw (endFullReset straps s) := by
  unfold endFullReset
  split
  · exact law
  · exact law.of_fresh (layout := straps) rfl (.refl _)

/-! ### Every command -/

theorem serves_drove (c : Fin 4) (s : State) :
    Drove s (serveExhaust c (serveInlet c s)) :=
  (serveInlet_drove c s).trans (serveExhaust_drove c _)

theorem shortCircuit_tyresStand (o : Fin 13) (s : State) :
    TyresStand s (settle (report (.valveShort o) true (deenergise o s))) :=
  ((deenergise_valveOnly o s).tyresStand.trans (report_tyresStand _ _ _)).trans (settle_tyresStand _)

/-- What holds in both cases of a condition. -/
theorem keeps_ite {P : State → Prop} {b : Prop} [Decidable b] {x y : State} (yes : b → P x)
    (no : ¬b → P y) : P (if b then x else y) := by
  split
  · next h => exact yes h
  · next h => exact no h

/-- The commands that may write a TYRE record or the candidate list. -/
def onTyres : Instr → Bool
  | .powerOn _ | .logicSupplyLow | .logicSupplyRestored _ | .resetLineAssert | .resetLineRelease _
  | .characterComplete _ _ _ _ | .agingExpiry | .learnTimerExpiry | .lookup _ _ _ | .lookupNext _ _
  | .amend _ _ _ _ | .enrol _ _ _ _ | .retire _ _ | .learn _ _ | .cancelLearn _ | .softReset _ => true
  | _ => false

section TyresStand

variable {s : State}

/-- A change of what is neither the queue's nor the tyres'. -/
theorem TyresStand.congr {t u : State} (h : TyresStand s t) (pending : u.pending = t.pending)
    (tyres : u.tyres = t.tyres) (candidates : u.supervisor.candidates = t.supervisor.candidates) :
    TyresStand s u :=
  h.trans ⟨pending, tyres, candidates⟩

theorem TyresStand.from {t u : State} (h : TyresStand t u) (pending : t.pending = s.pending)
    (tyres : t.tyres = s.tyres) (candidates : t.supervisor.candidates = s.supervisor.candidates) :
    TyresStand s u :=
  .trans ⟨pending, tyres, candidates⟩ h

theorem TyresStand.link {t : State} (h : TyresStand s t) (l : Link) :
    TyresStand s { t with link := l } :=
  h.congr rfl rfl rfl

theorem request_tyresStand {kind : BitVec 6} {owner : State → Reply × State}
    (op : ∀ u, TyresStand u (owner u).2) : TyresStand s (request kind owner s) :=
  request_keeps (P := TyresStand s) (fun _ l h => h.link l) (.refl s) fun u _ _ h => h.trans (op u)

theorem whileRunning_tyresStand {f : State → State} (op : TyresStand s (f s)) :
    TyresStand s (whileRunning f s) :=
  whileRunning_keeps (P := TyresStand s) (.refl s) fun _ => op

end TyresStand

theorem raiseTimer_tyresStand (a : Fin 4) (t : State) :
    TyresStand t (report .lift true (startLowering a t)) :=
  (startLowering_liftOnly a t).tyresStand.trans (report_tyresStand _ _ _)

theorem exerciseChannel_drove (c : Fin 4) (index : BitVec 5) (argument : Word) (s : State) :
    Drove s (exerciseChannel c index argument s).2 := by
  unfold exerciseChannel
  split
  · exact .refl s
  split
  · exact .refl s
  split
  · exact (setChannel_drove ⟨rfl, fun _ => Channel.arbitrate_arbitrated _⟩).trans
      (requestAction_drove _ _ _)
  · exact .refl s

theorem exerciseOwner_drove (table : BitVec 3) (index : BitVec 5) (argument : Word) (s : State) :
    Drove s (exerciseOwner table index argument s).2 := by
  unfold exerciseOwner
  split
  · split
    · split
      · exact exerciseChannel_drove _ _ _ s
      · exact .refl s
    · exact .refl s
  · exact .refl s

theorem goActiveOwner_tyresStand (index : BitVec 5) (s : State) :
    TyresStand s (goActiveOwner index s).2 := by
  have entered := setDeviceState_tyresStand .active s
  unfold goActiveOwner
  split
  case h_1 | h_4 => exact .refl s
  case h_2 =>
    dsimp only
    exact entered
  case h_3 =>
    split
    · exact .refl s
    · dsimp only
      exact entered

theorem goStandbyOwner_tyresStand (index : BitVec 5) (s : State) :
    TyresStand s (goStandbyOwner index s).2 := by
  unfold goStandbyOwner
  refine keeps_ite (P := TyresStand s) (fun _ => ?_) fun _ => .refl s
  exact (endExercises_drove s).toValveOnly.tyresStand.trans (setDeviceState_tyresStand _ _)

theorem liftCommandOwner_tyresStand (index : BitVec 5) (mode : Word) (s : State) :
    TyresStand s (liftCommandOwner index mode s).2 := by
  unfold liftCommandOwner
  split
  · exact .refl s
  · split <;> exact ⟨rfl, rfl, rfl⟩

theorem setAttentionOwner_tyresStand (index : BitVec 5) (enables : Word) (s : State) :
    TyresStand s (setAttentionOwner index enables s).2 := by
  unfold setAttentionOwner
  split <;> exact ⟨rfl, rfl, rfl⟩

theorem ackFaultsOwner_tyresStand (index : BitVec 5) (s : State) :
    TyresStand s (ackFaultsOwner index s).2 := by
  unfold ackFaultsOwner
  dsimp only
  exact (settle_tyresStand _).from rfl rfl rfl

theorem setJam_tyresStand (jam : Bool) (s : State) : TyresStand s (setJam jam s) :=
  have frame := report_tyresStand .jam jam (s.setReceiver { s.receiver with jam := jam })
  ⟨frame.pending, frame.tyres, frame.candidates⟩

theorem exec_tyresStand {i : Instr} {s t : State} (h : exec i s = .next t)
    (other : onTyres i = false) : TyresStand s t := by
  cases i
  all_goals obtain rfl := Host.Outcome.next.inj h
  case powerOn | logicSupplyLow | logicSupplyRestored | resetLineAssert | resetLineRelease |
      characterComplete | agingExpiry | learnTimerExpiry | lookup | lookupNext | amend | enrol |
      retire | learn | cancelLearn | softReset => cases other
  case initTimerExpiry =>
    refine whileRunning_tyresStand (keeps_ite (P := TyresStand s) (fun _ => ?_) fun _ => .refl s)
    have entered := setDeviceState_tyresStand .standby
      { s with device := { s.device with initTimer := none } }
    exact (entered.trans (forEach_drove leaveOff_drove _).toValveOnly.tyresStand).from rfl rfl rfl
  case failsafeAssert =>
    have frame (t : State) := (forceLowering_liftOnly t).tyresStand.trans (settle_tyresStand _)
    exact whileRunning_keeps (P := TyresStand s) ⟨rfl, rfl, rfl⟩ fun _ =>
      (frame _).from rfl rfl rfl
  case failsafeRelease =>
    exact whileRunning_keeps (P := TyresStand s) ⟨rfl, rfl, rfl⟩ fun _ =>
      (settle_tyresStand _).from rfl rfl rfl
  case scanCompletion r order =>
    exact whileRunning_tyresStand (keeps_ite (P := TyresStand s)
      (fun _ => (scanCompletion_scanned r order s).tyresStand) fun _ => .refl s)
  case sampleSet now lines first =>
    exact whileRunning_tyresStand (keeps_ite (P := TyresStand s)
      (fun _ => sampleSet_tyresStand now lines first s) fun _ => .refl s)
  case wheelEdge w now =>
    exact whileRunning_tyresStand (keeps_ite (P := TyresStand s)
      (fun _ => ⟨rfl, rfl, rfl⟩) fun _ => ⟨rfl, rfl, rfl⟩)
  case shortCircuitTrip o =>
    exact whileRunning_tyresStand (keeps_ite (P := TyresStand s)
      (fun _ => shortCircuit_tyresStand o s) fun _ => .refl s)
  case changeoverGapExpiry c =>
    exact keeps_ite (P := TyresStand s) (fun _ => 
      (serves_drove c _).toValveOnly.tyresStand.from rfl rfl rfl) fun _ => .refl s
  case blankingTimerExpiry o =>
    exact whileRunning_tyresStand (keeps_ite (P := TyresStand s)
      (fun _ => ⟨rfl, rfl, rfl⟩) fun _ => .refl s)
  case raiseTimerExpiry =>
    refine whileRunning_tyresStand (keeps_ite (P := TyresStand s) (fun _ => ?_) fun _ => .refl s)
    dsimp only
    split
    · exact ⟨rfl, rfl, rfl⟩
    · split
      · exact (raiseTimer_tyresStand _ _).from rfl rfl rfl
      · exact ⟨rfl, rfl, rfl⟩
  case loweringTimerExpiry =>
    refine whileRunning_tyresStand (keeps_ite (P := TyresStand s) (fun _ => ?_) fun _ => .refl s)
    dsimp only
    split
    · exact ⟨rfl, rfl, rfl⟩
    · split
      · split <;> exact ⟨rfl, rfl, rfl⟩
      · exact ⟨rfl, rfl, rfl⟩
  case supplyTimerExpiry c =>
    exact whileRunning_tyresStand (keeps_ite (P := TyresStand s)
      (fun _ => keeps_ite (P := TyresStand s) (fun _ => ⟨rfl, rfl, rfl⟩) fun _ => ⟨rfl, rfl, rfl⟩)
      fun _ => .refl s)
  case exerciseTimerExpiry c =>
    exact whileRunning_tyresStand (keeps_ite (P := TyresStand s)
      (fun _ => keeps_ite (P := TyresStand s)
        (fun _ => (finishExercise_drove c _ s).toValveOnly.tyresStand) fun _ => ⟨rfl, rfl, rfl⟩)
      fun _ => .refl s)
  case holdTimerExpiry c =>
    exact whileRunning_tyresStand (keeps_ite (P := TyresStand s)
      (fun _ => ⟨rfl, rfl, rfl⟩) fun _ => .refl s)
  case stepTimerExpiry c =>
    exact whileRunning_tyresStand (keeps_ite (P := TyresStand s)
      (fun _ => ⟨rfl, rfl, rfl⟩) fun _ => .refl s)
  case testTimerExpiry =>
    exact whileRunning_tyresStand (keeps_ite (P := TyresStand s)
      (fun _ => (testTimerExpired_monitorOnly s).tyresStand) fun _ => .refl s)
  case testSpacingExpiry => exact whileRunning_tyresStand ⟨rfl, rfl, rfl⟩
  case interventionMinExpiry => exact whileRunning_tyresStand ⟨rfl, rfl, rfl⟩
  case rampStepExpiry =>
    exact whileRunning_tyresStand (keeps_ite (P := TyresStand s)
      (fun _ => (rampStepExpired_monitorOnly s).tyresStand) fun _ => .refl s)
  case lineToSpacing | lineToMarking =>
    exact keeps_ite (P := TyresStand s) (fun _ => ⟨rfl, rfl, rfl⟩) fun _ => ⟨rfl, rfl, rfl⟩
  case jamTimerExpiry | markTimerExpiry =>
    exact whileRunning_tyresStand (keeps_ite (P := TyresStand s)
      (fun _ => (setJam_tyresStand _ _).from rfl rfl rfl) fun _ => .refl s)
  case gapTimerExpiry | startBitTaken =>
    exact whileRunning_tyresStand (keeps_ite (P := TyresStand s)
      (fun _ => ⟨rfl, rfl, rfl⟩) fun _ => .refl s)
  case selectFall => exact ⟨rfl, rfl, rfl⟩
  case emptyTransaction =>
    exact transact_keeps (P := TyresStand s) (fun _ l h => h.link l) (.refl s) fun _ _ _ h => h
  case frameError header =>
    exact transact_keeps (P := TyresStand s) (fun _ l h => h.link l) (.refl s) fun u _ _ h =>
      ((h.trans (report_tyresStand .linkFrame true u)).trans
        (report_tyresStand .linkFrame false _)).link _
  case initTransaction =>
    rw [closeTransaction_openTransaction]
    exact ⟨rfl, rfl, rfl⟩
  case unknownRequest | nop => exact request_tyresStand fun u => .refl u
  case liftCommand index mode => exact request_tyresStand (liftCommandOwner_tyresStand index mode)
  case exercise table index argument =>
    exact request_tyresStand fun u =>
      (exerciseOwner_drove table index argument u).toValveOnly.tyresStand
  case goActive index => exact request_tyresStand (goActiveOwner_tyresStand index)
  case goStandby index => exact request_tyresStand (goStandbyOwner_tyresStand index)
  case ackFaults index =>
    exact request_tyresStand (ackFaultsOwner_tyresStand index)
  case setAttention index enables =>
    exact request_tyresStand (setAttentionOwner_tyresStand index enables)

theorem request_keeps_tyreLaw {kind : BitVec 6} {owner : State → Reply × State} {s : State}
    (law : TyreLaw s) (op : ∀ u, TyreLaw u → TyreLaw (owner u).2) :
    TyreLaw (request kind owner s) :=
  request_keeps (P := TyreLaw) (fun _ _ h => h) law fun u _ _ => op u

theorem exec_keeps_tyreLaw (i : Instr) (s t : State) (law : TyreLaw s) (h : exec i s = .next t) :
    TyreLaw t := by
  by_cases other : onTyres i = false
  · exact law.of_tyresStand (exec_tyresStand h other)
  cases i
  case initTimerExpiry | failsafeAssert | failsafeRelease | scanCompletion | sampleSet | wheelEdge |
      shortCircuitTrip | changeoverGapExpiry | blankingTimerExpiry | raiseTimerExpiry |
      loweringTimerExpiry | supplyTimerExpiry | exerciseTimerExpiry | holdTimerExpiry |
      stepTimerExpiry | testTimerExpiry | testSpacingExpiry | interventionMinExpiry |
      rampStepExpiry | lineToSpacing | lineToMarking | jamTimerExpiry | markTimerExpiry |
      gapTimerExpiry | selectFall | emptyTransaction | frameError | initTransaction |
      unknownRequest | nop | liftCommand | exercise | goActive | goStandby | ackFaults |
      setAttention | startBitTaken => exact absurd rfl other
  all_goals obtain rfl := Host.Outcome.next.inj h
  case powerOn straps =>
    exact endFullReset_keeps_tyreLaw straps (beginFullReset_keeps_tyreLaw law)
  case logicSupplyLow | resetLineAssert =>
    exact keeps_ite (P := TyreLaw) (fun _ => law) fun _ =>
      law.of_fresh (layout := s.device.layout) rfl (List.nil_sublist _)
  case logicSupplyRestored straps =>
    exact keeps_ite (P := TyreLaw) (fun _ => endFullReset_keeps_tyreLaw straps
      (s := { s with device := { s.device with supplyFail := false } }) law) fun _ => law
  case resetLineRelease straps =>
    exact keeps_ite (P := TyreLaw) (fun _ => endFullReset_keeps_tyreLaw straps
      (s := { s with device := { s.device with resetLow := false } }) law) fun _ => law
  case characterComplete data parity stop nowMs =>
    refine whileRunning_keeps (P := TyreLaw) law fun _ => ?_
    split
    · exact law
    · refine assemble_keeps_tyreLaw _ ?_
      exact law
  case agingExpiry =>
    exact whileRunning_keeps (P := TyreLaw) law fun _ => keeps_ite (P := TyreLaw)
      (fun _ => forEach_keeps TyreLaw (fun p _ => ageTyre_keeps_tyreLaw p) _
        (law.setCandidates (ageCandidates_ids _))) fun _ => law
  case learnTimerExpiry =>
    refine whileRunning_keeps (P := TyreLaw) law fun _ => ?_
    split
    · next p learns =>
      exact keeps_ite (P := TyreLaw)
        (fun _ => endLearning_keeps_tyreLaw _ law (learningPosition_state learns).2) fun _ => law
    · exact law
  case lookup table index group =>
    exact request_keeps_tyreLaw law fun u => lookupOwner_keeps_tyreLaw table index group
  case lookupNext index group =>
    exact request_keeps_tyreLaw law fun u => lookupNextOwner_keeps_tyreLaw index group
  case amend table index field value =>
    exact request_keeps_tyreLaw law fun u lawU =>
      amendOwner_keeps lawU fun r v _ _ => store_keeps_tyreLaw r _ v lawU
  case enrol table index high low =>
    exact request_keeps_tyreLaw law fun u => enrolOwner_keeps_tyreLaw table index high low
  case retire table index =>
    exact request_keeps_tyreLaw law fun u => retireOwner_keeps_tyreLaw table index
  case learn table index =>
    exact request_keeps_tyreLaw law fun u => learnOwner_keeps_tyreLaw table index
  case cancelLearn index =>
    exact request_keeps_tyreLaw law fun u => cancelLearnOwner_keeps_tyreLaw index
  case softReset index =>
    exact transact_keeps (P := TyreLaw) (fun _ _ h => h) law fun u _ _ => restart_keeps_tyreLaw

/-- Settles O55: command by command. -/
theorem tyreLawKept : Obligations.TyreLawKept := fun _ _ law stepped =>
  step_keeps (P := TyreLaw) (fun _ _ h => h) exec_keeps_tyreLaw law stepped

/-! ### The queue -/

/-- The commands that wait stand. -/
def QueueStands (s t : State) : Prop := t.pending = s.pending

theorem clearLookedUp_queue (r : RecordId) (group : BitVec 2) (s : State) :
    QueueStands s (clearLookedUp r group s) := by
  cases r with
  | device =>
    unfold clearLookedUp
    dsimp only
    split <;> rfl
  | axle | wheel | tyre | channel | candidate | rollover => rfl

theorem clearAbsent_queue (table : TableId) (s : State) : QueueStands s (clearAbsent table s) := by
  cases table <;> rfl

theorem lookupOwner_queue (table : BitVec 3) (index : BitVec 5) (group : BitVec 2) (s : State) :
    QueueStands s (lookupOwner table index group s).2 := by
  unfold lookupOwner
  split
  · rfl
  split
  · rfl
  split
  · exact clearLookedUp_queue _ _ (setCursor _ _ s)
  · exact clearAbsent_queue _ (setCursor _ _ s)

theorem lookupNextOwner_queue (index : BitVec 5) (group : BitVec 2) (s : State) :
    QueueStands s (lookupNextOwner index group s).2 := by
  unfold lookupNextOwner
  split
  · exact clearAbsent_queue _ s
  · exact clearLookedUp_queue _ _ (setCursor _ _ s)

theorem storeTwin_queue (a : Fin 4) (v : Nat) (s : State) : QueueStands s (storeTwin a v s) := by
  unfold storeTwin
  refine keeps_ite (P := QueueStands s) (fun _ => rfl) fun _ => ?_
  exact List.foldlRecOn (motive := QueueStands s) _ _ rfl fun t h p _ => h

theorem store_queue (r : RecordId) (n v : Nat) (s : State) : QueueStands s (store r n v s) := by
  by_cases twin : ∃ a, r = .axle a ∧ n = 1
  · obtain ⟨a, rfl, rfl⟩ := twin
    exact storeTwin_queue a v s
  by_cases tyre : ∃ p, r = .tyre p
  · obtain ⟨p, rfl⟩ := tyre
    unfold store
    dsimp only
    split <;> rfl
  · exact (store_tyresStand (fun a isAxle isTwin => twin ⟨a, isAxle, isTwin⟩)
      (fun p isTyre => tyre ⟨p, isTyre⟩) v s).pending

theorem listCandidate_queue (a : Arrival) (s : State) : QueueStands s (listCandidate a s) := by
  unfold listCandidate
  exact keeps_ite (P := QueueStands s) (fun _ => rfl) fun _ => rfl

theorem takeArrival_queue (a : Arrival) (s : State) : QueueStands s (takeArrival a s) := by
  have listed := listCandidate_queue a s
  unfold takeArrival
  split
  · rfl
  split
  · exact keeps_ite (P := QueueStands s) (fun _ => rfl) fun _ => listed
  · exact listed

theorem assemble_queue (b : Option Byte) (s : State) : QueueStands s (assemble b s) := by
  unfold assemble takeTelegram
  dsimp only
  split
  · rfl
  split
  · split <;> rfl
  split
  · rfl
  split
  case h_1 | h_2 => rfl
  case h_3 => exact takeArrival_queue _ _

theorem ageTyre_queue (p : Fin 16) (s : State) : QueueStands s (ageTyre p s) := by
  unfold ageTyre
  exact keeps_ite (P := QueueStands s) (fun _ => rfl) fun _ => rfl

theorem namedTyre_owners_queue (table : BitVec 3) (index : BitVec 5) (s : State) :
    (∀ high low, QueueStands s (enrolOwner table index high low s).2)
      ∧ QueueStands s (retireOwner table index s).2 ∧ QueueStands s (learnOwner table index s).2 := by
  unfold enrolOwner retireOwner learnOwner
  refine ⟨fun high low => ?_, ?_, ?_⟩
  · split
    · rfl
    · split <;> rfl
  · split
    · rfl
    · split <;> rfl
  · split
    · rfl
    · split <;> rfl

theorem cancelLearnOwner_queue (index : BitVec 5) (s : State) :
    QueueStands s (cancelLearnOwner index s).2 := by
  unfold cancelLearnOwner
  split <;> rfl

theorem request_queue {kind : BitVec 6} {owner : State → Reply × State} {s : State}
    (op : ∀ u, QueueStands u (owner u).2) : QueueStands s (request kind owner s) :=
  request_keeps (P := QueueStands s) (fun _ _ h => h) rfl fun u _ _ h => (op u).trans h

theorem endFullReset_queue (straps : BitVec 2) (s : State) :
    QueueStands s (endFullReset straps s) :=
  keeps_ite (P := QueueStands s) (fun _ => rfl) fun _ => rfl

theorem exec_queue (i : Instr) (s t : State) (h : exec i s = .next t) : QueueStands s t := by
  by_cases other : onTyres i = false
  · exact (exec_tyresStand h other).pending
  cases i
  case initTimerExpiry | failsafeAssert | failsafeRelease | scanCompletion | sampleSet | wheelEdge |
      shortCircuitTrip | changeoverGapExpiry | blankingTimerExpiry | raiseTimerExpiry |
      loweringTimerExpiry | supplyTimerExpiry | exerciseTimerExpiry | holdTimerExpiry |
      stepTimerExpiry | testTimerExpiry | testSpacingExpiry | interventionMinExpiry |
      rampStepExpiry | lineToSpacing | lineToMarking | jamTimerExpiry | markTimerExpiry |
      gapTimerExpiry | selectFall | emptyTransaction | frameError | initTransaction |
      unknownRequest | nop | liftCommand | exercise | goActive | goStandby | ackFaults |
      setAttention | startBitTaken => exact absurd rfl other
  all_goals obtain rfl := Host.Outcome.next.inj h
  case powerOn straps => exact endFullReset_queue straps (beginFullReset s)
  case logicSupplyLow | resetLineAssert =>
    exact keeps_ite (P := QueueStands s) (fun _ => rfl) fun _ => rfl
  case logicSupplyRestored straps | resetLineRelease straps =>
    exact keeps_ite (P := QueueStands s) (fun _ => endFullReset_queue straps _) fun _ => rfl
  case characterComplete data parity stop nowMs =>
    refine whileRunning_keeps (P := QueueStands s) rfl fun _ => ?_
    split
    · rfl
    · exact assemble_queue _ _
  case agingExpiry =>
    exact whileRunning_keeps (P := QueueStands s) rfl fun _ => keeps_ite (P := QueueStands s)
      (fun _ => forEach_keeps (QueueStands s) (fun p _ h => (ageTyre_queue p _).trans h) _ rfl)
      fun _ => rfl
  case learnTimerExpiry =>
    refine whileRunning_keeps (P := QueueStands s) rfl fun _ => ?_
    split
    · exact keeps_ite (P := QueueStands s) (fun _ => rfl) fun _ => rfl
    · rfl
  case lookup table index group => exact request_queue (lookupOwner_queue table index group)
  case lookupNext index group => exact request_queue (lookupNextOwner_queue index group)
  case amend table index field value =>
    exact request_queue fun u => amendOwner_keeps (P := QueueStands u) rfl
      fun r v _ _ => store_queue r _ v u
  case enrol table index high low =>
    exact request_queue fun u => (namedTyre_owners_queue table index u).1 high low
  case retire table index => exact request_queue fun u => (namedTyre_owners_queue table index u).2.1
  case learn table index => exact request_queue fun u => (namedTyre_owners_queue table index u).2.2
  case cancelLearn index => exact request_queue (cancelLearnOwner_queue index)
  case softReset index =>
    exact transact_keeps (P := QueueStands s) (fun _ _ h => h) rfl fun u _ _ h => h

/-- Settles O1: a step is the meaning of the front command, and no meaning touches the queue. -/
theorem stepCarriesOutFrontOfQueue : Obligations.StepCarriesOutFrontOfQueue := by
  refine ⟨fun i rest s => ⟨rfl, rfl⟩, fun i s => ?_⟩
  obtain ⟨t, h⟩ := exec_next i s
  exact ⟨t, h, exec_queue i s t h⟩

end Sys2Proof.Machine
end

section
/-! Proofs about the law of the arbiters and of the anti-lock control (sections 6.1 and 7.3), and what the
Rollover Monitor's operations are made of. -/

namespace Sys2Proof.Machine

/-! ### What the Rollover Monitor's operations are made of -/

/-- A predicate that the parts of the Rollover Monitor's operations keep: a write of the ROLLOVER record, its
attention event, the forced lowering demand, and a request handed to an arbiter. -/
structure MonitorClosed (P : State → Prop) : Prop where
  record : ∀ {s} r, P s → P (s.setRollover r)
  event : ∀ {s}, P s → P (raiseRollover s)
  lowering : ∀ {s}, P s → P (forceLowering s)
  request : ∀ {s} v c, P s → P (handRequest v c s)

namespace MonitorClosed

variable {P : State → Prop} {s : State}

theorem requests (closed : MonitorClosed P) (v : Fin 4 → State → Nat) (h : P s) :
    P (forEach 4 (fun c s => handRequest (v c s) c s) s) :=
  forEach_keeps P (fun c t => closed.request (v c t) c) s h

theorem handAll (closed : MonitorClosed P) (v : Nat) (h : P s) : P (handAll v s) :=
  closed.requests (fun _ _ => v) (closed.record _ h)

theorem endTest (closed : MonitorClosed P) (result : TestResult) (h : P s) : P (endTest result s) :=
  keeps_ite (fun _ => closed.record _ h) fun _ => h

theorem withdraw (closed : MonitorClosed P) (next : RolloverState) (h : P s) :
    P (withdraw next s) :=
  closed.handAll 0 (closed.record _ (closed.endTest .noResult h))

theorem enterOff (closed : MonitorClosed P) (h : P s) : P (enterOff s) :=
  keeps_ite (fun _ => h) fun _ =>
    keeps_ite (fun _ => closed.event (closed.withdraw .off h)) fun _ => closed.withdraw .off h

theorem enterDegraded (closed : MonitorClosed P) (h : P s) : P (enterDegraded s) :=
  closed.event (closed.withdraw .degraded h)

theorem enterMonitor (closed : MonitorClosed P) (h : P s) : P (enterMonitor s) :=
  keeps_ite (fun _ => closed.event (closed.record _ h)) fun _ => closed.record _ h

theorem applyOffAndDegraded (closed : MonitorClosed P) (degraded : Bool) (h : P s) :
    P (applyOffAndDegraded degraded s) := by
  unfold Machine.applyOffAndDegraded
  refine keeps_ite (fun _ => closed.enterOff h) fun _ => ?_
  split
  case h_1 => exact keeps_ite (fun _ => closed.enterDegraded h) fun _ => closed.enterMonitor h
  case h_2 => exact keeps_ite (fun _ => h) fun _ => closed.enterMonitor h
  case h_3 | h_4 | h_5 => exact keeps_ite (fun _ => closed.enterDegraded h) fun _ => h
  case h_6 | h_7 => exact h

theorem enterIntervene (closed : MonitorClosed P) (h : P s) : P (enterIntervene s) :=
  closed.event (closed.handAll _ (closed.record _ h))

theorem enterTest (closed : MonitorClosed P) (h : P s) : P (enterTest s) :=
  closed.requests
    (fun c t => testRequest t (innerSide s.rollover.filtered s.rollover.inner) c) (closed.record _ h)

theorem enterRecover (closed : MonitorClosed P) (h : P s) : P (enterRecover s) :=
  closed.record _ h

theorem alertRule (closed : MonitorClosed P) (h : P s) : P (alertRule s) :=
  keeps_ite (fun _ => closed.enterIntervene h) fun _ => keeps_ite (fun _ => closed.record _ h)
    fun _ => keeps_ite (fun _ => closed.enterTest h) fun _ => h

theorem monitorRule (closed : MonitorClosed P) (h : P s) : P (monitorRule s) :=
  keeps_ite (fun _ => closed.enterIntervene (closed.lowering h)) fun _ =>
    keeps_ite (fun _ => closed.alertRule (closed.lowering (closed.record _ h))) fun _ => h

theorem testRule (closed : MonitorClosed P) (h : P s) : P (testRule s) :=
  keeps_ite (fun _ => closed.enterIntervene (closed.endTest _ h)) fun _ =>
    keeps_ite (fun _ => closed.enterIntervene (closed.endTest _ h)) fun _ => h

theorem interveneRule (closed : MonitorClosed P) (degraded : Bool) (h : P s) :
    P (interveneRule degraded s) :=
  keeps_ite (fun _ => closed.enterRecover (closed.record _ h)) fun _ =>
    keeps_ite (fun _ => closed.enterRecover (closed.record _ h)) fun _ =>
      keeps_ite (fun _ => closed.enterRecover (closed.record _ h)) fun _ => closed.record _ h

theorem recoverRule (closed : MonitorClosed P) (degraded : Bool) (h : P s) :
    P (recoverRule degraded s) :=
  keeps_ite (fun _ => closed.enterIntervene h) fun _ => h

theorem estimate (closed : MonitorClosed P) (h : P s) : P (estimate s) := closed.record _ h

theorem rolloverSample (closed : MonitorClosed P) (h : P s) : P (rolloverSample s) := by
  have staged := closed.applyOffAndDegraded (degradedCondition s)
    (closed.record { s.rollover with degradedSeen := degradedCondition s } h)
  unfold Machine.rolloverSample
  dsimp only
  split
  case h_1 | h_2 => exact staged
  case h_3 => exact closed.monitorRule (closed.estimate staged)
  case h_4 => exact closed.alertRule (closed.estimate staged)
  case h_5 => exact closed.testRule (closed.estimate staged)
  case h_6 => exact closed.interveneRule _ (closed.estimate staged)
  case h_7 => exact closed.recoverRule _ (closed.estimate staged)

theorem leaveRecover (closed : MonitorClosed P) (h : P s) : P (leaveRecover s) :=
  keeps_ite (fun _ => closed.enterOff h) fun _ =>
    keeps_ite (fun _ => closed.enterDegraded h) fun _ => closed.record _ h

theorem testTimerExpired (closed : MonitorClosed P) (h : P s) : P (testTimerExpired s) :=
  keeps_ite (fun _ => closed.handAll 0 (closed.record _ (closed.endTest _ h))) fun _ =>
    closed.record _ h

theorem rampStepExpired (closed : MonitorClosed P) (h : P s) : P (rampStepExpired s) :=
  keeps_ite (fun _ => keeps_ite (fun _ => closed.record _ (closed.handAll _ h)) fun _ =>
    closed.leaveRecover (closed.record _ (closed.handAll _ h))) fun _ => closed.record _ h

end MonitorClosed

/-! ### The channels' two laws -/

/-- Every channel's command is its arbiter's, and its cap and timers stand with its anti-lock state. -/
def ChannelLaws (s : State) : Prop :=
  ∀ c : Fin 4, s.channels[c].Arbitrated ∧ s.channels[c].AntiLocked

/-- R80's table, read off a channel whose command is the arbiter's. -/
theorem Channel.arbitrated_iff (x : Channel) :
    x.Arbitrated ↔
      x.commanded ≤ x.pLim
        ∧ x.commanded =
          min (if x.antiLock = .release ∨ x.antiLock = .hold ∨ x.antiLock = .reapply then
              min (max x.target x.rolloverRequest) (x.cap.getD 0)
            else max x.target x.rolloverRequest) x.pLim
        ∧ x.winning =
          (if x.state = .exercise then .exercise
          else if (x.antiLock = .release ∨ x.antiLock = .hold ∨ x.antiLock = .reapply)
              ∧ x.cap.getD 0 < max x.target x.rolloverRequest then .antilock
          else if x.commanded = 0 then .noSource
          else if x.target < x.rolloverRequest then .rollover
          else .service) := by
  rw [Channel.Arbitrated, Channel.arbiterSource_eq, ← Channel.command_eq]
  constructor
  · rintro ⟨command, source⟩
    rw [command]
    exact ⟨command_le_pLim x, rfl, source⟩
  · rintro ⟨-, command, source⟩
    rw [command] at source
    exact ⟨command, source⟩

theorem channelLaws_iff (s : State) : ChannelLaws s ↔ ArbiterLaw s ∧ AntiLockLaw s := by
  simp only [ChannelLaws, Channel.arbitrated_iff]
  exact forall_and

theorem ChannelLaws.setChannel {c : Fin 4} {x : Channel} {s : State} (law : ChannelLaws s)
    (h : x.Arbitrated ∧ x.AntiLocked) : ChannelLaws (s.setChannel c x) := by
  intro d
  by_cases same : d = c
  · subst same
    rw [State.setChannel_get_self]
    exact h
  · rw [State.setChannel_get_ne _ _ _ _ same]
    exact law d

/-- A change of a channel that its arbiter takes. -/
theorem ChannelLaws.arbitrate {c : Fin 4} {x : Channel} {s : State} (law : ChannelLaws s)
    (h : x.AntiLocked) : ChannelLaws (arbitrate c (s.setChannel c x)) := by
  rw [arbitrate_setChannel]
  exact law.setChannel ⟨x.arbitrate_arbitrated, h⟩

theorem ChannelLaws.of_driverFrame {s t : State} (law : ChannelLaws s) (h : DriverFrame s t) :
    ChannelLaws t := fun c =>
  ⟨(h.channels c).arbiter (law c).1, (h.channels c).antiLocked (law c).2⟩

theorem ChannelLaws.of_drove {s t : State} (law : ChannelLaws s) (h : Drove s t) : ChannelLaws t :=
  law.of_driverFrame h.toDriverFrame

theorem ChannelLaws.of_scanned {s t : State} (law : ChannelLaws s) (h : Scanned s t) :
    ChannelLaws t := fun c =>
  ⟨(h.channels c).arbiter (law c).1, (h.channels c).antiLocked (law c).2⟩

theorem monitorClosed_channelLaws : MonitorClosed ChannelLaws where
  record _ law := law
  event law := law
  lowering law := law.of_driverFrame (forceLowering_liftDrove _).toDriverFrame
  request _ c law := keeps_ite (fun _ => law.arbitrate (law c).2) fun _ => law

/-! ### The anti-lock state machine -/

section Step
variable {x : Channel}

theorem Channel.enterRelease_antiLocked : x.enterRelease.AntiLocked := by
  simp [Channel.AntiLocked, Channel.enterRelease]

theorem Channel.enterFollow_antiLocked : x.enterFollow.AntiLocked := by
  simp [Channel.AntiLocked, Channel.enterFollow]

theorem Channel.enterHold_antiLocked : x.enterHold.AntiLocked := by
  simp [Channel.AntiLocked, Channel.enterHold]

/-- R109: a channel with a cap enters REAPPLY or FOLLOW. -/
theorem Channel.enterReapply_antiLocked (cap : x.cap.isSome = true) : x.enterReapply.AntiLocked := by
  unfold Channel.enterReapply
  split
  · exact Channel.enterFollow_antiLocked
  · simp [Channel.AntiLocked, cap]

theorem Channel.AntiLocked.cap_of_hold (law : x.AntiLocked) (hold : x.antiLock = .hold) :
    x.cap.isSome = true :=
  law.1.mpr (.inr (.inl hold))

theorem Channel.antiLockStep_antiLocked (law : x.AntiLocked) (runs release settled : Bool) :
    (x.antiLockStep runs release settled).AntiLocked := by
  unfold Channel.antiLockStep
  split
  case isFalse => exact Channel.antiLockOff_antiLocked x
  split
  case h_1 =>
    split
    · exact Channel.enterRelease_antiLocked
    · exact Channel.enterFollow_antiLocked
  case h_2 =>
    split
    · exact Channel.enterRelease_antiLocked
    · exact law
  case h_3 state =>
    split
    · obtain ⟨-, hold, step, -⟩ := law
      exact ⟨by simp [state], hold, step, fun _ => rfl⟩
    · exact Channel.enterHold_antiLocked
  case h_4 state =>
    split
    · exact Channel.enterRelease_antiLocked
    split
    · exact Channel.enterReapply_antiLocked (law.cap_of_hold state)
    · exact law
  case h_5 =>
    split
    · exact Channel.enterRelease_antiLocked
    split
    · exact Channel.enterFollow_antiLocked
    · exact law

/-- R110. -/
theorem Channel.stepCap_antiLocked (law : x.AntiLocked) (reapply : x.antiLock = .reapply) :
    x.stepCap.AntiLocked := by
  unfold Channel.stepCap
  dsimp only
  split
  · exact Channel.enterFollow_antiLocked
  · obtain ⟨-, hold, -, -⟩ := law
    exact ⟨by simp [reapply], hold, by simp [reapply], by simp [reapply]⟩

end Step

theorem antiLockChannel_keeps_channelLaws (c : Fin 4) {s : State} (law : ChannelLaws s) :
    ChannelLaws (antiLockChannel c s) :=
  keeps_ite (fun _ => law.arbitrate (Channel.antiLockStep_antiLocked (law c).2 _ _ _)) fun _ => law

theorem antiLockSample_keeps_channelLaws {s : State} (law : ChannelLaws s) :
    ChannelLaws (antiLockSample s) :=
  forEach_keeps ChannelLaws (fun c _ => antiLockChannel_keeps_channelLaws c) _ law

theorem windowEnd_channels (now : Stamp) (lines : BitVec 8) (s : State) :
    (windowEnd now lines s).channels = s.channels := by
  unfold windowEnd reportSensors
  refine forEach_keeps (fun t => t.channels = s.channels) (fun w t h => ?_) _ rfl
  split
  · exact h
  · exact h

theorem sampleSet_keeps_channelLaws (now : Stamp) (lines : BitVec 8) (first : Bool) {s : State}
    (law : ChannelLaws s) : ChannelLaws (sampleSet now lines first s) := by
  have closed : ChannelLaws (windowEnd now lines s) := fun c => by
    rw [windowEnd_channels]
    exact law c
  cases first with
  | true =>
    rw [sampleSet_antiLock_first]
    exact monitorClosed_channelLaws.rolloverSample (antiLockSample_keeps_channelLaws closed)
  | false =>
    rw [sampleSet_antiLock_last]
    exact antiLockSample_keeps_channelLaws (monitorClosed_channelLaws.rolloverSample closed)

/-! ### The resets -/

theorem freshChannel_laws (present : Bool) (side : ChannelSide) (first last : Fin 4) (gap : Timer) :
    ({ freshChannel present side first last with gapTimer := gap } : Channel).Arbitrated
      ∧ ({ freshChannel present side first last with gapTimer := gap } : Channel).AntiLocked := by
  refine ⟨⟨rfl, rfl⟩, ?_⟩
  simp [Channel.AntiLocked, freshChannel]

theorem Channel.restart_laws {x : Channel} (h : x.Arbitrated ∧ x.AntiLocked) (gap : Nat) :
    (x.restart gap).Arbitrated ∧ (x.restart gap).AntiLocked := by
  unfold Channel.restart
  split
  · refine ⟨⟨?_, ?_⟩, ?_⟩
    · simp [Channel.command, Channel.capApplied, Channel.uncapped, freshChannel]
    · simp [Channel.arbiterSource, Channel.command, Channel.capApplied, Channel.uncapped,
        freshChannel, AntiLockState.capped]
    · simp [Channel.AntiLocked, freshChannel]
  · exact h

theorem restart_channel (s : State) (c : Fin 4) :
    (restart s).channels[c] = s.channels[c].restart (s.device.changeoverGap * 1000) := by
  simp [restart, startInit]

theorem restart_keeps_channelLaws {s : State} (law : ChannelLaws s) : ChannelLaws (restart s) := by
  intro c
  rw [restart_channel]
  exact Channel.restart_laws (law c) _

theorem beginFullReset_channelLaws (s : State) : ChannelLaws (beginFullReset s) := by
  intro c
  simp only [beginFullReset, freshChannels, Fin.getElem_fin, Vector.getElem_ofFn]
  exact freshChannel_laws _ _ _ _ (some 4000)

theorem endFullReset_keeps_channelLaws (straps : BitVec 2) {s : State} (law : ChannelLaws s) :
    ChannelLaws (endFullReset straps s) := by
  refine keeps_ite (fun _ => law) fun _ c => ?_
  simp only [startInit, sampleLayout, Fin.getElem_fin, Vector.getElem_ofFn]
  exact freshChannel_laws _ _ _ _ _

/-! ### The other commands -/

theorem settle_keeps_channelLaws {s : State} (law : ChannelLaws s) : ChannelLaws (settle s) :=
  law.of_drove (settle_drove s)

theorem setDeviceState_keeps_channelLaws (d : DeviceState) {s : State} (law : ChannelLaws s) :
    ChannelLaws (setDeviceState d s) :=
  ChannelLaws.of_driverFrame (s := { s with device := { s.device with state := d } }) law
    (setDeviceState_liftDrove d s).toDriverFrame

theorem storeLiftable_keeps_channelLaws (a : Fin 4) (v : Nat) {s : State} (law : ChannelLaws s) :
    ChannelLaws (storeLiftable a v s) := by
  have requested (x : Axle) (l : LiftController) :
      ChannelLaws (requestLift false { putAxle a x s with lift := l }) :=
    ChannelLaws.of_driverFrame (s := { putAxle a x s with lift := l }) law
      (requestLift_driverFrame _ _)
  exact keeps_ite (fun _ => law) fun _ => keeps_ite (fun _ => requested _ _) fun _ => requested _ _

theorem storeTwin_channels (a : Fin 4) (v : Nat) (s : State) :
    (storeTwin a v s).channels = s.channels :=
  keeps_ite (P := fun t : State => t.channels = s.channels) (fun _ => rfl) fun _ =>
    List.foldlRecOn (motive := fun t : State => t.channels = s.channels) _ _ rfl fun _ h _ _ => h

theorem storeMask_keeps_channelLaws (v : Nat) {s : State} (law : ChannelLaws s) :
    ChannelLaws (storeMask v s) := by
  unfold storeMask
  refine settle_keeps_channelLaws ?_
  exact law

theorem store_keeps_channelLaws (r : RecordId) (n v : Nat) {s : State} (law : ChannelLaws s) :
    ChannelLaws (store r n v s) := by
  cases r with
  | device =>
    unfold store
    dsimp only
    split
    case h_1 => exact storeMask_keeps_channelLaws v law
    case h_4 =>
      refine settle_keeps_channelLaws ?_
      exact law
    all_goals exact law
  | axle a =>
    unfold store
    dsimp only
    split
    case h_1 =>
      intro c
      rw [storeTwin_channels]
      exact law c
    case h_2 => exact storeLiftable_keeps_channelLaws a v law
    all_goals exact law
  | channel c =>
    unfold store
    dsimp only
    split
    case h_3 => exact law.arbitrate (law c).2
    case h_6 => exact law
    all_goals exact law.setChannel (law c)
  | candidate k => exact law
  | wheel | tyre | rollover =>
    unfold store
    dsimp only
    split <;> exact law

/-! ### What the tyres' events leave unchanged -/

/-- Besides the TYRE records, the Tyre Supervisor and the receiver, only the line counters and the CANDIDATE
source may differ. -/
def TyreOnly (s t : State) : Prop :=
  t = { s with
    tyres := t.tyres, supervisor := t.supervisor, receiver := t.receiver
    link := { s.link with candidatePending := t.link.candidatePending }
    device := { s.device with
      parityErrors := t.device.parityErrors, framingErrors := t.device.framingErrors
      breakErrors := t.device.breakErrors, gapDiscards := t.device.gapDiscards
      checkDiscards := t.device.checkDiscards, rangeDiscards := t.device.rangeDiscards
      telegramsAccepted := t.device.telegramsAccepted } }

theorem TyreOnly.refl (s : State) : TyreOnly s s := rfl

theorem TyreOnly.trans {s t u : State} (a : TyreOnly s t) (b : TyreOnly t u) : TyreOnly s u := by
  unfold TyreOnly at *
  rw [b, a]

theorem listCandidate_tyreOnly (a : Arrival) (s : State) : TyreOnly s (listCandidate a s) := by
  unfold listCandidate
  exact keeps_ite (P := TyreOnly s) (fun _ => rfl) fun _ => rfl

theorem takeArrival_tyreOnly (a : Arrival) (s : State) : TyreOnly s (takeArrival a s) := by
  have listed := listCandidate_tyreOnly a s
  unfold takeArrival
  split
  · rfl
  split
  · exact keeps_ite (P := TyreOnly s) (fun _ => rfl) fun _ => listed
  · exact listed

theorem takeTelegram_tyreOnly (o : TelegramOutcome) (s : State) : TyreOnly s (takeTelegram o s) := by
  unfold takeTelegram
  split
  case h_1 | h_2 => rfl
  case h_3 => exact .trans (t := { s with device := { s.device with
    telegramsAccepted := bump s.device.telegramsAccepted } }) rfl (takeArrival_tyreOnly _ _)

theorem assemble_tyreOnly (b : Option Byte) (s : State) : TyreOnly s (assemble b s) := by
  unfold assemble
  dsimp only
  split
  · rfl
  split
  · split <;> rfl
  split
  · rfl
  · exact .trans (t := s.setReceiver { s.receiver with collected := [], gapTimer := none }) rfl
      (takeTelegram_tyreOnly _ _)

/-- A character that completes, whose start bit was taken under `format`. -/
theorem character_tyreOnly (o : CharacterOutcome) (clock : Nat) (stop : Bool) (s : State) :
    TyreOnly s (assemble o.byte { s with
      device := s.device.countCharacter o
      supervisor := { s.supervisor with clock := clock }
      receiver := { s.receiver with character := none, armed := stop } }) := by
  refine .trans ?_ (assemble_tyreOnly _ _)
  cases o <;> rfl

theorem agingExpired_tyreOnly (s : State) :
    TyreOnly s (forEach 16 ageTyre (s.setCandidates (ageCandidates s.supervisor.candidates))) :=
  forEach_keeps (TyreOnly s) (fun p t h => h.trans (by
    unfold ageTyre
    exact keeps_ite (P := TyreOnly t) (fun _ => rfl) fun _ => rfl)) _ rfl

theorem enrolOwner_tyreOnly (table : BitVec 3) (index : BitVec 5) (high low : Word) (s : State) :
    TyreOnly s (enrolOwner table index high low s).2 := by
  unfold enrolOwner
  split
  · rfl
  · split <;> rfl

theorem retireOwner_tyreOnly (table : BitVec 3) (index : BitVec 5) (s : State) :
    TyreOnly s (retireOwner table index s).2 := by
  unfold retireOwner
  split
  · rfl
  · split <;> rfl

theorem learnOwner_tyreOnly (table : BitVec 3) (index : BitVec 5) (s : State) :
    TyreOnly s (learnOwner table index s).2 := by
  unfold learnOwner
  split
  · rfl
  · split <;> rfl

theorem cancelLearnOwner_tyreOnly (index : BitVec 5) (s : State) :
    TyreOnly s (cancelLearnOwner index s).2 := by
  unfold cancelLearnOwner
  split <;> rfl

/-- The commands of the Telegram Receiver and of the Tyre Supervisor that report no fault. -/
def ofTyres : Instr → Bool
  | .lineToSpacing | .lineToMarking | .startBitTaken | .characterComplete _ _ _ _ | .gapTimerExpiry
  | .agingExpiry | .learnTimerExpiry => true
  | _ => false

theorem exec_tyreOnly {i : Instr} {s t : State} (h : exec i s = .next t) (tyres : ofTyres i = true) :
    TyreOnly s t := by
  cases i
  case lineToSpacing | lineToMarking =>
    obtain rfl := Host.Outcome.next.inj h
    exact keeps_ite (P := TyreOnly s) (fun _ => rfl) fun _ => rfl
  case gapTimerExpiry | startBitTaken =>
    obtain rfl := Host.Outcome.next.inj h
    exact whileRunning_keeps (P := TyreOnly s) rfl fun _ =>
      keeps_ite (P := TyreOnly s) (fun _ => rfl) fun _ => rfl
  case characterComplete data parity stop nowMs =>
    obtain rfl := Host.Outcome.next.inj h
    refine whileRunning_keeps (P := TyreOnly s) rfl fun _ => ?_
    split
    · rfl
    · exact character_tyreOnly _ _ _ s
  case agingExpiry =>
    obtain rfl := Host.Outcome.next.inj h
    exact whileRunning_keeps (P := TyreOnly s) rfl fun _ =>
      keeps_ite (P := TyreOnly s) (fun _ => agingExpired_tyreOnly s) fun _ => rfl
  case learnTimerExpiry =>
    obtain rfl := Host.Outcome.next.inj h
    refine whileRunning_keeps (P := TyreOnly s) rfl fun _ => ?_
    split
    · exact keeps_ite (P := TyreOnly s) (fun _ => rfl) fun _ => rfl
    · rfl
  all_goals cases tyres

/-! ### Looking records up -/

/-- What a lookup may change: the change marks, the LEARN marks and the link. -/
def LookupOnly (s t : State) : Prop :=
  t = { s with axles := t.axles, tyres := t.tyres, link := t.link }
    ∧ ∀ a : Fin 4, t.axles[a] = { s.axles[a] with changeMark := t.axles[a].changeMark }

theorem LookupOnly.of_link (s : State) (l : Link) : LookupOnly s { s with link := l } :=
  ⟨rfl, fun _ => rfl⟩

theorem clearLookedUp_lookupOnly (r : RecordId) (group : BitVec 2) (s : State) :
    LookupOnly s (clearLookedUp r group s) := by
  cases r with
  | device => exact keeps_ite (P := LookupOnly s) (fun _ => .of_link s _) fun _ => .of_link s s.link
  | axle a =>
    refine ⟨rfl, fun b => ?_⟩
    by_cases same : b = a
    · subst same
      simp only [clearLookedUp, State.setAxle_get_self]
    · simp only [clearLookedUp, State.setAxle_get_ne _ _ _ _ same]
  | tyre => exact ⟨rfl, fun _ => rfl⟩
  | wheel | channel => exact .of_link s s.link
  | candidate | rollover => exact .of_link s _

theorem LookupOnly.cursor {s t : State} {table : TableId} {index : Nat}
    (h : LookupOnly (setCursor table index s) t) : LookupOnly s t := h

theorem clearAbsent_lookupOnly (table : TableId) (s : State) :
    LookupOnly s (clearAbsent table s) := by
  cases table <;> exact ⟨rfl, fun _ => rfl⟩

theorem lookupOwner_lookupOnly (table : BitVec 3) (index : BitVec 5) (group : BitVec 2) (s : State) :
    LookupOnly s (lookupOwner table index group s).2 := by
  unfold lookupOwner
  split
  · exact .of_link s s.link
  split
  · exact .of_link s s.link
  split
  · exact (clearLookedUp_lookupOnly _ _ _).cursor
  · exact (clearAbsent_lookupOnly _ _).cursor

theorem lookupNextOwner_lookupOnly (index : BitVec 5) (group : BitVec 2) (s : State) :
    LookupOnly s (lookupNextOwner index group s).2 := by
  unfold lookupNextOwner
  split
  · exact clearAbsent_lookupOnly _ _
  · exact (clearLookedUp_lookupOnly _ _ _).cursor

end Sys2Proof.Machine
end

section
/-! Proofs that every command keeps the law of the arbiters and of the anti-lock control. -/

namespace Sys2Proof.Machine

theorem ChannelLaws.of_channels_eq {s t : State} (law : ChannelLaws s)
    (same : t.channels = s.channels) : ChannelLaws t := fun c => by
  rw [same]
  exact law c

theorem ChannelLaws.of_tyreOnly {s t : State} (law : ChannelLaws s) (h : TyreOnly s t) :
    ChannelLaws t :=
  law.of_channels_eq (by rw [h])

theorem request_keeps_channelLaws {kind : BitVec 6} {owner : State → Reply × State} {s : State}
    (law : ChannelLaws s) (op : ∀ u, ChannelLaws u → ChannelLaws (owner u).2) :
    ChannelLaws (request kind owner s) :=
  request_keeps (P := ChannelLaws) (fun _ _ h => h) law fun u _ _ => op u

theorem goActiveOwner_keeps_channelLaws (index : BitVec 5) {s : State} (law : ChannelLaws s) :
    ChannelLaws (goActiveOwner index s).2 := by
  have entered := setDeviceState_keeps_channelLaws .active law
  unfold goActiveOwner
  split
  case h_1 | h_4 => exact law
  case h_2 =>
    dsimp only
    exact entered
  case h_3 =>
    split
    · exact law
    · dsimp only
      exact entered

theorem goStandbyOwner_keeps_channelLaws (index : BitVec 5) {s : State} (law : ChannelLaws s) :
    ChannelLaws (goStandbyOwner index s).2 := by
  unfold goStandbyOwner
  refine keeps_ite (P := ChannelLaws) (fun _ => ?_) fun _ => law
  exact setDeviceState_keeps_channelLaws _ (law.of_drove (endExercises_drove s))

theorem ackFaultsOwner_keeps_channelLaws (index : BitVec 5) {s : State} (law : ChannelLaws s) :
    ChannelLaws (ackFaultsOwner index s).2 := by
  unfold ackFaultsOwner
  dsimp only
  refine settle_keeps_channelLaws ?_
  exact law

theorem liftCommandOwner_keeps_channelLaws (index : BitVec 5) (mode : Word) {s : State}
    (law : ChannelLaws s) : ChannelLaws (liftCommandOwner index mode s).2 := by
  unfold liftCommandOwner
  split
  · exact law
  · split <;> exact law

theorem setAttentionOwner_keeps_channelLaws (index : BitVec 5) (enables : Word) {s : State}
    (law : ChannelLaws s) : ChannelLaws (setAttentionOwner index enables s).2 := by
  unfold setAttentionOwner
  split <;> exact law

theorem holdTimerExpired_laws {x : Channel} (law : x.AntiLocked) (runs : x.holdTimer.isSome = true) :
    (if x.antiLock = .hold then x.enterReapply else { x with holdTimer := none }).AntiLocked := by
  have hold := law.2.1.mp runs
  rw [if_pos hold]
  exact Channel.enterReapply_antiLocked (law.cap_of_hold hold)

theorem stepTimerExpired_laws {x : Channel} (law : x.AntiLocked) (runs : x.stepTimer.isSome = true) :
    (if x.antiLock = .reapply then x.stepCap else { x with stepTimer := none }).AntiLocked := by
  have reapply := law.2.2.1.mp runs
  rw [if_pos reapply]
  exact Channel.stepCap_antiLocked law reapply

theorem exec_keeps_channelLaws (i : Instr) (s t : State) (law : ChannelLaws s)
    (h : exec i s = .next t) : ChannelLaws t := by
  cases i
  case lineToSpacing | lineToMarking | startBitTaken | characterComplete | gapTimerExpiry |
      agingExpiry | learnTimerExpiry => exact law.of_tyreOnly (exec_tyreOnly h rfl)
  all_goals obtain rfl := Host.Outcome.next.inj h
  case powerOn straps =>
    exact endFullReset_keeps_channelLaws straps (beginFullReset_channelLaws s)
  case logicSupplyLow | resetLineAssert =>
    exact keeps_ite (fun _ => law) fun _ => beginFullReset_channelLaws _
  case logicSupplyRestored straps =>
    exact keeps_ite (fun _ => endFullReset_keeps_channelLaws straps
      (s := { s with device := { s.device with supplyFail := false } }) law) fun _ => law
  case resetLineRelease straps =>
    exact keeps_ite (fun _ => endFullReset_keeps_channelLaws straps
      (s := { s with device := { s.device with resetLow := false } }) law) fun _ => law
  case initTimerExpiry =>
    refine whileRunning_keeps law fun _ => keeps_ite (fun _ => ?_) fun _ => law
    have entered := setDeviceState_keeps_channelLaws .standby
      (s := { s with device := { s.device with initTimer := none } }) law
    exact entered.of_drove (forEach_drove leaveOff_drove _)
  case failsafeAssert =>
    exact whileRunning_keeps law fun _ => settle_keeps_channelLaws
      (ChannelLaws.of_driverFrame (s := { s with device := { s.device with failsafe := true } }) law
        (forceLowering_liftDrove _).toDriverFrame)
  case failsafeRelease =>
    exact whileRunning_keeps law fun _ => settle_keeps_channelLaws
      (s := { s with device := { s.device with failsafe := false } }) law
  case scanCompletion r order =>
    exact whileRunning_keeps law fun _ =>
      keeps_ite (fun _ => law.of_scanned (scanCompletion_scanned r order s)) fun _ => law
  case sampleSet now lines first =>
    exact whileRunning_keeps law fun _ =>
      keeps_ite (fun _ => sampleSet_keeps_channelLaws now lines first law) fun _ => law
  case wheelEdge w now =>
    exact whileRunning_keeps law fun _ => keeps_ite (fun _ => law) fun _ => law
  case shortCircuitTrip o =>
    have off : ChannelLaws (deenergise o s) := law.of_drove (deenergise_drove o s)
    exact whileRunning_keeps law fun _ => keeps_ite (fun _ => settle_keeps_channelLaws
      (s := report (.valveShort o) true (deenergise o s)) off) fun _ => law
  case changeoverGapExpiry c =>
    refine keeps_ite (fun _ => ChannelLaws.of_drove (law.setChannel ?_) (serves_drove c _))
      fun _ => law
    exact law c
  case blankingTimerExpiry o =>
    exact whileRunning_keeps law fun _ => keeps_ite (fun _ => law) fun _ => law
  case raiseTimerExpiry =>
    refine whileRunning_keeps law fun _ => keeps_ite (fun _ => ?_) fun _ => law
    dsimp only
    split
    · exact law
    · next a _ =>
      have lowered : ChannelLaws (startLowering a { s with lift := { s.lift with raiseTimer := none } }) :=
        ChannelLaws.of_driverFrame (s := { s with lift := { s.lift with raiseTimer := none } }) law
          (startLowering_liftDrove _ _).toDriverFrame
      exact keeps_ite (fun _ => lowered) fun _ => law
  case loweringTimerExpiry =>
    refine whileRunning_keeps law fun _ => keeps_ite (fun _ => ?_) fun _ => law
    dsimp only
    split
    · exact law
    · exact keeps_ite (fun _ => keeps_ite (fun _ => law) fun _ => law) fun _ => law
  case supplyTimerExpiry c =>
    exact whileRunning_keeps law fun _ => keeps_ite (fun _ =>
      keeps_ite (fun _ => law.setChannel (law c)) fun _ => law.setChannel (law c)) fun _ => law
  case exerciseTimerExpiry c =>
    exact whileRunning_keeps law fun _ => keeps_ite (fun _ =>
      keeps_ite (fun _ => law.of_drove (finishExercise_drove c _ s)) fun _ => law.setChannel (law c))
      fun _ => law
  case holdTimerExpiry c =>
    exact whileRunning_keeps law fun _ => keeps_ite (fun runs =>
      law.arbitrate (holdTimerExpired_laws (law c).2 runs)) fun _ => law
  case stepTimerExpiry c =>
    exact whileRunning_keeps law fun _ => keeps_ite (fun runs =>
      law.arbitrate (stepTimerExpired_laws (law c).2 runs)) fun _ => law
  case testTimerExpiry =>
    exact whileRunning_keeps law fun _ =>
      keeps_ite (fun _ => monitorClosed_channelLaws.testTimerExpired law) fun _ => law
  case testSpacingExpiry | interventionMinExpiry => exact whileRunning_keeps law fun _ => law
  case rampStepExpiry =>
    exact whileRunning_keeps law fun _ =>
      keeps_ite (fun _ => monitorClosed_channelLaws.rampStepExpired law) fun _ => law
  case jamTimerExpiry | markTimerExpiry =>
    exact whileRunning_keeps law fun _ => keeps_ite (fun _ => law) fun _ => law
  case selectFall => exact law
  case emptyTransaction | frameError =>
    exact transact_keeps (fun _ _ h => h) law fun _ _ _ h => h
  case initTransaction =>
    rw [closeTransaction_openTransaction]
    exact law
  case unknownRequest | nop => exact request_keeps_channelLaws law fun _ h => h
  case lookup table index group =>
    exact request_keeps_channelLaws law fun u lawU =>
      lawU.of_channels_eq (by rw [(lookupOwner_lookupOnly table index group u).1])
  case lookupNext index group =>
    exact request_keeps_channelLaws law fun u lawU =>
      lawU.of_channels_eq (by rw [(lookupNextOwner_lookupOnly index group u).1])
  case amend table index field value =>
    exact request_keeps_channelLaws law fun u lawU =>
      amendOwner_keeps lawU fun r v _ _ => store_keeps_channelLaws r _ v lawU
  case enrol table index high low =>
    exact request_keeps_channelLaws law fun u lawU =>
      lawU.of_tyreOnly (enrolOwner_tyreOnly table index high low u)
  case retire table index =>
    exact request_keeps_channelLaws law fun u lawU =>
      lawU.of_tyreOnly (retireOwner_tyreOnly table index u)
  case learn table index =>
    exact request_keeps_channelLaws law fun u lawU =>
      lawU.of_tyreOnly (learnOwner_tyreOnly table index u)
  case cancelLearn index =>
    exact request_keeps_channelLaws law fun u lawU =>
      lawU.of_tyreOnly (cancelLearnOwner_tyreOnly index u)
  case liftCommand index mode =>
    exact request_keeps_channelLaws law fun u => liftCommandOwner_keeps_channelLaws index mode
  case exercise table index argument =>
    exact request_keeps_channelLaws law fun u lawU =>
      lawU.of_drove (exerciseOwner_drove table index argument u)
  case goActive index =>
    exact request_keeps_channelLaws law fun u => goActiveOwner_keeps_channelLaws index
  case goStandby index =>
    exact request_keeps_channelLaws law fun u => goStandbyOwner_keeps_channelLaws index
  case softReset index =>
    exact transact_keeps (fun _ _ h => h) law fun u _ _ => restart_keeps_channelLaws
  case ackFaults index =>
    exact request_keeps_channelLaws law fun u => ackFaultsOwner_keeps_channelLaws index
  case setAttention index enables =>
    exact request_keeps_channelLaws law fun u => setAttentionOwner_keeps_channelLaws index enables

/-- Settles O54: command by command. -/
theorem arbiterAndAntiLockLawsKept : Obligations.ArbiterAndAntiLockLawsKept := fun _ _ a b stepped =>
  (channelLaws_iff _).mp (step_keeps (P := ChannelLaws) (fun _ _ h => h) exec_keeps_channelLaws
    ((channelLaws_iff _).mpr ⟨a, b⟩) stepped)

end Sys2Proof.Machine
end

section
/-! Proofs about the law of the resets (section 12.3): the INIT timer and a part that is held. -/

namespace Sys2Proof.Machine

/-! ### What a command that runs leaves of the device state -/

/-- The causes that hold the part and the INIT timer stand, and INIT is neither left nor entered. -/
structure ModeKept (s t : State) : Prop where
  supplyFail : t.device.supplyFail = s.device.supplyFail
  resetLow : t.device.resetLow = s.device.resetLow
  initTimer : t.device.initTimer = s.device.initTimer
  state : t.device.state = s.device.state ∨ s.device.state ≠ .init

theorem ModeKept.of_device {s t : State} (h : t.device = s.device) : ModeKept s t := by
  exact ⟨by rw [h], by rw [h], by rw [h], .inl (by rw [h])⟩

theorem ModeKept.refl (s : State) : ModeKept s s := ⟨rfl, rfl, rfl, .inl rfl⟩

/-- R172: a running part keeps the law if it keeps the mode. -/
theorem ResetLaw.of_modeKept {s t : State} (law : ResetLaw s) (running : Running s)
    (h : ModeKept s t) : ResetLaw t := by
  refine ⟨fun timer => ?_, fun heldT => ?_⟩
  · rw [h.initTimer] at timer
    have init := law.1 timer
    obtain same | notInit := h.state
    · rw [same, init]
    · exact absurd init notInit
  · obtain ⟨supplied, released⟩ := running
    rw [held, h.supplyFail, h.resetLow, supplied, released] at heldT
    cases heldT

theorem whileRunning_keeps_resetLaw {f : State → State} {s : State} (law : ResetLaw s)
    (op : Running s → ModeKept s (f s)) : ResetLaw (whileRunning f s) :=
  whileRunning_keeps law fun running => law.of_modeKept running (op running)

theorem transact_keeps_resetLaw {act : State → State} {s : State} (law : ResetLaw s)
    (op : ∀ u, u.device.state ≠ .init → ModeKept u (act u)) : ResetLaw (transact act s) :=
  transact_keeps (P := ResetLaw) (fun _ _ h => h) law fun u running notInit lawU =>
    lawU.of_modeKept running (op u notInit)

theorem request_keeps_resetLaw {kind : BitVec 6} {owner : State → Reply × State} {s : State}
    (law : ResetLaw s) (op : ∀ u, u.device.state ≠ .init → ModeKept u (owner u).2) :
    ResetLaw (request kind owner s) :=
  request_keeps (P := ResetLaw) (fun _ _ h => h) law fun u running notInit lawU =>
    lawU.of_modeKept running (op u notInit)

theorem Scanned.modeKept {s t : State} (h : Scanned s t) : ModeKept s t where
  supplyFail := by rw [h.device]
  resetLow := by rw [h.device]
  initTimer := by rw [h.device]
  state := h.state.imp id fun ⟨waits, _⟩ => by rw [waits]; decide

theorem TyreOnly.modeKept {s t : State} (h : TyreOnly s t) : ModeKept s t :=
  ⟨by rw [h], by rw [h], by rw [h], .inl (by rw [h])⟩

theorem sampleSet_modeKept (now : Stamp) (lines : BitVec 8) (first : Bool) (s : State) :
    ModeKept s (sampleSet now lines first s) := by
  have device := (sampleSet_device now lines first s).trans (windowEnd_device now lines s)
  exact ⟨by rw [device], by rw [device], by rw [device], .inl (by rw [device])⟩

/-- R174: a change of the device state outside INIT. -/
theorem setDeviceState_modeKept (d : DeviceState) {s : State} (notInit : s.device.state ≠ .init) :
    ModeKept s (setDeviceState d s) := by
  have device := (setDeviceState_liftOnly d s).device
  exact ⟨by rw [device], by rw [device], by rw [device], .inr notInit⟩

theorem goActiveOwner_modeKept (index : BitVec 5) {s : State} (notInit : s.device.state ≠ .init) :
    ModeKept s (goActiveOwner index s).2 := by
  have entered := setDeviceState_modeKept .active notInit
  unfold goActiveOwner
  split
  case h_1 | h_4 => exact .refl s
  case h_2 =>
    dsimp only
    exact entered
  case h_3 =>
    split
    · exact .refl s
    · dsimp only
      exact entered

theorem goStandbyOwner_modeKept (index : BitVec 5) {s : State} (notInit : s.device.state ≠ .init) :
    ModeKept s (goStandbyOwner index s).2 := by
  have ended := (endExercises_drove s).device
  unfold goStandbyOwner
  refine keeps_ite (P := ModeKept s) (fun _ => ?_) fun _ => .refl s
  have entered := setDeviceState_modeKept
    (if releaseConditions (endExercises s) then .standby else .waitRelease)
    (s := endExercises s) (by rw [ended]; exact notInit)
  exact ⟨by rw [entered.supplyFail, ended], by rw [entered.resetLow, ended],
    by rw [entered.initTimer, ended], .inr notInit⟩

theorem store_modeKept (r : RecordId) (n v : Nat) (s : State) :
    ModeKept s (store r n v s) := by
  have settled (t : State) (h : ModeKept s t) : ModeKept s (settle t) := by
    have device := (settle_drove t).device
    exact ⟨by rw [device, h.supplyFail], by rw [device, h.resetLow], by rw [device, h.initTimer],
      by rw [device]; exact h.state⟩
  cases r with
  | device =>
    unfold store
    dsimp only
    split
    case h_1 =>
      unfold storeMask
      refine settled _ ?_
      exact ⟨rfl, rfl, rfl, .inl rfl⟩
    case h_4 => exact settled _ ⟨rfl, rfl, rfl, .inl rfl⟩
    all_goals exact ⟨rfl, rfl, rfl, .inl rfl⟩
  | axle a =>
    unfold store
    dsimp only
    split
    case h_1 =>
      exact keeps_ite (P := ModeKept s) (fun _ => .refl s) fun _ =>
        List.foldlRecOn (motive := ModeKept s) _ _ ⟨rfl, rfl, rfl, .inl rfl⟩ fun _ h _ _ =>
          ⟨h.supplyFail, h.resetLow, h.initTimer, h.state⟩
    case h_2 =>
      have requested (x : Axle) (l : LiftController) :
          ModeKept s (requestLift false { putAxle a x s with lift := l }) := by
        have device := (requestLift_valveOnly false { putAxle a x s with lift := l }).device
        exact ⟨by rw [device]; rfl, by rw [device]; rfl, by rw [device]; rfl,
          .inl (by rw [device]; rfl)⟩
      exact keeps_ite (P := ModeKept s) (fun _ => .refl s) fun _ =>
        keeps_ite (P := ModeKept s) (fun _ => requested _ _) fun _ => requested _ _
    all_goals exact ⟨rfl, rfl, rfl, .inl rfl⟩
  | candidate k => exact .refl s
  | wheel | tyre | channel | rollover =>
    unfold store
    dsimp only
    split <;> exact ⟨rfl, rfl, rfl, .inl rfl⟩

/-! ### A part that is held -/

/-- R180: what holds of a held part's outputs and of the monitor, and that INIT is not timed. -/
theorem ResetLaw.of_eq {s t : State} (law : ResetLaw s) (mode : ModeKept s t)
    (state : t.device.state = s.device.state) (rollover : t.rollover.state = s.rollover.state)
    (outputs : ∀ o : Fin 13, t.outputs[o].requested = s.outputs[o].requested
      ∧ (s.outputs[o].energised = false → t.outputs[o].energised = false)) : ResetLaw t := by
  refine ⟨fun timer => ?_, fun heldT => ?_⟩
  · rw [mode.initTimer] at timer
    rw [state]
    exact law.1 timer
  · rw [held, mode.supplyFail, mode.resetLow] at heldT
    obtain ⟨init, timer, off, quiet⟩ := law.2 heldT
    refine ⟨state.trans init, mode.initTimer.trans timer, rollover.trans off, fun o => ?_⟩
    obtain ⟨requested, energised⟩ := quiet o
    exact ⟨(outputs o).1.trans requested, (outputs o).2 energised⟩

/-- R172: the state that INIT begins with, when nothing holds the part. -/
theorem ResetLaw.of_init {t : State} (running : Running t) (init : t.device.state = .init) :
    ResetLaw t := by
  refine ⟨fun _ => init, fun heldT => ?_⟩
  rw [(held_eq_false_iff_running t).mpr running] at heldT
  cases heldT

theorem beginFullReset_resetLaw (s : State) : ResetLaw (beginFullReset s) := by
  refine ⟨fun _ => rfl, fun _ => ⟨rfl, rfl, rfl, fun o => ?_⟩⟩
  simp [beginFullReset, freshOutput]

theorem endFullReset_keeps_resetLaw (straps : BitVec 2) {s : State} (law : ResetLaw s) :
    ResetLaw (endFullReset straps s) := by
  unfold endFullReset
  split
  · exact law
  · next released =>
    exact .of_init (t := startInit (sampleLayout straps s))
      ((held_eq_false_iff_running s).mp (Bool.eq_false_iff.mpr released)) rfl

theorem restart_resetLaw {s : State} (running : Running s) : ResetLaw (restart s) :=
  .of_init (t := restart s) running rfl

/-- R92, R180: nothing is requested of a held part, so the gap's expiry serves nothing. -/
theorem serves_of_unrequested {c : Fin 4} {s : State}
    (inlet : s.outputs[inletOf c].requested = false)
    (exhaust : s.outputs[exhaustOf c].requested = false) :
    serveExhaust c (serveInlet c s) = s := by
  have first : serveInlet c s = s := by simp only [serveInlet, inlet]; rfl
  rw [first]
  simp only [serveExhaust, exhaust]
  rfl

theorem changeoverGap_keeps_resetLaw (c : Fin 4) {s : State} (law : ResetLaw s) (x : Channel) :
    ResetLaw (serveExhaust c (serveInlet c (s.setChannel c x))) := by
  by_cases running : Running s
  · have device := (serves_drove c (s.setChannel c x)).device
    exact law.of_modeKept running
      ⟨by rw [device]; rfl, by rw [device]; rfl, by rw [device]; rfl, .inl (by rw [device]; rfl)⟩
  · have heldS : held s = true := by
      rw [← held_eq_false_iff_running] at running
      simpa using running
    obtain ⟨-, -, -, quiet⟩ := law.2 heldS
    rw [serves_of_unrequested (s := s.setChannel c x) (quiet _).1 (quiet _).1]
    exact law

/-! ### Every command -/

theorem endExercises_modeKept (s : State) : ModeKept s (endExercises s) :=
  .of_device (endExercises_drove s).device

theorem ackFaultsOwner_modeKept (index : BitVec 5) (s : State) :
    ModeKept s (ackFaultsOwner index s).2 := by
  have device := ackFaultsOwner_device index s
  exact ⟨by rw [device], by rw [device], by rw [device], .inl (by rw [device])⟩

theorem liftCommandOwner_device (index : BitVec 5) (mode : Word) (s : State) :
    (liftCommandOwner index mode s).2.device = s.device := by
  unfold liftCommandOwner
  split
  · rfl
  · split <;> rfl

theorem setAttentionOwner_modeKept (index : BitVec 5) (enables : Word) (s : State) :
    ModeKept s (setAttentionOwner index enables s).2 := by
  unfold setAttentionOwner
  split <;> exact ⟨rfl, rfl, rfl, .inl rfl⟩

theorem initTimer_resetLaw {s : State} (running : Running s) :
    ResetLaw (forEach 4 leaveOff (setDeviceState .standby
      { s with device := { s.device with initTimer := none } })) := by
  have device := (forEach_drove leaveOff_drove (setDeviceState .standby
      { s with device := { s.device with initTimer := none } })).device.trans
    (setDeviceState_liftOnly .standby { s with device := { s.device with initTimer := none } }).device
  refine ⟨fun timer => ?_, fun heldT => ?_⟩
  · rw [device] at timer
    cases timer
  · have free : held s = false := (held_eq_false_iff_running s).mpr running
    rw [held, device] at heldT
    exact absurd heldT (Bool.eq_false_iff.mp free)

/-- R180: the end of one cause leaves the other, if it stands, holding the part. -/
theorem ResetLaw.cause_ends {s t : State} (law : ResetLaw s) (fewer : held t = true → held s = true)
    (initTimer : t.device.initTimer = s.device.initTimer) (state : t.device.state = s.device.state)
    (rollover : t.rollover = s.rollover) (outputs : t.outputs = s.outputs) : ResetLaw t := by
  refine ⟨fun timer => ?_, fun heldT => ?_⟩
  · rw [state]
    exact law.1 (initTimer ▸ timer)
  · rw [state, initTimer, rollover, outputs]
    exact law.2 (fewer heldT)

theorem exec_keeps_resetLaw (i : Instr) (s t : State) (law : ResetLaw s)
    (h : exec i s = .next t) : ResetLaw t := by
  cases i
  case lineToSpacing | lineToMarking | startBitTaken | characterComplete | gapTimerExpiry |
      agingExpiry | learnTimerExpiry =>
    have frame := exec_tyreOnly h rfl
    exact law.of_eq frame.modeKept (by rw [frame]) (by rw [frame])
      fun o => by rw [frame]; exact ⟨rfl, id⟩
  all_goals obtain rfl := Host.Outcome.next.inj h
  case powerOn straps => exact endFullReset_keeps_resetLaw straps (beginFullReset_resetLaw s)
  case logicSupplyLow | resetLineAssert =>
    exact keeps_ite (fun _ => law) fun _ => beginFullReset_resetLaw _
  case logicSupplyRestored straps =>
    refine keeps_ite (fun low => endFullReset_keeps_resetLaw straps
      (law.cause_ends (fun _ => ?_) rfl rfl rfl rfl)) fun _ => law
    rw [held, low, Bool.true_or]
  case resetLineRelease straps =>
    refine keeps_ite (fun low => endFullReset_keeps_resetLaw straps
      (law.cause_ends (fun _ => ?_) rfl rfl rfl rfl)) fun _ => law
    rw [held, low, Bool.or_true]
  case initTimerExpiry =>
    exact whileRunning_keeps law fun running =>
      keeps_ite (fun _ => initTimer_resetLaw running) fun _ => law
  case failsafeAssert =>
    have device (t : State) := (settle_drove (forceLowering t)).device.trans
      (forceLowering_liftOnly t).device
    exact whileRunning_keeps (P := ResetLaw) law fun running => law.of_modeKept running
      ⟨by rw [device], by rw [device], by rw [device], .inl (by rw [device])⟩
  case failsafeRelease =>
    have device (t : State) := (settle_drove t).device
    exact whileRunning_keeps (P := ResetLaw) law fun running => law.of_modeKept running
      ⟨by rw [device], by rw [device], by rw [device], .inl (by rw [device])⟩
  case scanCompletion r order =>
    exact whileRunning_keeps_resetLaw law fun _ => keeps_ite (P := ModeKept s)
      (fun _ => (scanCompletion_scanned r order s).modeKept) fun _ => .refl s
  case sampleSet now lines first =>
    exact whileRunning_keeps_resetLaw law fun _ => keeps_ite (P := ModeKept s)
      (fun _ => sampleSet_modeKept now lines first s) fun _ => .refl s
  case wheelEdge w now =>
    exact whileRunning_keeps_resetLaw law fun _ => keeps_ite (P := ModeKept s)
      (fun _ => .of_device rfl) fun _ => .of_device rfl
  case shortCircuitTrip o =>
    exact whileRunning_keeps_resetLaw law fun _ => keeps_ite (P := ModeKept s)
      (fun _ => .of_device ((settle_drove _).device.trans (deenergise_drove o s).device))
      fun _ => .refl s
  case changeoverGapExpiry c =>
    exact keeps_ite (fun _ => changeoverGap_keeps_resetLaw c law _) fun _ => law
  case blankingTimerExpiry o =>
    exact whileRunning_keeps_resetLaw law fun _ => keeps_ite (P := ModeKept s)
      (fun _ => .of_device rfl) fun _ => .refl s
  case raiseTimerExpiry =>
    refine whileRunning_keeps_resetLaw law fun _ => keeps_ite (P := ModeKept s) (fun _ => ?_)
      fun _ => .refl s
    dsimp only
    split
    · exact .of_device rfl
    · exact keeps_ite (P := ModeKept s)
        (fun _ => .of_device (startLowering_liftOnly _ _).device) fun _ => .of_device rfl
  case loweringTimerExpiry =>
    refine whileRunning_keeps_resetLaw law fun _ => keeps_ite (P := ModeKept s) (fun _ => ?_)
      fun _ => .refl s
    dsimp only
    split
    · exact .of_device rfl
    · exact keeps_ite (P := ModeKept s) (fun _ => keeps_ite (P := ModeKept s)
        (fun _ => .of_device rfl) fun _ => .of_device rfl) fun _ => .of_device rfl
  case supplyTimerExpiry c =>
    exact whileRunning_keeps_resetLaw law fun _ => keeps_ite (P := ModeKept s)
      (fun _ => keeps_ite (P := ModeKept s) (fun _ => .of_device rfl) fun _ => .of_device rfl)
      fun _ => .refl s
  case exerciseTimerExpiry c =>
    exact whileRunning_keeps_resetLaw law fun _ => keeps_ite (P := ModeKept s)
      (fun _ => keeps_ite (P := ModeKept s) (fun _ => .of_device (finishExercise_drove c _ s).device)
        fun _ => .of_device rfl)
      fun _ => .refl s
  case holdTimerExpiry c | stepTimerExpiry c =>
    exact whileRunning_keeps_resetLaw law fun _ => keeps_ite (P := ModeKept s)
      (fun _ => .of_device rfl) fun _ => .refl s
  case testTimerExpiry =>
    exact whileRunning_keeps_resetLaw law fun _ => keeps_ite (P := ModeKept s)
      (fun _ => .of_device (testTimerExpired_monitorOnly s).device) fun _ => .refl s
  case testSpacingExpiry | interventionMinExpiry =>
    exact whileRunning_keeps_resetLaw law fun _ => .of_device rfl
  case rampStepExpiry =>
    exact whileRunning_keeps_resetLaw law fun _ => keeps_ite (P := ModeKept s)
      (fun _ => .of_device (rampStepExpired_monitorOnly s).device) fun _ => .refl s
  case jamTimerExpiry | markTimerExpiry =>
    exact whileRunning_keeps_resetLaw law fun _ => keeps_ite (P := ModeKept s)
      (fun _ => .of_device rfl) fun _ => .refl s
  case selectFall => exact law
  case emptyTransaction | frameError =>
    exact transact_keeps_resetLaw law fun u _ => .of_device rfl
  case initTransaction =>
    rw [closeTransaction_openTransaction]
    exact law
  case unknownRequest | nop => exact request_keeps_resetLaw law fun u _ => .of_device rfl
  case lookup table index group =>
    exact request_keeps_resetLaw law fun u _ =>
      .of_device (by rw [(lookupOwner_lookupOnly table index group u).1])
  case lookupNext index group =>
    exact request_keeps_resetLaw law fun u _ =>
      .of_device (by rw [(lookupNextOwner_lookupOnly index group u).1])
  case amend table index field value =>
    exact request_keeps_resetLaw law fun u _ => amendOwner_keeps (P := ModeKept u) (.refl u)
      fun r v _ _ => store_modeKept r _ v u
  case enrol table index high low =>
    exact request_keeps_resetLaw law fun u _ => (enrolOwner_tyreOnly table index high low u).modeKept
  case retire table index =>
    exact request_keeps_resetLaw law fun u _ => (retireOwner_tyreOnly table index u).modeKept
  case learn table index =>
    exact request_keeps_resetLaw law fun u _ => (learnOwner_tyreOnly table index u).modeKept
  case cancelLearn index =>
    exact request_keeps_resetLaw law fun u _ => (cancelLearnOwner_tyreOnly index u).modeKept
  case liftCommand index mode =>
    exact request_keeps_resetLaw law fun u _ => .of_device (liftCommandOwner_device index mode u)
  case exercise table index argument =>
    exact request_keeps_resetLaw law fun u _ =>
      .of_device (exerciseOwner_drove table index argument u).device
  case goActive index =>
    exact request_keeps_resetLaw law fun u => goActiveOwner_modeKept index
  case goStandby index =>
    exact request_keeps_resetLaw law fun u => goStandbyOwner_modeKept index
  case softReset index =>
    exact transact_keeps (fun _ _ h => h) law fun u running _ _ => restart_resetLaw running
  case ackFaults index =>
    exact request_keeps_resetLaw law fun u _ => ackFaultsOwner_modeKept index u
  case setAttention index enables =>
    exact request_keeps_resetLaw law fun u _ => setAttentionOwner_modeKept index enables u

end Sys2Proof.Machine
end

section
/-! Proofs about the law of the ROLLOVER requests (sections 8.1 and 8.9). -/

namespace Sys2Proof.Machine

/-! ### One index of a repetition -/

/-- What a repetition leaves at index `j`, of which the other passes leave alone what `get` reads: the pass
for `j`, carried out after those before it and followed by those after it. -/
theorem forEach_at {n : Nat} {f : Fin n → State → State} {α : Type} (R : State → State → Prop)
    (refl : ∀ s, R s s) (trans : ∀ {s t u}, R s t → R t u → R s u) (step : ∀ i s, R s (f i s))
    (get : State → α) (j : Fin n) (other : ∀ i s, i ≠ j → get (f i s) = get s) (s : State) :
    ∃ u, R s u ∧ get u = get s ∧ R (f j u) (forEach n f s)
      ∧ get (forEach n f s) = get (f j u) := by
  have skip (l : List (Fin n)) (h : j ∉ l) (t : State) :
      R t (l.foldl (fun s i => f i s) t) ∧ get (l.foldl (fun s i => f i s) t) = get t := by
    induction l generalizing t with
    | nil => exact ⟨refl t, rfl⟩
    | cons i l ih =>
      obtain ⟨notI, notL⟩ := not_or.mp (mt List.mem_cons.mpr h)
      obtain ⟨rest, same⟩ := ih notL (f i t)
      exact ⟨trans (step i t) rest, same.trans (other i t (Ne.symm notI))⟩
  obtain ⟨before, rest, split⟩ := List.append_of_mem (List.mem_finRange j)
  have nodup := List.nodup_finRange n
  rw [split, List.nodup_append] at nodup
  obtain ⟨-, restNodup, disjoint⟩ := nodup
  have notBefore : j ∉ before := fun h => disjoint j h j List.mem_cons_self rfl
  obtain ⟨reached, sameBefore⟩ := skip before notBefore s
  obtain ⟨left, sameAfter⟩ := skip rest (List.nodup_cons.mp restNodup).1
    (f j (before.foldl (fun s i => f i s) s))
  refine ⟨_, reached, sameBefore, ?_⟩
  unfold forEach
  rw [split, List.foldl_append, List.foldl_cons]
  exact ⟨left, sameAfter⟩

/-! ### Requests handed to the arbiters -/

/-- R131: a channel that is handed a ROLLOVER request. -/
def Channel.handed (x : Channel) (v : Nat) : Channel :=
  if x.present then ({ x with rolloverRequest := v } : Channel).arbitrate else x

theorem handRequest_get_self (v : Nat) (c : Fin 4) (s : State) :
    (handRequest v c s).channels[c] = s.channels[c].handed v := by
  unfold handRequest Channel.handed
  split
  · rw [arbitrate_setChannel, State.setChannel_get_self]
  · rfl

theorem handRequest_get_ne {c d : Fin 4} (h : d ≠ c) (v : Nat) (s : State) :
    (handRequest v c s).channels[d] = s.channels[d] := by
  unfold handRequest
  split
  · rw [arbitrate_setChannel, State.setChannel_get_ne _ _ _ _ h]
  · rfl

@[simp] theorem Channel.handed_present (x : Channel) (v : Nat) : (x.handed v).present = x.present := by
  unfold Channel.handed
  split <;> rfl

@[simp] theorem Channel.handed_side (x : Channel) (v : Nat) : (x.handed v).side = x.side := by
  unfold Channel.handed
  split <;> rfl

theorem Channel.handed_rolloverRequest {x : Channel} (present : x.present = true) (v : Nat) :
    (x.handed v).rolloverRequest = v := by
  rw [Channel.handed, if_pos present]
  rfl

/-- What handing requests leaves: all but the channels, and of those whose they are. -/
structure HandedOnly (s t : State) : Prop extends ValveOnly s t where
  outputs : t.outputs = s.outputs
  faults : t.faults = s.faults
  sameLink : t.link = s.link
  sides : ∀ c : Fin 4, t.channels[c].side = s.channels[c].side

theorem HandedOnly.refl (s : State) : HandedOnly s s := ⟨.refl s, rfl, rfl, rfl, fun _ => rfl⟩

theorem HandedOnly.trans {s t u : State} (a : HandedOnly s t) (b : HandedOnly t u) :
    HandedOnly s u :=
  ⟨a.toValveOnly.trans b.toValveOnly, b.outputs.trans a.outputs, b.faults.trans a.faults,
    b.sameLink.trans a.sameLink, fun c => (b.sides c).trans (a.sides c)⟩

theorem handRequest_handedOnly (v : Nat) (c : Fin 4) (s : State) :
    HandedOnly s (handRequest v c s) where
  toValveOnly := handRequest_valveOnly v c s
  outputs := by unfold handRequest; split <;> rfl
  faults := by unfold handRequest; split <;> rfl
  sameLink := by unfold handRequest; split <;> rfl
  sides d := by
    by_cases same : d = c
    · subst same
      rw [handRequest_get_self, Channel.handed_side]
    · rw [handRequest_get_ne same]

theorem handRequests_handedOnly (v : Fin 4 → State → Nat) (s : State) :
    HandedOnly s (forEach 4 (fun c s => handRequest (v c s) c s) s) :=
  forEach_rel HandedOnly .refl .trans (fun c t => handRequest_handedOnly (v c t) c t) s

/-- Every channel is handed its own request. -/
theorem handRequests_channel {v : Fin 4 → State → Nat} {w : Fin 4 → Nat} {s : State}
    (same : ∀ c t, HandedOnly s t → v c t = w c) (c : Fin 4) :
    (forEach 4 (fun c s => handRequest (v c s) c s) s).channels[c] = s.channels[c].handed (w c) := by
  obtain ⟨u, reached, unmoved, -, got⟩ := forEach_at HandedOnly .refl .trans
    (fun c t => handRequest_handedOnly (v c t) c t) (fun t => t.channels[c]) c
    (fun d t h => handRequest_get_ne (Ne.symm h) _ t) s
  rw [got, handRequest_get_self, unmoved, same c u reached]

theorem handAll_rollover (v : Nat) (s : State) :
    (handAll v s).rollover = { s.rollover with level := v } :=
  (handRequests_handedOnly (fun _ _ => v) _).rollover

theorem handAll_channel (v : Nat) (s : State) (c : Fin 4) :
    (handAll v s).channels[c] = s.channels[c].handed v :=
  handRequests_channel (v := fun _ _ => v) (w := fun _ => v) (fun _ _ _ => rfl) c

/-! ### The law -/

/-- Section 8.1: the ROLLOVER request of a channel on a side, by the monitor's state. -/
def Rollover.request (r : Rollover) (side : ChannelSide) : Nat :=
  match r.state with
  | .intervene | .recover => r.level
  | .test =>
    if (r.inner = some .left ∧ side = .left) ∨ (r.inner = some .right ∧ side = .right) then r.level
    else 0
  | .off | .monitor | .alert | .degraded => 0

/-- The monitor asks for nothing. -/
def RolloverState.quiet : RolloverState → Bool
  | .off | .monitor | .alert | .degraded => true
  | .test | .intervene | .recover => false

theorem RolloverState.quiet_iff (x : RolloverState) :
    x.quiet = true ↔ x = .off ∨ x = .monitor ∨ x = .alert ∨ x = .degraded := by
  cases x <;> simp [RolloverState.quiet]

theorem RolloverState.alarmed_iff (x : RolloverState) :
    x.alarmed = true ↔ x = .alert ∨ x = .test ∨ x = .intervene ∨ x = .recover := by
  cases x <;> simp [RolloverState.alarmed]

theorem inControl_iff (s : State) :
    inControl s = true ↔ s.device.state = .active ∨ s.device.state = .waitRelease := by
  simp [inControl]

theorem Rollover.request_of_quiet {r : Rollover} (h : r.state.quiet = true) (side : ChannelSide) :
    r.request side = 0 := by
  unfold Rollover.request
  cases state : r.state <;> simp_all [RolloverState.quiet]

theorem Rollover.request_of_intervening {r : Rollover} (h : r.state.intervening = true)
    (side : ChannelSide) : r.request side = r.level := by
  unfold Rollover.request
  cases state : r.state <;> simp_all [RolloverState.intervening]

theorem rolloverLaw_iff (s : State) :
    RolloverLaw s ↔
      (∀ c : Fin 4, s.channels[c].present = true →
          s.channels[c].rolloverRequest = s.rollover.request s.channels[c].side)
        ∧ (s.rollover.state.quiet = true → s.rollover.level = 0)
        ∧ (s.rollover.state.alarmed = true → inControl s = true) := by
  rw [RolloverState.quiet_iff, RolloverState.alarmed_iff, inControl_iff]
  rfl

/-- What the law reads. -/
theorem RolloverLaw.of_view {s t : State} (law : RolloverLaw s)
    (channels : ∀ c : Fin 4, t.channels[c].present = s.channels[c].present
      ∧ t.channels[c].side = s.channels[c].side
      ∧ t.channels[c].rolloverRequest = s.channels[c].rolloverRequest)
    (request : t.rollover.request = s.rollover.request)
    (level : t.rollover.state.quiet = true → t.rollover.level = 0)
    (control : t.rollover.state.alarmed = true → inControl t = true) : RolloverLaw t := by
  rw [rolloverLaw_iff] at law ⊢
  refine ⟨fun c present => ?_, level, control⟩
  obtain ⟨samePresent, side, requested⟩ := channels c
  rw [samePresent] at present
  rw [requested, side, request]
  exact law.1 c present

/-- A command that leaves the monitor alone, and the device in control where it alarms. -/
theorem RolloverLaw.of_frame {s t : State} (law : RolloverLaw s)
    (channels : ∀ c : Fin 4, t.channels[c].present = s.channels[c].present
      ∧ t.channels[c].side = s.channels[c].side
      ∧ t.channels[c].rolloverRequest = s.channels[c].rolloverRequest)
    (rollover : t.rollover = s.rollover)
    (control : s.rollover.state.alarmed = true → inControl s = true → inControl t = true) :
    RolloverLaw t := by
  have law' := (rolloverLaw_iff s).mp law
  refine law.of_view channels (by rw [rollover]) (by rw [rollover]; exact law'.2.1) fun alarmed => ?_
  rw [rollover] at alarmed
  exact control alarmed (law'.2.2 alarmed)

theorem Channel.Driven.sameRequest {x y : Channel} (h : x.Driven y) :
    y.present = x.present ∧ y.side = x.side ∧ y.rolloverRequest = x.rolloverRequest := by
  rw [h.static]
  exact ⟨rfl, rfl, rfl⟩

theorem Channel.Scanned.sameRequest {x y : Channel} (h : x.Scanned y) :
    y.present = x.present ∧ y.side = x.side ∧ y.rolloverRequest = x.rolloverRequest := by
  rw [h.static]
  exact ⟨rfl, rfl, rfl⟩

theorem inControl_congr {s t : State} (h : t.device = s.device) : inControl t = inControl s := by
  rw [inControl, inControl, h]

theorem RolloverLaw.of_liftDrove {s t : State} (law : RolloverLaw s) (h : LiftDrove s t) :
    RolloverLaw t :=
  law.of_frame (fun c => (h.channels c).sameRequest) h.rollover fun _ control => by
    rwa [inControl_congr h.device]

theorem RolloverLaw.of_drove {s t : State} (law : RolloverLaw s) (h : Drove s t) : RolloverLaw t :=
  law.of_liftDrove h.liftDrove

theorem RolloverLaw.of_scanned {s t : State} (law : RolloverLaw s) (h : Scanned s t) :
    RolloverLaw t :=
  law.of_frame (fun c => (h.channels c).sameRequest) h.rollover fun alarmed control => by
    obtain same | ⟨-, -, calm⟩ := h.state
    · rw [inControl, same]
      exact control
    · rw [calm] at alarmed
      cases alarmed

/-- A write of the ROLLOVER record that asks for the same. -/
theorem RolloverLaw.setRollover {s : State} (law : RolloverLaw s) (r : Rollover)
    (request : r.request = s.rollover.request) (level : r.state.quiet = true → r.level = 0)
    (control : r.state.alarmed = true → inControl s = true) : RolloverLaw (s.setRollover r) :=
  law.of_view (fun _ => ⟨rfl, rfl, rfl⟩) request level control

/-- A write of the ROLLOVER record that leaves its state, level and inner side. -/
theorem RolloverLaw.record {s : State} (law : RolloverLaw s) (r : Rollover)
    (state : r.state = s.rollover.state) (level : r.level = s.rollover.level)
    (inner : r.inner = s.rollover.inner) : RolloverLaw (s.setRollover r) := by
  obtain ⟨-, quiet, alarmed⟩ := (rolloverLaw_iff s).mp law
  refine law.setRollover r ?_ (by rw [state, level]; exact quiet) (by rw [state]; exact alarmed)
  funext side
  rw [Rollover.request, Rollover.request, state, level, inner]

/-- Between states that ask for nothing. -/
theorem RolloverLaw.move {s : State} (law : RolloverLaw s) (r : Rollover)
    (quiet : s.rollover.state.quiet = true) (quiet' : r.state.quiet = true)
    (level : r.level = s.rollover.level)
    (control : r.state.alarmed = true → inControl s = true) : RolloverLaw (s.setRollover r) := by
  refine law.setRollover r ?_ (fun _ => ?_) control
  · funext side
    rw [Rollover.request_of_quiet quiet, Rollover.request_of_quiet quiet']
  · rw [level]
    exact ((rolloverLaw_iff s).mp law).2.1 quiet

/-- R131: the same request for every channel, 0 or that of an intervention. -/
theorem rolloverLaw_handAll {v : Nat} {s : State}
    (level : s.rollover.state.intervening = true ∨ v = 0)
    (control : s.rollover.state.alarmed = true → inControl s = true) :
    RolloverLaw (handAll v s) := by
  rw [rolloverLaw_iff, handAll_rollover]
  refine ⟨fun c present => ?_, fun quiet => ?_, fun alarmed => ?_⟩
  · rw [handAll_channel] at present ⊢
    rw [Channel.handed_present] at present
    rw [Channel.handed_rolloverRequest present]
    obtain intervening | zero := level
    · exact (Rollover.request_of_intervening (r := { s.rollover with level := v }) intervening _).symm
    · subst zero
      unfold Rollover.request
      split <;> simp
  · obtain intervening | zero := level
    · revert quiet intervening
      generalize s.rollover.state = x
      cases x <;> simp [RolloverState.quiet, RolloverState.intervening]
    · exact zero
  · rw [inControl_congr (handAll_monitorOnly v s).device]
    exact control alarmed

/-! ### The Rollover Monitor's operations -/

theorem raiseRollover_keeps_rolloverLaw {s : State} (law : RolloverLaw s) :
    RolloverLaw (raiseRollover s) := law

theorem endTest_keeps_rolloverLaw (result : TestResult) {s : State} (law : RolloverLaw s) :
    RolloverLaw (endTest result s) :=
  keeps_ite (P := RolloverLaw) (fun _ => law.record _ rfl rfl rfl) fun _ => law

theorem withdraw_rolloverLaw {next : RolloverState} (calm : next.alarmed = false) (s : State) :
    RolloverLaw (withdraw next s) :=
  rolloverLaw_handAll (.inr rfl) fun alarmed => by
    rw [show next.alarmed = true from alarmed] at calm
    cases calm

theorem enterOff_keeps_rolloverLaw {s : State} (law : RolloverLaw s) : RolloverLaw (enterOff s) :=
  keeps_ite (P := RolloverLaw) (fun _ => law) fun _ => keeps_ite (P := RolloverLaw)
    (fun _ => raiseRollover_keeps_rolloverLaw (withdraw_rolloverLaw rfl s))
    fun _ => withdraw_rolloverLaw rfl s

theorem enterDegraded_rolloverLaw (s : State) : RolloverLaw (enterDegraded s) :=
  raiseRollover_keeps_rolloverLaw (withdraw_rolloverLaw rfl s)

theorem enterMonitor_keeps_rolloverLaw {s : State} (law : RolloverLaw s)
    (quiet : s.rollover.state.quiet = true) : RolloverLaw (enterMonitor s) := by
  have entered : RolloverLaw (s.setRollover { s.rollover with state := .monitor, filtered := 0 }) :=
    law.move _ quiet rfl rfl fun alarmed => nomatch alarmed
  exact keeps_ite (P := RolloverLaw) (fun _ => raiseRollover_keeps_rolloverLaw entered) fun _ => entered

theorem enterIntervene_rolloverLaw {s : State} (control : inControl s = true) :
    RolloverLaw (enterIntervene s) :=
  raiseRollover_keeps_rolloverLaw (rolloverLaw_handAll (.inl rfl) fun _ => control)

theorem ChannelSide.isOn_iff (x : ChannelSide) (side : Side) :
    x.isOn side = true ↔ (side = .left ∧ x = .left) ∨ (side = .right ∧ x = .right) := by
  cases x <;> cases side <;> simp [ChannelSide.isOn]

/-- R125: the side channels of the inner side are handed P_TEST, the others 0. -/
theorem enterTest_rolloverLaw {s : State} (control : inControl s = true) :
    RolloverLaw (enterTest s) := by
  generalize entered : ({ s.rollover with
    state := .test
    inner := innerSide s.rollover.filtered s.rollover.inner
    level := s.rollover.pTest
    testResult := .noResult
    tests := min 255 (s.rollover.tests + 1)
    testTimer := some testTime } : Rollover) = r
  have frame := handRequests_handedOnly
    (fun c t => testRequest t (innerSide s.rollover.filtered s.rollover.inner) c) (s.setRollover r)
  have handed := handRequests_channel (s := s.setRollover r)
    (v := fun c t => testRequest t (innerSide s.rollover.filtered s.rollover.inner) c)
    (w := fun c => r.request s.channels[c].side) fun c t same => by
      unfold testRequest
      rw [same.rollover, same.sides c, ← entered]
      simp only [Rollover.request, State.setRollover_channels]
      split
      · next none => simp [none]
      · next side some =>
        rw [some]
        simp [ChannelSide.isOn_iff]
  have same : enterTest s = forEach 4 (fun c t => handRequest
      (testRequest t (innerSide s.rollover.filtered s.rollover.inner) c) c t) (s.setRollover r) := by
    rw [← entered]
    rfl
  rw [same, rolloverLaw_iff, frame.rollover]
  refine ⟨fun c present => ?_, fun quiet => ?_, fun _ => ?_⟩
  · rw [handed c] at present ⊢
    rw [Channel.handed_present] at present
    rw [Channel.handed_rolloverRequest present, Channel.handed_side]
    rfl
  · rw [← entered] at quiet
    cases quiet
  · rw [inControl_congr frame.device]
    exact control

theorem enterRecover_keeps_rolloverLaw {s : State} (law : RolloverLaw s)
    (intervenes : s.rollover.state = .intervene) : RolloverLaw (enterRecover s) := by
  have control := ((rolloverLaw_iff s).mp law).2.2 (by rw [intervenes]; rfl)
  refine law.setRollover _ ?_ (fun quiet => nomatch quiet) fun _ => control
  funext side
  rw [Rollover.request_of_intervening (r := s.rollover) (by rw [intervenes]; rfl)]
  exact Rollover.request_of_intervening rfl side

theorem forceLowering_keeps_rolloverLaw {s : State} (law : RolloverLaw s) :
    RolloverLaw (forceLowering s) :=
  law.of_liftDrove (forceLowering_liftDrove s)

theorem alertRule_keeps_rolloverLaw {s : State} (law : RolloverLaw s)
    (alert : s.rollover.state = .alert) : RolloverLaw (alertRule s) := by
  have control := ((rolloverLaw_iff s).mp law).2.2 (by rw [alert]; rfl)
  have back : RolloverLaw (s.setRollover { s.rollover with state := .monitor }) :=
    law.move _ (by rw [alert]; rfl) rfl rfl fun alarmed => nomatch alarmed
  exact keeps_ite (P := RolloverLaw) (fun _ => enterIntervene_rolloverLaw control) fun _ =>
    keeps_ite (P := RolloverLaw) (fun _ => back) fun _ =>
      keeps_ite (P := RolloverLaw) (fun _ => enterTest_rolloverLaw control) fun _ => law

theorem monitorRule_keeps_rolloverLaw {s : State} (law : RolloverLaw s)
    (monitor : s.rollover.state = .monitor) (control : inControl s = true) :
    RolloverLaw (monitorRule s) := by
  have lowered (t : State) : inControl (forceLowering t) = inControl t :=
    inControl_congr (forceLowering_liftOnly t).device
  have alerted : RolloverLaw (s.setRollover { s.rollover with state := .alert }) :=
    law.move _ (by rw [monitor]; rfl) rfl rfl fun _ => control
  refine keeps_ite (P := RolloverLaw)
    (fun _ => enterIntervene_rolloverLaw ((lowered s).trans control)) fun _ =>
    keeps_ite (P := RolloverLaw) (fun _ =>
      alertRule_keeps_rolloverLaw (forceLowering_keeps_rolloverLaw alerted) ?_) fun _ => law
  rw [(forceLowering_liftOnly _).rollover]
  rfl

theorem testRule_keeps_rolloverLaw {s : State} (law : RolloverLaw s) (control : inControl s = true) :
    RolloverLaw (testRule s) := by
  have ended (result : TestResult) : inControl (endTest result s) = true := by
    rw [inControl_congr (endTest_monitorOnly result s).device, control]
  exact keeps_ite (P := RolloverLaw) (fun _ => enterIntervene_rolloverLaw (ended _)) fun _ =>
    keeps_ite (P := RolloverLaw) (fun _ => enterIntervene_rolloverLaw (ended _)) fun _ => law

theorem interveneRule_keeps_rolloverLaw (degraded : Bool) {s : State} (law : RolloverLaw s)
    (intervenes : s.rollover.state = .intervene) : RolloverLaw (interveneRule degraded s) := by
  have counted : RolloverLaw (s.setRollover { s.rollover with calm := s.rollover.calmAfter }) :=
    law.record _ rfl rfl rfl
  have recovers := enterRecover_keeps_rolloverLaw counted intervenes
  exact keeps_ite (P := RolloverLaw) (fun _ => recovers) fun _ => keeps_ite (P := RolloverLaw)
    (fun _ => recovers) fun _ => keeps_ite (P := RolloverLaw) (fun _ => recovers) fun _ => counted

theorem recoverRule_keeps_rolloverLaw (degraded : Bool) {s : State} (law : RolloverLaw s)
    (control : inControl s = true) : RolloverLaw (recoverRule degraded s) :=
  keeps_ite (P := RolloverLaw) (fun _ => enterIntervene_rolloverLaw control) fun _ => law

theorem estimate_keeps_rolloverLaw {s : State} (law : RolloverLaw s) : RolloverLaw (estimate s) :=
  law.record _ rfl rfl rfl

theorem applyOffAndDegraded_keeps_rolloverLaw (degraded : Bool) {s : State} (law : RolloverLaw s) :
    RolloverLaw (applyOffAndDegraded degraded s) := by
  have degrades := enterDegraded_rolloverLaw s
  unfold applyOffAndDegraded
  refine keeps_ite (P := RolloverLaw) (fun _ => enterOff_keeps_rolloverLaw law) fun _ => ?_
  split
  case h_1 state =>
    exact keeps_ite (P := RolloverLaw) (fun _ => degrades) fun _ =>
      enterMonitor_keeps_rolloverLaw law (by rw [state]; rfl)
  case h_2 state =>
    exact keeps_ite (P := RolloverLaw) (fun _ => law) fun _ =>
      enterMonitor_keeps_rolloverLaw law (by rw [state]; rfl)
  case h_3 | h_4 | h_5 => exact keeps_ite (P := RolloverLaw) (fun _ => degrades) fun _ => law
  case h_6 | h_7 => exact law

theorem enterOff_state (s : State) : (enterOff s).rollover.state = .off := by
  unfold enterOff
  split
  · next off => exact off
  · split
    · change (withdraw .off s).rollover.state = .off
      rw [withdraw, handAll_rollover]
      rfl
    · rw [withdraw, handAll_rollover]
      rfl

/-- R116: out of control the monitor is OFF. -/
theorem inControl_of_applied {degraded : Bool} {s : State}
    (notOff : (applyOffAndDegraded degraded s).rollover.state ≠ .off) : inControl s = true := by
  by_contra out
  refine notOff ?_
  rw [applyOffAndDegraded, if_pos (by simp [out]), enterOff_state]

theorem rolloverSample_keeps_rolloverLaw {s : State} (law : RolloverLaw s) :
    RolloverLaw (rolloverSample s) := by
  have staged := applyOffAndDegraded_keeps_rolloverLaw (degradedCondition s)
    (law.record { s.rollover with degradedSeen := degradedCondition s } rfl rfl rfl)
  have estimated := estimate_keeps_rolloverLaw staged
  have control (notOff : (applyOffAndDegraded (degradedCondition s) (s.setRollover
      { s.rollover with degradedSeen := degradedCondition s })).rollover.state ≠ .off) :=
    (inControl_congr (applyOffAndDegraded_monitorOnly (degradedCondition s) _).device).trans
      (inControl_of_applied notOff)
  unfold rolloverSample
  dsimp only
  split
  case h_1 | h_2 => exact staged
  case h_3 state => exact monitorRule_keeps_rolloverLaw estimated state (control (by rw [state]; decide))
  case h_4 state => exact alertRule_keeps_rolloverLaw estimated state
  case h_5 state => exact testRule_keeps_rolloverLaw estimated (control (by rw [state]; decide))
  case h_6 state => exact interveneRule_keeps_rolloverLaw _ estimated state
  case h_7 state => exact recoverRule_keeps_rolloverLaw _ estimated (control (by rw [state]; decide))

/-! ### The expiries -/

theorem testTimerExpired_keeps_rolloverLaw {s : State} (law : RolloverLaw s) :
    RolloverLaw (testTimerExpired s) := by
  refine keeps_ite (P := RolloverLaw) (fun test => ?_) fun _ => law.record _ rfl rfl rfl
  refine rolloverLaw_handAll (.inr rfl) fun _ => ?_
  change inControl (endTest .noLift s) = true
  rw [inControl_congr (endTest_monitorOnly .noLift s).device]
  exact ((rolloverLaw_iff s).mp law).2.2 (by rw [test]; rfl)

/-- R130: a ramp that ends at level 0. -/
theorem leaveRecover_keeps_rolloverLaw {s : State} (law : RolloverLaw s)
    (recovers : s.rollover.state = .recover) (level : s.rollover.level = 0) :
    RolloverLaw (leaveRecover s) := by
  refine keeps_ite (P := RolloverLaw) (fun _ => enterOff_keeps_rolloverLaw law) fun _ =>
    keeps_ite (P := RolloverLaw) (fun _ => enterDegraded_rolloverLaw s) fun _ =>
      law.setRollover _ ?_ (fun _ => level) fun alarmed => nomatch alarmed
  funext side
  rw [Rollover.request_of_intervening (r := s.rollover) (by rw [recovers]; rfl), level]
  exact Rollover.request_of_quiet (r := { s.rollover with state := .monitor }) rfl side

theorem rampStepExpired_keeps_rolloverLaw {s : State} (law : RolloverLaw s) :
    RolloverLaw (rampStepExpired s) := by
  refine keeps_ite (P := RolloverLaw) (fun recovers => ?_) fun _ => law.record _ rfl rfl rfl
  have handed : RolloverLaw (handAll (s.rollover.level - 50) s) :=
    rolloverLaw_handAll (.inl (by rw [recovers]; rfl)) ((rolloverLaw_iff s).mp law).2.2
  have rollover := handAll_rollover (s.rollover.level - 50) s
  refine keeps_ite (P := RolloverLaw) (fun _ => handed.record _ rfl rfl rfl) fun ended => ?_
  refine leaveRecover_keeps_rolloverLaw (handed.record _ rfl rfl rfl) ?_ ?_
  · change (handAll (s.rollover.level - 50) s).rollover.state = .recover
    rw [rollover, recovers]
  · change (handAll (s.rollover.level - 50) s).rollover.level = 0
    rw [rollover]
    exact Nat.eq_zero_of_not_pos ended

/-! ### The other commands -/

theorem RolloverLaw.of_channels_eq {s t : State} (law : RolloverLaw s)
    (channels : t.channels = s.channels) (rollover : t.rollover = s.rollover)
    (control : s.rollover.state.alarmed = true → inControl s = true → inControl t = true) :
    RolloverLaw t :=
  law.of_frame (fun c => by rw [channels]; exact ⟨rfl, rfl, rfl⟩) rollover control

theorem RolloverLaw.setChannel {s : State} (law : RolloverLaw s) {c : Fin 4} {x : Channel}
    (same : x.present = s.channels[c].present ∧ x.side = s.channels[c].side
      ∧ x.rolloverRequest = s.channels[c].rolloverRequest) : RolloverLaw (s.setChannel c x) :=
  law.of_frame (fun d => by
    by_cases h : d = c
    · subst h
      rw [State.setChannel_get_self]
      exact same
    · rw [State.setChannel_get_ne _ _ _ _ h]
      exact ⟨rfl, rfl, rfl⟩) rfl fun _ control => control

theorem antiLockStep_sameRequest (x : Channel) (runs release settled : Bool) :
    (x.antiLockStep runs release settled).present = x.present
      ∧ (x.antiLockStep runs release settled).side = x.side
      ∧ (x.antiLockStep runs release settled).rolloverRequest = x.rolloverRequest := by
  have reapply : x.enterReapply.present = x.present ∧ x.enterReapply.side = x.side
      ∧ x.enterReapply.rolloverRequest = x.rolloverRequest := by
    unfold Channel.enterReapply
    split <;> exact ⟨rfl, rfl, rfl⟩
  unfold Channel.antiLockStep
  split
  case isFalse => exact ⟨rfl, rfl, rfl⟩
  split
  case h_1 | h_2 | h_3 => split <;> exact ⟨rfl, rfl, rfl⟩
  case h_4 =>
    split
    · exact ⟨rfl, rfl, rfl⟩
    split
    · exact reapply
    · exact ⟨rfl, rfl, rfl⟩
  case h_5 =>
    split
    · exact ⟨rfl, rfl, rfl⟩
    split <;> exact ⟨rfl, rfl, rfl⟩

theorem antiLockChannel_keeps_rolloverLaw (c : Fin 4) {s : State} (law : RolloverLaw s) :
    RolloverLaw (antiLockChannel c s) := by
  refine keeps_ite (P := RolloverLaw) (fun _ => ?_) fun _ => law
  rw [arbitrate_setChannel]
  exact law.setChannel (antiLockStep_sameRequest _ _ _ _)

theorem antiLockSample_keeps_rolloverLaw {s : State} (law : RolloverLaw s) :
    RolloverLaw (antiLockSample s) := by
  have judged : RolloverLaw (judgeWheels s) := law
  exact forEach_keeps RolloverLaw (fun c _ => antiLockChannel_keeps_rolloverLaw c) _ judged

theorem windowEnd_rollover (now : Stamp) (lines : BitVec 8) (s : State) :
    (windowEnd now lines s).rollover = s.rollover :=
  (reportSensors_valveOnly _).rollover

theorem inControl_windowEnd (now : Stamp) (lines : BitVec 8) (s : State) :
    inControl (windowEnd now lines s) = inControl s := by
  rw [inControl, inControl, windowEnd_device]

theorem sampleSet_keeps_rolloverLaw (now : Stamp) (lines : BitVec 8) (first : Bool) {s : State}
    (law : RolloverLaw s) : RolloverLaw (sampleSet now lines first s) := by
  have closed : RolloverLaw (windowEnd now lines s) :=
    law.of_channels_eq (windowEnd_channels now lines s) (windowEnd_rollover now lines s)
      fun _ control => (inControl_windowEnd now lines s).trans control
  cases first with
  | true =>
    rw [sampleSet_antiLock_first]
    exact rolloverSample_keeps_rolloverLaw (antiLockSample_keeps_rolloverLaw closed)
  | false =>
    rw [sampleSet_antiLock_last]
    exact antiLockSample_keeps_rolloverLaw (rolloverSample_keeps_rolloverLaw closed)

/-- R174: a change of the device state that leaves an alarmed monitor in control. -/
theorem setDeviceState_keeps_rolloverLaw {d : DeviceState} {s : State} (law : RolloverLaw s)
    (control : s.rollover.state.alarmed = true → d = .active ∨ d = .waitRelease) :
    RolloverLaw (setDeviceState d s) := by
  have moved : RolloverLaw { s with device := { s.device with state := d } } :=
    law.of_channels_eq rfl rfl fun alarmed _ => (inControl_iff _).mpr (control alarmed)
  exact moved.of_liftDrove (setDeviceState_liftDrove d s)

theorem goActiveOwner_keeps_rolloverLaw (index : BitVec 5) {s : State} (law : RolloverLaw s) :
    RolloverLaw (goActiveOwner index s).2 := by
  have entered : RolloverLaw (setDeviceState .active s) :=
    setDeviceState_keeps_rolloverLaw law fun _ => .inl rfl
  unfold goActiveOwner
  split
  case h_1 | h_4 => exact law
  case h_2 =>
    dsimp only
    exact entered
  case h_3 =>
    split
    · exact law
    · dsimp only
      exact entered

/-- R175: the part leaves ACTIVE for STANDBY with a monitor that does not alarm only. -/
theorem goStandbyOwner_keeps_rolloverLaw (index : BitVec 5) {s : State} (law : RolloverLaw s) :
    RolloverLaw (goStandbyOwner index s).2 := by
  unfold goStandbyOwner
  refine keeps_ite (P := RolloverLaw) (fun _ => ?_) fun _ => law
  refine setDeviceState_keeps_rolloverLaw (law.of_drove (endExercises_drove s)) fun alarmed => ?_
  split
  · next released =>
    rw [releaseConditions, alarmed] at released
    simp at released
  · exact .inr rfl

theorem store_keeps_rolloverLaw (r : RecordId) (n v : Nat) {s : State} (law : RolloverLaw s) :
    RolloverLaw (store r n v s) := by
  cases r with
  | device =>
    unfold store
    dsimp only
    split
    case h_1 =>
      unfold storeMask
      refine RolloverLaw.of_drove ?_ (settle_drove _)
      exact law
    case h_4 =>
      refine RolloverLaw.of_drove ?_ (settle_drove _)
      exact law
    all_goals exact law
  | axle a =>
    unfold store
    dsimp only
    split
    case h_1 =>
      exact keeps_ite (P := RolloverLaw) (fun _ => law) fun _ =>
        List.foldlRecOn (motive := RolloverLaw) _ _ law fun _ h _ _ => h
    case h_2 =>
      have requested (x : Axle) (l : LiftController) :
          RolloverLaw (requestLift false { putAxle a x s with lift := l }) :=
        RolloverLaw.of_liftDrove (s := { putAxle a x s with lift := l }) law (requestLift_liftDrove _ _)
      exact keeps_ite (P := RolloverLaw) (fun _ => law) fun _ =>
        keeps_ite (P := RolloverLaw) (fun _ => requested _ _) fun _ => requested _ _
    all_goals exact law
  | channel c =>
    unfold store
    dsimp only
    split
    case h_3 =>
      rw [arbitrate_setChannel]
      exact law.setChannel ⟨rfl, rfl, rfl⟩
    case h_6 => exact law
    all_goals exact law.setChannel ⟨rfl, rfl, rfl⟩
  | rollover =>
    unfold store
    dsimp only
    split
    case h_6 => exact law
    all_goals exact law.record _ rfl rfl rfl
  | candidate k => exact law
  | wheel | tyre =>
    unfold store
    dsimp only
    split <;> exact law

/-- The records of a reset ask for nothing. -/
theorem rolloverLaw_of_reset {t : State}
    (requests : ∀ c : Fin 4, t.channels[c].present = true → t.channels[c].rolloverRequest = 0)
    (off : t.rollover.state = .off) (level : t.rollover.level = 0) : RolloverLaw t := by
  refine (rolloverLaw_iff t).mpr ⟨fun c present => ?_, fun _ => level, fun alarmed => ?_⟩
  · rw [requests c present, Rollover.request_of_quiet (by rw [off]; rfl)]
  · rw [off] at alarmed
    cases alarmed

theorem beginFullReset_rolloverLaw (s : State) : RolloverLaw (beginFullReset s) :=
  rolloverLaw_of_reset (fun c _ => by
    simp [beginFullReset, freshChannels, freshChannel]) rfl rfl

/-- R180: a held part's monitor is OFF, so the reset's end asks for nothing. -/
theorem endFullReset_keeps_rolloverLaw (straps : BitVec 2) {s : State} (law : RolloverLaw s)
    (off : s.rollover.state = .off) : RolloverLaw (endFullReset straps s) := by
  refine keeps_ite (P := RolloverLaw) (fun _ => law) fun _ =>
    rolloverLaw_of_reset (fun c _ => ?_) off (((rolloverLaw_iff s).mp law).2.1 (by rw [off]; rfl))
  simp [startInit, sampleLayout, freshChannel]

theorem restart_rolloverLaw (s : State) : RolloverLaw (restart s) := by
  refine rolloverLaw_of_reset (fun c present => ?_) rfl rfl
  rw [restart_channel] at present ⊢
  unfold Channel.restart at present ⊢
  split
  · rfl
  · next absent =>
    rw [if_neg absent] at present
    exact absurd present absent

theorem request_keeps_rolloverLaw {kind : BitVec 6} {owner : State → Reply × State} {s : State}
    (law : RolloverLaw s) (op : ∀ u, RolloverLaw u → RolloverLaw (owner u).2) :
    RolloverLaw (request kind owner s) :=
  request_keeps (P := RolloverLaw) (fun _ _ h => h) law fun u _ _ => op u

theorem RolloverLaw.of_tyreOnly {s t : State} (law : RolloverLaw s) (h : TyreOnly s t) :
    RolloverLaw t :=
  law.of_channels_eq (by rw [h]) (by rw [h]) fun _ control => by
    rw [h]
    exact control

theorem RolloverLaw.of_lookupOnly {s t : State} (law : RolloverLaw s) (h : LookupOnly s t) :
    RolloverLaw t :=
  law.of_channels_eq (by rw [h.1]) (by rw [h.1]) fun _ control => by
    rw [h.1]
    exact control

/-- R82, R172: the monitor does not alarm in INIT, so the end of INIT leaves it out of control. -/
theorem initTimer_keeps_rolloverLaw {s : State} (law : RolloverLaw s)
    (init : s.device.state = .init) : RolloverLaw (forEach 4 leaveOff (setDeviceState .standby
      { s with device := { s.device with initTimer := none } })) := by
  have stopped : RolloverLaw { s with device := { s.device with initTimer := none } } := law
  refine (setDeviceState_keeps_rolloverLaw stopped fun alarmed => ?_).of_drove
    (forEach_drove leaveOff_drove _)
  have control := ((rolloverLaw_iff s).mp law).2.2 alarmed
  rw [inControl, init] at control
  cases control

/-! ### Every command -/

theorem held_of_cause {s : State} (cause : s.device.supplyFail = true ∨ s.device.resetLow = true) :
    held s = true := by
  rw [held, Bool.or_eq_true]
  exact cause

theorem holdTimerExpired_sameRequest (x : Channel) :
    let y := if x.antiLock = .hold then x.enterReapply else { x with holdTimer := none }
    y.present = x.present ∧ y.side = x.side ∧ y.rolloverRequest = x.rolloverRequest := by
  dsimp only
  unfold Channel.enterReapply
  split
  · split <;> exact ⟨rfl, rfl, rfl⟩
  · exact ⟨rfl, rfl, rfl⟩

theorem stepTimerExpired_sameRequest (x : Channel) :
    let y := if x.antiLock = .reapply then x.stepCap else { x with stepTimer := none }
    y.present = x.present ∧ y.side = x.side ∧ y.rolloverRequest = x.rolloverRequest := by
  dsimp only
  unfold Channel.stepCap
  dsimp only
  split
  · split <;> exact ⟨rfl, rfl, rfl⟩
  · exact ⟨rfl, rfl, rfl⟩

theorem RolloverLaw.arbitrate_setChannel {s : State} (law : RolloverLaw s) {c : Fin 4} {x : Channel}
    (same : x.present = s.channels[c].present ∧ x.side = s.channels[c].side
      ∧ x.rolloverRequest = s.channels[c].rolloverRequest) :
    RolloverLaw (arbitrate c (s.setChannel c x)) := by
  rw [Machine.arbitrate_setChannel]
  exact law.setChannel same

theorem exec_keeps_rolloverLaw (i : Instr) (s t : State) (reset : ResetLaw s) (law : RolloverLaw s)
    (h : exec i s = .next t) : RolloverLaw t := by
  cases i
  case lineToSpacing | lineToMarking | startBitTaken | characterComplete | gapTimerExpiry |
      agingExpiry | learnTimerExpiry => exact law.of_tyreOnly (exec_tyreOnly h rfl)
  all_goals obtain rfl := Host.Outcome.next.inj h
  case powerOn straps =>
    exact endFullReset_keeps_rolloverLaw straps (beginFullReset_rolloverLaw s) rfl
  case logicSupplyLow | resetLineAssert =>
    exact keeps_ite (fun _ => law) fun _ => beginFullReset_rolloverLaw _
  case logicSupplyRestored straps =>
    exact keeps_ite (fun low => endFullReset_keeps_rolloverLaw straps
      (s := { s with device := { s.device with supplyFail := false } }) law
      (reset.2 (held_of_cause (.inl low))).2.2.1) fun _ => law
  case resetLineRelease straps =>
    exact keeps_ite (fun low => endFullReset_keeps_rolloverLaw straps
      (s := { s with device := { s.device with resetLow := false } }) law
      (reset.2 (held_of_cause (.inr low))).2.2.1) fun _ => law
  case initTimerExpiry =>
    exact whileRunning_keeps law fun _ =>
      keeps_ite (fun runs => initTimer_keeps_rolloverLaw law (reset.1 runs)) fun _ => law
  case failsafeAssert =>
    exact whileRunning_keeps law fun _ => RolloverLaw.of_drove (RolloverLaw.of_liftDrove
      (s := { s with device := { s.device with failsafe := true } }) law
        (forceLowering_liftDrove _)) (settle_drove _)
  case failsafeRelease =>
    exact whileRunning_keeps law fun _ => RolloverLaw.of_drove
      (s := { s with device := { s.device with failsafe := false } }) law (settle_drove _)
  case scanCompletion r order =>
    exact whileRunning_keeps law fun _ =>
      keeps_ite (fun _ => law.of_scanned (scanCompletion_scanned r order s)) fun _ => law
  case sampleSet now lines first =>
    exact whileRunning_keeps law fun _ =>
      keeps_ite (fun _ => sampleSet_keeps_rolloverLaw now lines first law) fun _ => law
  case wheelEdge w now =>
    exact whileRunning_keeps law fun _ => keeps_ite (fun _ => law) fun _ => law
  case shortCircuitTrip o =>
    have off : RolloverLaw (deenergise o s) := law.of_drove (deenergise_drove o s)
    exact whileRunning_keeps law fun _ => keeps_ite (fun _ => RolloverLaw.of_drove
      (s := report (.valveShort o) true (deenergise o s)) off (settle_drove _)) fun _ => law
  case changeoverGapExpiry c =>
    refine keeps_ite (fun _ => RolloverLaw.of_drove (law.setChannel ?_) (serves_drove c _))
      fun _ => law
    exact ⟨rfl, rfl, rfl⟩
  case blankingTimerExpiry o =>
    exact whileRunning_keeps law fun _ => keeps_ite (fun _ => law) fun _ => law
  case raiseTimerExpiry =>
    refine whileRunning_keeps law fun _ => keeps_ite (fun _ => ?_) fun _ => law
    dsimp only
    split
    · exact law
    · next a _ =>
      have lowered : RolloverLaw (startLowering a { s with lift := { s.lift with raiseTimer := none } }) :=
        RolloverLaw.of_liftDrove (s := { s with lift := { s.lift with raiseTimer := none } }) law
          (startLowering_liftDrove _ _)
      exact keeps_ite (fun _ => lowered) fun _ => law
  case loweringTimerExpiry =>
    refine whileRunning_keeps law fun _ => keeps_ite (fun _ => ?_) fun _ => law
    dsimp only
    split
    · exact law
    · exact keeps_ite (fun _ => keeps_ite (fun _ => law) fun _ => law) fun _ => law
  case supplyTimerExpiry c =>
    exact whileRunning_keeps law fun _ => keeps_ite (fun _ =>
      keeps_ite (fun _ => law.setChannel ⟨rfl, rfl, rfl⟩) fun _ => law.setChannel ⟨rfl, rfl, rfl⟩)
      fun _ => law
  case exerciseTimerExpiry c =>
    exact whileRunning_keeps law fun _ => keeps_ite (fun _ =>
      keeps_ite (fun _ => law.of_drove (finishExercise_drove c _ s))
        fun _ => law.setChannel ⟨rfl, rfl, rfl⟩) fun _ => law
  case holdTimerExpiry c =>
    refine whileRunning_keeps law fun _ => keeps_ite (fun _ => ?_) fun _ => law
    exact law.arbitrate_setChannel (holdTimerExpired_sameRequest _)
  case stepTimerExpiry c =>
    refine whileRunning_keeps law fun _ => keeps_ite (fun _ => ?_) fun _ => law
    exact law.arbitrate_setChannel (stepTimerExpired_sameRequest _)
  case testTimerExpiry =>
    exact whileRunning_keeps law fun _ =>
      keeps_ite (fun _ => testTimerExpired_keeps_rolloverLaw law) fun _ => law
  case testSpacingExpiry | interventionMinExpiry =>
    exact whileRunning_keeps law fun _ => law.record _ rfl rfl rfl
  case rampStepExpiry =>
    exact whileRunning_keeps law fun _ =>
      keeps_ite (fun _ => rampStepExpired_keeps_rolloverLaw law) fun _ => law
  case jamTimerExpiry | markTimerExpiry =>
    exact whileRunning_keeps law fun _ => keeps_ite (fun _ => law) fun _ => law
  case selectFall => exact law
  case emptyTransaction | frameError =>
    exact transact_keeps (fun _ _ h => h) law fun _ _ _ h => h
  case initTransaction =>
    rw [closeTransaction_openTransaction]
    exact law
  case unknownRequest | nop => exact request_keeps_rolloverLaw law fun _ h => h
  case lookup table index group =>
    exact request_keeps_rolloverLaw law fun u lawU =>
      lawU.of_lookupOnly (lookupOwner_lookupOnly table index group u)
  case lookupNext index group =>
    exact request_keeps_rolloverLaw law fun u lawU =>
      lawU.of_lookupOnly (lookupNextOwner_lookupOnly index group u)
  case amend table index field value =>
    exact request_keeps_rolloverLaw law fun u lawU =>
      amendOwner_keeps lawU fun r v _ _ => store_keeps_rolloverLaw r _ v lawU
  case enrol table index high low =>
    exact request_keeps_rolloverLaw law fun u lawU =>
      lawU.of_tyreOnly (enrolOwner_tyreOnly table index high low u)
  case retire table index =>
    exact request_keeps_rolloverLaw law fun u lawU =>
      lawU.of_tyreOnly (retireOwner_tyreOnly table index u)
  case learn table index =>
    exact request_keeps_rolloverLaw law fun u lawU =>
      lawU.of_tyreOnly (learnOwner_tyreOnly table index u)
  case cancelLearn index =>
    exact request_keeps_rolloverLaw law fun u lawU =>
      lawU.of_tyreOnly (cancelLearnOwner_tyreOnly index u)
  case liftCommand index mode =>
    refine request_keeps_rolloverLaw law fun u lawU => ?_
    unfold liftCommandOwner
    split
    · exact lawU
    · split <;> exact lawU
  case exercise table index argument =>
    exact request_keeps_rolloverLaw law fun u lawU =>
      lawU.of_drove (exerciseOwner_drove table index argument u)
  case goActive index =>
    exact request_keeps_rolloverLaw law fun u => goActiveOwner_keeps_rolloverLaw index
  case goStandby index =>
    exact request_keeps_rolloverLaw law fun u => goStandbyOwner_keeps_rolloverLaw index
  case softReset index =>
    exact transact_keeps (fun _ _ h => h) law fun u _ _ _ => restart_rolloverLaw u
  case ackFaults index =>
    refine request_keeps_rolloverLaw law fun u lawU => ?_
    unfold ackFaultsOwner
    dsimp only
    refine RolloverLaw.of_drove ?_ (settle_drove _)
    exact lawU
  case setAttention index enables =>
    refine request_keeps_rolloverLaw law fun u lawU => ?_
    unfold setAttentionOwner
    split <;> exact lawU

/-- Settles O57: command by command. The law of the resets says where INIT is left and that the monitor of
a held part is OFF. -/
theorem resetAndRolloverLawsKept : Obligations.ResetAndRolloverLawsKept := fun _ _ a b stepped =>
  step_keeps (P := fun u => ResetLaw u ∧ RolloverLaw u) (fun _ _ h => h)
    (fun i s t law h => ⟨exec_keeps_resetLaw i s t law.1 h, exec_keeps_rolloverLaw i s t law.1 law.2 h⟩)
    ⟨a, b⟩ stepped

end Sys2Proof.Machine
end

section
/-! Proofs about the law of the fault set and of the Record Link (sections 11.1, 11.2 and 12.2). -/

namespace Sys2Proof.Machine

/-! ### What an operation keeps of the fault set and of the link -/

/-- R176, R177: the mark of a fault is lawful under a fault mask. -/
def FaultId.Lawful (f : FaultId) (mask : Word) (m : FaultMark) : Prop :=
  (m.present = true → f.isLatched = true → m.latched = true)
    ∧ (f.isLatched = false → m.latched = false)
    ∧ (mask.getLsbD f.bit = true → m.present = false ∧ m.latched = false)

theorem faultLaw_iff (s : State) :
    FaultLaw s ↔ ∀ f : FaultId, f.Lawful s.device.faultMask (s.faults.get f) := .rfl

theorem FaultId.lawful_clear (f : FaultId) (mask : Word) : f.Lawful mask clearMark :=
  ⟨fun present => absurd present Bool.false_ne_true, fun _ => rfl, fun _ => ⟨rfl, rfl⟩⟩

/-- An operation that leaves the fault mask, a lawful fault set lawful, the transaction and the cursor as
they stand, and the link serving if it serves. -/
structure LinkFrame (s t : State) : Prop where
  mask : t.device.faultMask = s.device.faultMask
  lawful : FaultLaw s → FaultLaw t
  select : t.link.select = s.link.select
  cursorTable : t.link.cursorTable = s.link.cursorTable
  cursorIndex : t.link.cursorIndex = s.link.cursorIndex
  serves : linkServes s = true → linkServes t = true

theorem LinkFrame.refl (s : State) : LinkFrame s s := ⟨rfl, id, rfl, rfl, rfl, id⟩

theorem LinkFrame.trans {s t u : State} (a : LinkFrame s t) (b : LinkFrame t u) : LinkFrame s u where
  mask := b.mask.trans a.mask
  lawful := b.lawful ∘ a.lawful
  select := b.select.trans a.select
  cursorTable := b.cursorTable.trans a.cursorTable
  cursorIndex := b.cursorIndex.trans a.cursorIndex
  serves := b.serves ∘ a.serves

/-- The two laws together. -/
def LinkLaws (s : State) : Prop := FaultLaw s ∧ LinkLaw s

theorem LinkLaws.of_linkFrame {s t : State} (law : LinkLaws s) (h : LinkFrame s t) : LinkLaws t := by
  obtain ⟨faults, serving, cursor⟩ := law
  refine ⟨h.lawful faults, fun selected => ?_, ?_⟩
  · exact h.serves (serving (h.select ▸ selected))
  · rw [h.cursorTable, h.cursorIndex]
    exact cursor

theorem FaultLaw.of_get {s t : State} (law : FaultLaw s)
    (mask : t.device.faultMask = s.device.faultMask) (faults : ∀ f, t.faults.get f = s.faults.get f) :
    FaultLaw t := fun f => by
  rw [faults, mask]
  exact law f

/-- A change of neither the fault set nor the device record's mask and mode, nor of the link. -/
theorem LinkFrame.of_device {s t : State} (device : t.device = s.device) (faults : t.faults = s.faults)
    (link : t.link = s.link) : LinkFrame s t where
  mask := by rw [device]
  lawful law := law.of_get (by rw [device]) fun f => by rw [faults]
  select := by rw [link]
  cursorTable := by rw [link]
  cursorIndex := by rw [link]
  serves h := by
    rw [linkServes, held, device]
    exact h

theorem LinkFrame.setAxle (a : Fin 4) (x : Axle) (s : State) : LinkFrame s (s.setAxle a x) :=
  .of_device rfl rfl rfl

theorem LinkFrame.setChannel (c : Fin 4) (x : Channel) (s : State) : LinkFrame s (s.setChannel c x) :=
  .of_device rfl rfl rfl

/-- R176, R177: a report leaves its fault lawful. -/
theorem report_lawful (f : FaultId) (c : Bool) {s : State} (law : FaultLaw s) :
    FaultLaw (report f c s) := fun g => by
  obtain ⟨-, present, latched, others, -⟩ := report_spec f c s
  by_cases same : g = f
  · subst same
    obtain ⟨marks, unlatched, clear⟩ := law g
    simp only [FaultId.isLatched, masked] at present latched marks unlatched clear ⊢
    rw [report_device, present, latched]
    grind
  · rw [others g same]
    exact law g

theorem report_linkFrame (f : FaultId) (c : Bool) (s : State) : LinkFrame s (report f c s) :=
  ⟨rfl, report_lawful f c, rfl, rfl, rfl, id⟩

theorem forEach_linkFrame {n : Nat} {f : Fin n → State → State} (step : ∀ i s, LinkFrame s (f i s))
    (s : State) : LinkFrame s (forEach n f s) :=
  forEach_rel LinkFrame .refl .trans step s

/-- What the drivers report absent keeps a lawful fault set lawful. -/
theorem DriverFrame.lawful {s t : State} (h : DriverFrame s t)
    (mask : t.device.faultMask = s.device.faultMask) (law : FaultLaw s) : FaultLaw t := fun f => by
  obtain ⟨marks, unlatched, clear⟩ := law f
  rw [h.latched, mask]
  refine ⟨fun present => marks (h.present f present), unlatched, fun maskedF => ?_⟩
  obtain ⟨absent, notLatched⟩ := clear maskedF
  refine ⟨Bool.eq_false_iff.mpr fun present => ?_, notLatched⟩
  rw [h.present f present] at absent
  cases absent

theorem LiftDrove.linkFrame {s t : State} (h : LiftDrove s t) : LinkFrame s t where
  mask := by rw [h.device]
  lawful := h.toDriverFrame.lawful (by rw [h.device])
  select := by rw [h.sameLink]
  cursorTable := by rw [h.sameLink]
  cursorIndex := by rw [h.sameLink]
  serves served := by
    rw [linkServes, held, h.device]
    exact served

theorem Drove.linkFrame {s t : State} (h : Drove s t) : LinkFrame s t := h.liftDrove.linkFrame

theorem settle_linkFrame (s : State) : LinkFrame s (settle s) := (settle_drove s).linkFrame

theorem TyreOnly.linkFrame {s t : State} (h : TyreOnly s t) : LinkFrame s t where
  mask := by rw [h]
  lawful law := law.of_get (by rw [h]) fun f => by rw [h]
  select := by rw [h]
  cursorTable := by rw [h]
  cursorIndex := by rw [h]
  serves served := by
    rw [h]
    exact served

/-- R174: a change of the device state to one in which the link serves. -/
theorem setDeviceState_linkFrame {d : DeviceState} (serves : d ≠ .init) (s : State) :
    LinkFrame s (setDeviceState d s) := by
  refine .trans ?_ (setDeviceState_liftDrove d s).linkFrame
  refine ⟨rfl, id, rfl, rfl, rfl, fun served => ?_⟩
  obtain ⟨running, -⟩ := (linkServes_iff s).mp served
  exact (linkServes_iff _).mpr ⟨running, serves⟩

/-! ### A scan completion -/

theorem publishDelivered_linkFrame (c : Fin 4) (s : State) : LinkFrame s (publishDelivered c s) :=
  keeps_ite (P := LinkFrame s) (fun _ => (LinkFrame.setChannel _ _ _).trans (report_linkFrame _ _ _))
    fun _ => .refl s

theorem publishBellows_linkFrame (a : Fin 4) (s : State) : LinkFrame s (publishBellows a s) :=
  keeps_ite (P := LinkFrame s) (fun _ => (LinkFrame.setAxle _ _ _).trans (report_linkFrame _ _ _))
    fun _ => .refl s

theorem publish_linkFrame (r : ScanInputs) (s : State) : LinkFrame s (publish r s) := by
  unfold publish
  dsimp only
  refine .trans (.trans (.trans (.trans (.trans (.trans ?written (report_linkFrame _ _ _))
    (report_linkFrame _ _ _)) (report_linkFrame _ _ _)) (forEach_linkFrame publishDelivered_linkFrame _))
    (forEach_linkFrame publishBellows_linkFrame _)) (settle_linkFrame _)
  exact ⟨rfl, id, rfl, rfl, rfl, id⟩

theorem loadUnitScan_linkFrame (s : State) : LinkFrame s (loadUnitScan s) := by
  have total (t : State) (n : Nat) : LinkFrame t { t with device := { t.device with fTot := n } } :=
    ⟨rfl, id, rfl, rfl, rfl, id⟩
  have state (u : LoadUnit) : LinkFrame s { s with loadUnit := u } := .of_device rfl rfl rfl
  unfold loadUnitScan
  refine .trans (.trans (.trans (state _) (forEach_linkFrame (fun a t => ?_) _)) (total _ _))
    (forEach_linkFrame (fun c t => ?_) _)
  · exact keeps_ite (P := LinkFrame t) (fun _ => .setAxle _ _ _) fun _ => .refl t
  · exact keeps_ite (P := LinkFrame t) (fun _ => .setChannel _ _ _) fun _ => .refl t

theorem liftCounted_linkFrame (a : Fin 4) (s : State) : LinkFrame s (liftCounted a s) := by
  unfold liftCounted
  split <;> exact .of_device rfl rfl rfl

theorem liftMove_linkFrame (was : LiftState) (a : Fin 4) (s : State) :
    LinkFrame s (liftMove was a s) := by
  have raised : LinkFrame s (startRaise a s) := by
    refine .trans ?_ (requestLift_liftDrove true _).linkFrame
    exact .of_device rfl rfl rfl
  have lowers := (startLowering_liftDrove a s).linkFrame
  unfold liftMove
  split
  case h_1 => exact keeps_ite (P := LinkFrame s) (fun _ => raised) fun _ => .refl s
  case h_2 =>
    exact keeps_ite (P := LinkFrame s) (fun _ => lowers) fun _ =>
      keeps_ite (P := LinkFrame s) (fun _ => .of_device rfl rfl rfl) fun _ => .refl s
  case h_3 =>
    refine keeps_ite (P := LinkFrame s) (fun _ => ?_) fun _ => .refl s
    exact keeps_ite (P := LinkFrame s) (fun _ => lowers.trans (.setAxle _ _ _)) fun _ => lowers
  case h_4 | h_5 => exact .refl s

theorem liftScan_linkFrame (s : State) : LinkFrame s (liftScan s) := by
  have reported := report_linkFrame .lift false s
  cases h : liftAxle s with
  | none =>
    rw [liftScan_of_none h]
    exact reported.trans (.of_device rfl rfl rfl)
  | some a =>
    rw [liftScan_of_some h]
    exact (reported.trans (liftCounted_linkFrame a _)).trans (liftMove_linkFrame _ a _)

theorem valveDriverScan_linkFrame (low : BitVec 13) (s : State) :
    LinkFrame s (valveDriverScan low s) := by
  unfold valveDriverScan
  dsimp only
  refine .trans (.trans (.trans ?sampled (forEach_linkFrame ?shorts _)) (forEach_linkFrame ?opens _))
    (settle_linkFrame _)
  case sampled => exact .of_device rfl rfl rfl
  case shorts => exact fun o t => report_linkFrame _ _ t
  case opens =>
    exact fun o t => keeps_ite (P := LinkFrame t) (fun _ => report_linkFrame _ _ t) fun _ => .refl t

theorem takeScan_linkFrame (r : ScanInputs) (before : Bool) (agent : ScanAgent) (s : State) :
    LinkFrame s (takeScan r before agent s) := by
  cases agent with
  | loadUnit => exact loadUnitScan_linkFrame s
  | liftController => exact liftScan_linkFrame s
  | pressureTarget =>
    refine forEach_linkFrame (fun c t => ?_) s
    exact keeps_ite (P := LinkFrame t) (fun _ => .of_device rfl rfl rfl) fun _ => .refl t
  | channel c => exact (channelScan_drove c s).linkFrame
  | valveDriver => exact valveDriverScan_linkFrame _ s
  | antiLock =>
    refine forEach_linkFrame (fun c t => ?_) s
    exact keeps_ite (P := LinkFrame t) (fun _ =>
      keeps_ite (P := LinkFrame t) (fun _ => .setChannel _ _ _) fun _ =>
        keeps_ite (P := LinkFrame t) (fun _ => .of_device rfl rfl rfl) fun _ => .refl t)
      fun _ => .refl t
  | operatingState =>
    exact keeps_ite (P := LinkFrame s) (fun _ => setDeviceState_linkFrame (by decide) s)
      fun _ => .refl s

theorem scanCompletion_linkFrame (r : ScanInputs) (order : List ScanAgent) (s : State) :
    LinkFrame s (scanCompletion r order s) :=
  foldl_takeScan_keeps (P := LinkFrame s) (fun a t h => h.trans (takeScan_linkFrame r _ a t)) _
    (publish_linkFrame r s)

/-! ### A sample set -/

theorem handRequest_linkFrame (v : Nat) (c : Fin 4) (s : State) : LinkFrame s (handRequest v c s) :=
  keeps_ite (P := LinkFrame s) (fun _ => .of_device rfl rfl rfl) fun _ => .refl s

theorem monitorClosed_linkFrame (s : State) : MonitorClosed (LinkFrame s) where
  record _ h := h.trans (.of_device rfl rfl rfl)
  event h := h.trans ⟨rfl, id, rfl, rfl, rfl, id⟩
  lowering h := h.trans (forceLowering_liftDrove _).linkFrame
  request v c h := h.trans (handRequest_linkFrame v c _)

theorem windowEnd_linkFrame (now : Stamp) (lines : BitVec 8) (s : State) :
    LinkFrame s (windowEnd now lines s) := by
  unfold windowEnd
  refine LinkFrame.trans ?_ (forEach_linkFrame (fun w t => keeps_ite (P := LinkFrame t)
    (fun _ => report_linkFrame _ _ t) fun _ => .refl t) _)
  exact ⟨rfl, id, rfl, rfl, rfl, id⟩

theorem antiLockSample_linkFrame (s : State) : LinkFrame s (antiLockSample s) := by
  have judged : LinkFrame s (judgeWheels s) := .of_device rfl rfl rfl
  refine judged.trans (forEach_linkFrame (fun c t => ?_) _)
  exact keeps_ite (P := LinkFrame t) (fun _ => .of_device rfl rfl rfl) fun _ => .refl t

theorem sampleSet_linkFrame (now : Stamp) (lines : BitVec 8) (first : Bool) (s : State) :
    LinkFrame s (sampleSet now lines first s) := by
  have closed := windowEnd_linkFrame now lines s
  cases first with
  | true =>
    rw [sampleSet_antiLock_first]
    exact (monitorClosed_linkFrame s).rolloverSample (closed.trans (antiLockSample_linkFrame _))
  | false =>
    rw [sampleSet_antiLock_last]
    exact ((monitorClosed_linkFrame s).rolloverSample closed).trans (antiLockSample_linkFrame _)

/-! ### The requests -/

theorem recordOf_lt_size {t : TableId} {i : Nat} {r : RecordId} (h : recordOf t i = some r) :
    i < t.size := by
  cases t with
  | device | rollover =>
    simp only [recordOf, TableId.size] at h ⊢
    split at h
    · omega
    · cases h
  | axle | wheel | tyre | channel | candidate =>
    simp only [recordOf, TableId.size] at h ⊢
    split at h
    · assumption
    · cases h

theorem TableId.size_pos (t : TableId) : 0 < t.size := by
  cases t <;> decide

theorem mem_indicesAfter_lt {t : TableId} {index i : Nat} (h : i ∈ indicesAfter t index) :
    i < t.size := by
  obtain ⟨k, -, rfl⟩ := List.mem_map.mp h
  exact Nat.mod_lt _ t.size_pos

/-- R168: the next record found is of the cursor's table. -/
theorem nextRecord_lt_size {s : State} {t : TableId} {index i : Nat} {r : RecordId}
    (h : nextRecord s t index = some (i, r)) : i < t.size := by
  obtain ⟨j, mem, found⟩ := List.exists_of_findSome?_eq_some h
  split at found
  · cases found
  · split at found
    · cases found
      exact mem_indicesAfter_lt mem
    · cases found

theorem LinkLaws.setCursor {s : State} (law : LinkLaws s) {t : TableId} {i : Nat} (h : i < t.size) :
    LinkLaws (setCursor t i s) := ⟨law.1, law.2.1, h⟩

theorem clearLookedUp_linkFrame (r : RecordId) (group : BitVec 2) (s : State) :
    LinkFrame s (clearLookedUp r group s) := by
  cases r with
  | device => exact keeps_ite (P := LinkFrame s) (fun _ => ⟨rfl, id, rfl, rfl, rfl, id⟩) fun _ => .refl s
  | axle | wheel | tyre | channel => exact .of_device rfl rfl rfl
  | candidate | rollover => exact ⟨rfl, id, rfl, rfl, rfl, id⟩

theorem clearAbsent_linkFrame (t : TableId) (s : State) : LinkFrame s (clearAbsent t s) := by
  cases t <;> exact ⟨rfl, id, rfl, rfl, rfl, id⟩

theorem lookupOwner_keeps_linkLaws (table : BitVec 3) (index : BitVec 5) (group : BitVec 2) {s : State}
    (law : LinkLaws s) : LinkLaws (lookupOwner table index group s).2 := by
  unfold lookupOwner
  split
  · exact law
  split
  · exact law
  next named =>
    have placed := law.setCursor (recordOf_lt_size named)
    split
    · exact placed.of_linkFrame (clearLookedUp_linkFrame _ _ _)
    · exact placed.of_linkFrame (clearAbsent_linkFrame _ _)

theorem lookupNextOwner_keeps_linkLaws (index : BitVec 5) (group : BitVec 2) {s : State}
    (law : LinkLaws s) : LinkLaws (lookupNextOwner index group s).2 := by
  unfold lookupNextOwner
  split
  · exact law.of_linkFrame (clearAbsent_linkFrame _ _)
  next found =>
    exact (law.setCursor (nextRecord_lt_size found)).of_linkFrame (clearLookedUp_linkFrame _ _ _)

/-- R177: a repetition that clears what a test names, fault by fault. -/
theorem foldl_clear_get (test : FaultId → Bool) (l : List FaultId) (x : FaultSet) (f : FaultId) :
    (l.foldl (fun (x : FaultSet) g => if test g then x.set clearMark g else x) x).get f =
      if f ∈ l ∧ test f = true then clearMark else x.get f := by
  induction l generalizing x with
  | nil => simp
  | cons g l ih =>
    rw [List.foldl_cons, ih]
    by_cases later : f ∈ l ∧ test f = true
    · rw [if_pos later, if_pos ⟨List.mem_cons_of_mem _ later.1, later.2⟩]
    rw [if_neg later]
    by_cases same : f = g
    · subst same
      by_cases named : test f = true
      · rw [if_pos named, FaultSet.get_set_self, if_pos ⟨List.mem_cons_self, named⟩]
      · rw [if_neg named, if_neg fun h => named h.2]
    · have notLater : ¬(f ∈ g :: l ∧ test f = true) := by
        simpa only [List.mem_cons, same, false_or] using later
      rw [if_neg notLater]
      split
      · exact FaultSet.get_set_ne _ _ same
      · rfl

theorem mem_allFaults (f : FaultId) : f ∈ allFaults := by
  cases f <;> simp [allFaults]

/-- R177: the fault set once a new mask is stored: what it masks is clear, the rest stands. -/
theorem storeMask_keeps_faultLaw (v : Nat) {s : State} (law : FaultLaw s) : FaultLaw (storeMask v s) := by
  unfold storeMask
  refine (settle_linkFrame _).lawful (report_lawful _ _ fun f => ?_)
  dsimp only
  rw [foldl_clear_get]
  split
  · exact f.lawful_clear _
  · next notCleared =>
    obtain ⟨marks, unlatched, -⟩ := law f
    exact ⟨marks, unlatched, fun maskedF => absurd ⟨mem_allFaults f, maskedF⟩ notCleared⟩

/-- What the law of the transaction and the cursor reads of the state. -/
theorem LinkLaw.congr {s t : State} (law : LinkLaw s) (select : t.link.select = s.link.select)
    (table : t.link.cursorTable = s.link.cursorTable) (index : t.link.cursorIndex = s.link.cursorIndex)
    (serves : linkServes s = true → linkServes t = true) : LinkLaw t := by
  obtain ⟨serving, cursor⟩ := law
  refine ⟨fun selected => serves (serving (select ▸ selected)), ?_⟩
  rw [table, index]
  exact cursor

theorem LinkLaw.of_linkFrame {s t : State} (law : LinkLaw s) (h : LinkFrame s t) : LinkLaw t :=
  law.congr h.select h.cursorTable h.cursorIndex h.serves

theorem storeMask_keeps_linkLaws (v : Nat) {s : State} (law : LinkLaws s) :
    LinkLaws (storeMask v s) := by
  refine ⟨storeMask_keeps_faultLaw v law.1, ?_⟩
  unfold storeMask
  dsimp only
  refine LinkLaw.of_linkFrame ?_ ((report_linkFrame _ _ _).trans (settle_linkFrame _))
  exact law.2

theorem store_keeps_linkLaws (r : RecordId) (n v : Nat) {s : State} (law : LinkLaws s) :
    LinkLaws (store r n v s) := by
  cases r with
  | device =>
    unfold store
    dsimp only
    split
    case h_1 => exact storeMask_keeps_linkLaws v law
    case h_4 =>
      refine LinkLaws.of_linkFrame ?_ (settle_linkFrame _)
      exact law
    all_goals exact law
  | axle a =>
    unfold store
    dsimp only
    split
    case h_1 =>
      exact keeps_ite (P := LinkLaws) (fun _ => law) fun _ =>
        List.foldlRecOn (motive := LinkLaws) _ _ law fun _ h _ _ => h
    case h_2 =>
      have requested (x : Axle) (l : LiftController) :
          LinkLaws (requestLift false { putAxle a x s with lift := l }) :=
        LinkLaws.of_linkFrame (s := { putAxle a x s with lift := l }) law
          (requestLift_liftDrove _ _).linkFrame
      exact keeps_ite (P := LinkLaws) (fun _ => law) fun _ =>
        keeps_ite (P := LinkLaws) (fun _ => requested _ _) fun _ => requested _ _
    all_goals exact law
  | candidate k => exact law
  | wheel | tyre | channel | rollover =>
    unfold store
    dsimp only
    split <;> exact law

theorem FaultSet.get_acknowledged (x : FaultSet) (f : FaultId) :
    x.acknowledged.get f = (x.get f).acknowledged := by
  cases f <;> simp [FaultSet.get, FaultSet.acknowledged]

/-- R178: what is acknowledged is lawful. -/
theorem FaultId.Lawful.acknowledged {f : FaultId} {mask : Word} {m : FaultMark} (h : f.Lawful mask m) :
    f.Lawful mask m.acknowledged := by
  obtain ⟨marks, unlatched, clear⟩ := h
  refine ⟨fun present latches => ?_, fun notLatched => ?_, fun maskedF => ?_⟩
  · have still : m.present = true := present
    simp [FaultMark.acknowledged, marks still latches, still]
  · simp [FaultMark.acknowledged, unlatched notLatched]
  · simp [FaultMark.acknowledged, clear maskedF]

theorem ackFaultsOwner_keeps_linkLaws (index : BitVec 5) {s : State} (law : LinkLaws s) :
    LinkLaws (ackFaultsOwner index s).2 := by
  unfold ackFaultsOwner
  dsimp only
  refine LinkLaws.of_linkFrame ⟨fun f => ?_, ?_⟩ (settle_linkFrame _)
  · dsimp only
    rw [FaultSet.get_acknowledged]
    exact FaultId.Lawful.acknowledged (law.1 f)
  · exact law.2

theorem goActiveOwner_linkFrame (index : BitVec 5) (s : State) :
    LinkFrame s (goActiveOwner index s).2 := by
  have entered := setDeviceState_linkFrame (d := .active) (by decide) s
  unfold goActiveOwner
  split
  case h_1 | h_4 => exact .refl s
  case h_2 =>
    dsimp only
    exact entered
  case h_3 =>
    split
    · exact .refl s
    · dsimp only
      exact entered

theorem goStandbyOwner_linkFrame (index : BitVec 5) (s : State) :
    LinkFrame s (goStandbyOwner index s).2 := by
  unfold goStandbyOwner
  refine keeps_ite (P := LinkFrame s) (fun _ => ?_) fun _ => .refl s
  refine (endExercises_drove s).linkFrame.trans (setDeviceState_linkFrame ?_ _)
  split <;> decide

/-! ### The resets -/

theorem clearFaults_get (f : FaultId) : clearFaults.get f = clearMark := by
  cases f <;> simp [clearFaults, FaultSet.get]

theorem Select.abandon_ne_serving (x : Select) : x.abandon ≠ .serving := by
  cases x <;> decide

/-- R171, R180: the fault set clear, no transaction to be served, and the cursor at the DEVICE record. -/
theorem linkLaws_of_reset {t : State} (faults : t.faults = clearFaults) {select : Select}
    (link : t.link = freshLink select.abandon) : LinkLaws t := by
  refine ⟨fun f => ?_, fun selected => ?_, ?_⟩
  · rw [faults, clearFaults_get]
    exact f.lawful_clear _
  · rw [link] at selected
    exact absurd selected (Select.abandon_ne_serving _)
  · rw [link]
    exact Nat.one_pos

theorem endFullReset_keeps_linkLaws (straps : BitVec 2) {s : State} (law : LinkLaws s)
    (idle : s.link.select ≠ .serving) : LinkLaws (endFullReset straps s) :=
  keeps_ite (P := LinkLaws) (fun _ => law) fun _ =>
    ⟨law.1, fun selected => absurd selected idle, law.2.2⟩

/-- R166, R180: no transaction is served of a part that is held. -/
theorem LinkLaw.not_serving {s : State} (law : LinkLaw s) (heldS : held s = true) :
    s.link.select ≠ .serving := fun selected => by
  have serves := law.1 selected
  rw [linkServes, heldS] at serves
  cases serves

/-! ### Every command -/

/-- R164, R168: once SELECT has risen no transaction is under way, and the cursor stands. -/
theorem passedLink_keeps_linkLaws {s : State} (law : LinkLaws s) :
    LinkLaws { s with link := passedLink s } := by
  refine ⟨law.1, fun selected => ?_, ?_⟩
  · cases selected
  have cursor : (passedLink s).cursorTable = s.link.cursorTable
      ∧ (passedLink s).cursorIndex = s.link.cursorIndex := by
    unfold passedLink openTransaction
    split
    · unfold beginTransaction
      dsimp only [closeTransaction]
      split <;> exact ⟨rfl, rfl⟩
    all_goals exact ⟨rfl, rfl⟩
  dsimp only
  rw [cursor.1, cursor.2]
  exact law.2.2

theorem transact_keeps_linkLaws {act : State → State} {s : State} (law : LinkLaws s)
    (op : ∀ u, LinkLaws u → LinkLaws (act u)) : LinkLaws (transact act s) := by
  have passed := passedLink_keeps_linkLaws law
  obtain untaken | ⟨-, taken⟩ := transact_cases act s
  · rw [untaken]
    exact passed
  · rw [taken]
    exact op _ passed

theorem request_keeps_linkLaws {kind : BitVec 6} {owner : State → Reply × State} {s : State}
    (law : LinkLaws s) (op : ∀ u, LinkLaws u → LinkLaws (owner u).2) :
    LinkLaws (request kind owner s) :=
  transact_keeps_linkLaws law fun u lawU => op u lawU

theorem request_keeps_of_linkFrame {kind : BitVec 6} {owner : State → Reply × State} {s : State}
    (law : LinkLaws s) (op : ∀ u, LinkFrame u (owner u).2) : LinkLaws (request kind owner s) :=
  request_keeps_linkLaws law fun u lawU => lawU.of_linkFrame (op u)

theorem beginTransaction_keeps_linkLaws {s : State} (law : LinkLaws s) :
    LinkLaws (beginTransaction s) := by
  obtain ⟨faults, -, cursor⟩ := law
  unfold beginTransaction
  split
  · next serves => exact ⟨faults, fun _ => serves, cursor⟩
  · refine ⟨faults, fun selected => ?_, cursor⟩
    cases selected

theorem whileRunning_linkFrame {f : State → State} {s : State} (op : LinkFrame s (f s)) :
    LinkFrame s (whileRunning f s) :=
  whileRunning_keeps (P := LinkFrame s) (.refl s) fun _ => op

/-- R172: the end of INIT. -/
theorem initTimer_linkFrame (s : State) : LinkFrame s (forEach 4 leaveOff (setDeviceState .standby
    { s with device := { s.device with initTimer := none } })) := by
  refine .trans (.trans ?_ (setDeviceState_linkFrame (by decide) _))
    (forEach_drove leaveOff_drove _).linkFrame
  exact ⟨rfl, id, rfl, rfl, rfl, id⟩

theorem exec_keeps_linkLaws (i : Instr) (s t : State) (law : LinkLaws s)
    (h : exec i s = .next t) : LinkLaws t := by
  cases i
  case lineToSpacing | lineToMarking | startBitTaken | characterComplete | gapTimerExpiry |
      agingExpiry | learnTimerExpiry => exact law.of_linkFrame (exec_tyreOnly h rfl).linkFrame
  all_goals obtain rfl := Host.Outcome.next.inj h
  case powerOn straps =>
    exact endFullReset_keeps_linkLaws straps (linkLaws_of_reset (t := beginFullReset s) rfl rfl)
      (Select.abandon_ne_serving _)
  case logicSupplyLow =>
    exact keeps_ite (fun _ => law) fun _ => linkLaws_of_reset
      (t := beginFullReset { s with device := { s.device with supplyFail := true } }) rfl rfl
  case resetLineAssert =>
    exact keeps_ite (fun _ => law) fun _ => linkLaws_of_reset
      (t := beginFullReset { s with device := { s.device with resetLow := true } }) rfl rfl
  case logicSupplyRestored straps =>
    refine keeps_ite (fun low => ?_) fun _ => law
    have idle := law.2.not_serving (held_of_cause (.inl low))
    exact endFullReset_keeps_linkLaws straps
      (s := { s with device := { s.device with supplyFail := false } })
      ⟨law.1, fun selected => absurd selected idle, law.2.2⟩ idle
  case resetLineRelease straps =>
    refine keeps_ite (fun low => ?_) fun _ => law
    have idle := law.2.not_serving (held_of_cause (.inr low))
    exact endFullReset_keeps_linkLaws straps
      (s := { s with device := { s.device with resetLow := false } })
      ⟨law.1, fun selected => absurd selected idle, law.2.2⟩ idle
  case initTimerExpiry =>
    exact law.of_linkFrame (whileRunning_linkFrame (keeps_ite (P := LinkFrame s)
      (fun _ => initTimer_linkFrame s) fun _ => .refl s))
  case failsafeAssert =>
    exact LinkLaws.of_linkFrame (s := { s with device := { s.device with failsafe := true } }) law
      (whileRunning_linkFrame ((forceLowering_liftDrove _).linkFrame.trans (settle_linkFrame _)))
  case failsafeRelease =>
    exact LinkLaws.of_linkFrame (s := { s with device := { s.device with failsafe := false } }) law
      (whileRunning_linkFrame (settle_linkFrame _))
  case scanCompletion r order =>
    exact law.of_linkFrame (whileRunning_linkFrame (keeps_ite (P := LinkFrame s)
      (fun _ => scanCompletion_linkFrame r order s) fun _ => .refl s))
  case sampleSet now lines first =>
    exact law.of_linkFrame (whileRunning_linkFrame (keeps_ite (P := LinkFrame s)
      (fun _ => sampleSet_linkFrame now lines first s) fun _ => .refl s))
  case wheelEdge w now =>
    exact law.of_linkFrame (whileRunning_linkFrame (keeps_ite (P := LinkFrame s)
      (fun _ => .of_device rfl rfl rfl) fun _ => .of_device rfl rfl rfl))
  case shortCircuitTrip o =>
    exact law.of_linkFrame (whileRunning_linkFrame (keeps_ite (P := LinkFrame s)
      (fun _ => ((deenergise_drove o s).linkFrame.trans (report_linkFrame _ _ _)).trans
        (settle_linkFrame _)) fun _ => .refl s))
  case changeoverGapExpiry c =>
    exact law.of_linkFrame (keeps_ite (P := LinkFrame s)
      (fun _ => (LinkFrame.setChannel _ _ _).trans (serves_drove c _).linkFrame) fun _ => .refl s)
  case blankingTimerExpiry o =>
    exact law.of_linkFrame (whileRunning_linkFrame (keeps_ite (P := LinkFrame s)
      (fun _ => .of_device rfl rfl rfl) fun _ => .refl s))
  case raiseTimerExpiry =>
    refine law.of_linkFrame (whileRunning_linkFrame (keeps_ite (P := LinkFrame s) (fun _ => ?_)
      fun _ => .refl s))
    have stopped : LinkFrame s { s with lift := { s.lift with raiseTimer := none } } :=
      .of_device rfl rfl rfl
    dsimp only
    split
    · exact stopped
    · exact keeps_ite (P := LinkFrame s) (fun _ => (stopped.trans
        (startLowering_liftDrove _ _).linkFrame).trans (report_linkFrame _ _ _)) fun _ => stopped
  case loweringTimerExpiry =>
    refine law.of_linkFrame (whileRunning_linkFrame (keeps_ite (P := LinkFrame s) (fun _ => ?_)
      fun _ => .refl s))
    have stopped : LinkFrame s { s with lift := { s.lift with loweringTimer := none } } :=
      .of_device rfl rfl rfl
    dsimp only
    split
    · exact stopped
    · exact keeps_ite (P := LinkFrame s) (fun _ => keeps_ite (P := LinkFrame s)
        (fun _ => .of_device rfl rfl rfl) fun _ => (stopped.trans (.setAxle _ _ _)).trans
          (report_linkFrame _ _ _)) fun _ => stopped
  case supplyTimerExpiry c =>
    exact law.of_linkFrame (whileRunning_linkFrame (keeps_ite (P := LinkFrame s)
      (fun _ => keeps_ite (P := LinkFrame s)
        (fun _ => (LinkFrame.setChannel _ _ _).trans (report_linkFrame _ _ _))
        fun _ => .setChannel _ _ _) fun _ => .refl s))
  case exerciseTimerExpiry c =>
    exact law.of_linkFrame (whileRunning_linkFrame (keeps_ite (P := LinkFrame s)
      (fun _ => keeps_ite (P := LinkFrame s) (fun _ => (finishExercise_drove c _ s).linkFrame)
        fun _ => .setChannel _ _ _) fun _ => .refl s))
  case holdTimerExpiry c | stepTimerExpiry c =>
    exact law.of_linkFrame (whileRunning_linkFrame (keeps_ite (P := LinkFrame s)
      (fun _ => .of_device rfl rfl rfl) fun _ => .refl s))
  case testTimerExpiry =>
    exact law.of_linkFrame (whileRunning_linkFrame (keeps_ite (P := LinkFrame s)
      (fun _ => (monitorClosed_linkFrame s).testTimerExpired (.refl s)) fun _ => .refl s))
  case testSpacingExpiry | interventionMinExpiry =>
    exact law.of_linkFrame (whileRunning_linkFrame (.of_device rfl rfl rfl))
  case rampStepExpiry =>
    exact law.of_linkFrame (whileRunning_linkFrame (keeps_ite (P := LinkFrame s)
      (fun _ => (monitorClosed_linkFrame s).rampStepExpired (.refl s)) fun _ => .refl s))
  case jamTimerExpiry | markTimerExpiry =>
    refine law.of_linkFrame (whileRunning_linkFrame (keeps_ite (P := LinkFrame s) (fun _ => ?_)
      fun _ => .refl s))
    refine .trans ?_ (report_linkFrame _ _ _)
    exact .of_device rfl rfl rfl
  case selectFall => exact beginTransaction_keeps_linkLaws law
  case emptyTransaction => exact transact_keeps_linkLaws law fun _ h => h
  case frameError header =>
    refine transact_keeps_linkLaws law fun u lawU => ?_
    have reported := lawU.of_linkFrame
      ((report_linkFrame .linkFrame true u).trans (report_linkFrame .linkFrame false _))
    exact reported
  case initTransaction =>
    rw [closeTransaction_openTransaction]
    exact passedLink_keeps_linkLaws law
  case unknownRequest | nop => exact request_keeps_linkLaws law fun _ h => h
  case lookup table index group =>
    exact request_keeps_linkLaws law fun u => lookupOwner_keeps_linkLaws table index group
  case lookupNext index group =>
    exact request_keeps_linkLaws law fun u => lookupNextOwner_keeps_linkLaws index group
  case amend table index field value =>
    exact request_keeps_linkLaws law fun u lawU =>
      amendOwner_keeps lawU fun r v _ _ => store_keeps_linkLaws r _ v lawU
  case enrol table index high low =>
    exact request_keeps_of_linkFrame law fun u => (enrolOwner_tyreOnly table index high low u).linkFrame
  case retire table index =>
    exact request_keeps_of_linkFrame law fun u => (retireOwner_tyreOnly table index u).linkFrame
  case learn table index =>
    exact request_keeps_of_linkFrame law fun u => (learnOwner_tyreOnly table index u).linkFrame
  case cancelLearn index =>
    exact request_keeps_of_linkFrame law fun u => (cancelLearnOwner_tyreOnly index u).linkFrame
  case liftCommand index mode =>
    refine request_keeps_of_linkFrame law fun u => ?_
    unfold liftCommandOwner
    split
    · exact .refl u
    · split
      · exact .setAxle _ _ _
      · exact .refl u
  case exercise table index argument =>
    exact request_keeps_of_linkFrame law fun u => (exerciseOwner_drove table index argument u).linkFrame
  case goActive index =>
    exact request_keeps_of_linkFrame law fun u => goActiveOwner_linkFrame index u
  case goStandby index =>
    exact request_keeps_of_linkFrame law fun u => goStandbyOwner_linkFrame index u
  case softReset index =>
    exact transact_keeps_linkLaws law fun u _ => linkLaws_of_reset (t := restart u) rfl rfl
  case ackFaults index =>
    exact request_keeps_linkLaws law fun u => ackFaultsOwner_keeps_linkLaws index
  case setAttention index enables =>
    refine request_keeps_linkLaws law fun u lawU => ?_
    unfold setAttentionOwner
    split <;> exact lawU

/-- Settles O58: command by command. -/
theorem faultAndLinkLawsKept : Obligations.FaultAndLinkLawsKept := fun _ _ a b stepped =>
  step_keeps (P := LinkLaws) (fun _ _ h => h) exec_keeps_linkLaws ⟨a, b⟩ stepped

end Sys2Proof.Machine
end

section
/-! Proofs about the law of the valves (section 6.5): the conditions of R91 and the interlock of R92. -/

namespace Sys2Proof.Machine

/-! ### The law by its two parts -/

/-- R91: every energised output may be. -/
def Gated (s : State) : Prop := ∀ o : Fin 13, s.outputs[o].energised = true → outputAllowed s o = true

/-- R92: no channel has its inlet and its exhaust energised together. -/
def Interlocked (s : State) : Prop :=
  ∀ c : Fin 4, s.outputs[inletOf c].energised = true → s.outputs[exhaustOf c].energised = false

theorem exists_output_of_channel {n : Nat} (below : n < 12) :
    (⟨n, by omega⟩ : Fin 13) = inletOf ⟨n % 4, by omega⟩ ∨ (⟨n, by omega⟩ : Fin 13) = exhaustOf ⟨n % 4, by omega⟩
      ∨ (⟨n, by omega⟩ : Fin 13) = backupOf ⟨n % 4, by omega⟩ := by
  simp only [inletOf, exhaustOf, backupOf, Fin.mk.injEq]
  omega

/-- R91: an output exists when the channel does whose inlet, exhaust or backup it is. -/
theorem outputExists_iff (s : State) (o : Fin 13) :
    outputExists s o = true ↔ ∀ c : Fin 4, o = inletOf c ∨ o = exhaustOf c ∨ o = backupOf c →
      s.channels[c].present = true := by
  unfold outputExists
  split
  · next below =>
    refine ⟨fun present c named => ?_, fun all => all ⟨o.val % 4, by omega⟩ (exists_output_of_channel below)⟩
    have same : o.val % 4 = c.val := by
      obtain rfl | rfl | rfl := named <;> simp only [inletOf, exhaustOf, backupOf] <;> omega
    simp only [same] at present
    exact present
  · next lift =>
    refine ⟨fun _ c named => absurd ?_ lift, fun _ => rfl⟩
    obtain rfl | rfl | rfl := named <;> simp only [inletOf, exhaustOf, backupOf] <;> omega

theorem outputAllowed_iff (s : State) (o : Fin 13) :
    outputAllowed s o = true ↔
      (s.device.state = .active ∨ s.device.state = .waitRelease) ∧ s.device.failsafe = false
        ∧ s.faults.supplyLow.present = false ∧ s.faults.valveShort[o].latched = false
        ∧ ∀ c : Fin 4, o = inletOf c ∨ o = exhaustOf c ∨ o = backupOf c →
            s.channels[c].present = true := by
  rw [← outputExists_iff, ← inControl_iff]
  simp only [outputAllowed, outputsEnabled, supplyLow, Bool.and_eq_true, Bool.not_eq_true']
  tauto

theorem valveLaw_iff (s : State) : ValveLaw s ↔ Gated s ∧ Interlocked s := by
  unfold ValveLaw Gated Interlocked
  simp only [outputAllowed_iff, not_and, Bool.not_eq_true]

/-! ### What carries the law from state to state -/

theorem Interlocked.of_off {s t : State} (law : Interlocked s)
    (outputs : ∀ o : Fin 13, t.outputs[o].energised = true → s.outputs[o].energised = true) :
    Interlocked t := fun c inlet => by
  have off := law c (outputs _ inlet)
  exact Bool.eq_false_iff.mpr fun on => by
    rw [outputs _ on] at off
    cases off

/-- What R91 reads besides the outputs stands or is more favourable. -/
structure GateKept (s t : State) : Prop where
  device : t.device.state = s.device.state
  failsafe : t.device.failsafe = s.device.failsafe
  supply : t.faults.supplyLow.present = s.faults.supplyLow.present
  shorts : ∀ o : Fin 13, t.faults.valveShort[o].latched = s.faults.valveShort[o].latched
  channels : ∀ c : Fin 4, t.channels[c].present = s.channels[c].present

theorem GateKept.allowed {s t : State} (h : GateKept s t) (o : Fin 13) :
    outputAllowed t o = outputAllowed s o := by
  rw [Bool.eq_iff_iff, outputAllowed_iff, outputAllowed_iff, h.device, h.failsafe, h.supply, h.shorts]
  simp only [h.channels]

theorem Gated.of_off {s t : State} (law : Gated s) (gates : GateKept s t)
    (outputs : ∀ o : Fin 13, t.outputs[o].energised = true → s.outputs[o].energised = true) :
    Gated t := fun o on => by
  rw [gates.allowed]
  exact law o (outputs o on)

theorem Channel.Driven.present_eq {x y : Channel} (h : x.Driven y) : y.present = x.present := by
  rw [h.static]

theorem DriverFrame.gateKept {s t : State} (h : DriverFrame s t) (device : t.device = s.device) :
    GateKept s t where
  device := by rw [device]
  failsafe := by rw [device]
  supply := congrArg FaultMark.present
    (h.others .supplyLow (fun _ => by simp) (fun _ => by simp))
  shorts o := h.latched (.valveShort o)
  channels c := (h.channels c).present_eq

/-! ### The outputs -/

/-- The law of the valves, as one predicate. -/
def Valves (s : State) : Prop := Gated s ∧ Interlocked s

theorem Valves.of_off {s t : State} (law : Valves s) (gates : GateKept s t)
    (outputs : ∀ o : Fin 13, t.outputs[o].energised = true → s.outputs[o].energised = true) :
    Valves t := ⟨law.1.of_off gates outputs, law.2.of_off outputs⟩

theorem deenergise_energised {o o' : Fin 13} {s : State}
    (on : (deenergise o s).outputs[o'].energised = true) : s.outputs[o'].energised = true := by
  by_cases same : o' = o
  · subst same
    rw [(deenergise_self o' s).1] at on
    cases on
  · rwa [deenergise_other same] at on

theorem deenergise_keeps_valves (o : Fin 13) {s : State} (law : Valves s) : Valves (deenergise o s) :=
  law.of_off ((deenergise_drove o s).toDriverFrame.gateKept (deenergise_drove o s).device)
    fun _ => deenergise_energised

theorem setOutput_energised {o o' : Fin 13} {x : Output} {s : State}
    (off : x.energised = true → s.outputs[o].energised = true)
    (on : (s.setOutput o x).outputs[o'].energised = true) : s.outputs[o'].energised = true := by
  by_cases same : o' = o
  · subst same
    rw [State.setOutput_get_self] at on
    exact off on
  · rwa [State.setOutput_get_ne _ _ _ _ same] at on

theorem noteRequest_keeps_valves (o : Fin 13) (on : Bool) {s : State} (law : Valves s) :
    Valves (noteRequest o on s) := by
  have noted : Valves (s.setOutput o { s.outputs[o] with requested := on }) :=
    law.of_off ⟨rfl, rfl, rfl, fun _ => rfl, fun _ => rfl⟩ fun _ => setOutput_energised id
  exact keeps_ite (P := Valves) (fun _ => noted) fun _ => deenergise_keeps_valves o noted

/-- R91, R92: an output comes on where it may and its opposite valve is off. -/
theorem energise_keeps_valves {o : Fin 13} {s : State} (law : Valves s)
    (free : ∀ c : Fin 4, (o = inletOf c → s.outputs[exhaustOf c].energised = false)
      ∧ (o = exhaustOf c → s.outputs[inletOf c].energised = false)) : Valves (energise o s) := by
  have gates := (energise_drove o s).toDriverFrame.gateKept (energise_drove o s).device
  refine ⟨fun o' on => ?_, fun c inlet => ?_⟩
  · rw [gates.allowed]
    by_cases same : o' = o
    · subst same
      rw [(energise_self o' s).1, Bool.or_eq_true] at on
      exact on.elim (law.1 o') id
    · rw [energise_other same] at on
      exact law.1 o' on
  · by_cases isInlet : o = inletOf c
    · rw [energise_other (isInlet ▸ exhaustOf_ne_inletOf c)]
      exact (free c).1 isInlet
    rw [energise_other (Ne.symm isInlet)] at inlet
    by_cases isExhaust : o = exhaustOf c
    · rw [(free c).2 isExhaust] at inlet
      cases inlet
    · rw [energise_other (Ne.symm isExhaust)]
      exact law.2 c inlet

theorem inletOf_inj {c d : Fin 4} (h : inletOf c = inletOf d) : c = d := by
  simpa [inletOf, Fin.ext_iff] using h

theorem exhaustOf_inj {c d : Fin 4} (h : exhaustOf c = exhaustOf d) : c = d := by
  simpa [exhaustOf, Fin.ext_iff] using h

theorem inletOf_ne_exhaustOf (c d : Fin 4) : inletOf c ≠ exhaustOf d := by
  simp only [inletOf, exhaustOf, ne_eq, Fin.mk.injEq]
  omega

theorem backupOf_ne_inletOf' (c d : Fin 4) : backupOf c ≠ inletOf d := by
  simp only [inletOf, backupOf, ne_eq, Fin.mk.injEq]
  omega

theorem backupOf_ne_exhaustOf' (c d : Fin 4) : backupOf c ≠ exhaustOf d := by
  simp only [exhaustOf, backupOf, ne_eq, Fin.mk.injEq]
  omega

theorem serveInlet_keeps_valves (c : Fin 4) {s : State} (law : Valves s) : Valves (serveInlet c s) := by
  refine keeps_ite (P := Valves) (fun free => ?_) fun _ => law
  simp only [Bool.and_eq_true, Bool.not_eq_true'] at free
  refine energise_keeps_valves law fun d => ⟨fun same => ?_, fun same => absurd same (inletOf_ne_exhaustOf c d)⟩
  rw [← inletOf_inj same]
  exact free.1.2

theorem serveExhaust_keeps_valves (c : Fin 4) {s : State} (law : Valves s) :
    Valves (serveExhaust c s) := by
  refine keeps_ite (P := Valves) (fun free => ?_) fun _ => law
  simp only [Bool.and_eq_true, Bool.not_eq_true'] at free
  refine energise_keeps_valves law fun d => ⟨fun same => absurd same.symm (inletOf_ne_exhaustOf d c), fun same => ?_⟩
  rw [← exhaustOf_inj same]
  exact free.1.2

theorem serveBackup_keeps_valves (c : Fin 4) {s : State} (law : Valves s) : Valves (serveBackup c s) :=
  keeps_ite (P := Valves) (fun _ => energise_keeps_valves law fun d =>
    ⟨fun same => absurd same (backupOf_ne_inletOf' c d),
      fun same => absurd same (backupOf_ne_exhaustOf' c d)⟩) fun _ => law

theorem Valves.setChannel {c : Fin 4} {x : Channel} {s : State} (law : Valves s)
    (present : x.present = s.channels[c].present) : Valves (s.setChannel c x) :=
  law.of_off ⟨rfl, rfl, rfl, fun _ => rfl, fun d => by
    by_cases same : d = c
    · subst same
      rw [State.setChannel_get_self, present]
    · rw [State.setChannel_get_ne _ _ _ _ same]⟩ fun _ => id

theorem requestAction_keeps_valves (c : Fin 4) (a : ValveAction) {s : State} (law : Valves s) :
    Valves (requestAction c a s) :=
  serveExhaust_keeps_valves c (serveInlet_keeps_valves c (serveBackup_keeps_valves c
    (noteRequest_keeps_valves _ _ (noteRequest_keeps_valves _ _ (noteRequest_keeps_valves _ _
      (law.setChannel rfl))))))

theorem requestLift_keeps_valves (on : Bool) {s : State} (law : Valves s) : Valves (requestLift on s) :=
  keeps_ite (P := Valves) (fun _ => energise_keeps_valves (noteRequest_keeps_valves _ _ law) fun c =>
    ⟨fun same => absurd same.symm (inletOf_ne_liftOutput c),
      fun same => absurd same.symm (exhaustOf_ne_liftOutput c)⟩)
    fun _ => noteRequest_keeps_valves _ _ law

/-! ### The Channel Controllers -/

/-- A report of a kind that R91 does not read. -/
theorem report_keeps_valves {f : FaultId} (c : Bool) {s : State} (supply : f ≠ .supplyLow)
    (short : ∀ o, f ≠ .valveShort o) (law : Valves s) : Valves (report f c s) := by
  have others := (report_spec f c s).2.2.2.1
  exact law.of_off ⟨rfl, rfl, congrArg FaultMark.present (others .supplyLow supply.symm),
    fun o => congrArg FaultMark.latched (others (.valveShort o) (short o).symm), fun _ => rfl⟩
    fun _ => id

theorem enterFallback_keeps_valves (c : Fin 4) {s : State} (law : Valves s) :
    Valves (enterFallback c s) :=
  requestAction_keeps_valves c _ (report_keeps_valves _ (by simp) (by simp) (law.setChannel rfl))

theorem finishExercise_keeps_valves (c : Fin 4) (how : ExerciseEnd) {s : State} (law : Valves s) :
    Valves (finishExercise c how s) :=
  requestAction_keeps_valves c _ (law.setChannel rfl)

theorem followReason_keeps_valves (c : Fin 4) {s : State} (law : Valves s) :
    Valves (followReason c s) := by
  unfold followReason
  split
  · split
    case h_1 | h_2 | h_3 => exact enterFallback_keeps_valves c law
    case h_4 => exact law.setChannel rfl
    case h_5 => exact law
  · exact law

theorem forEach_keeps_valves {n : Nat} {f : Fin n → State → State}
    (step : ∀ i s, Valves s → Valves (f i s)) {s : State} (law : Valves s) : Valves (forEach n f s) :=
  forEach_keeps Valves step s law

/-- R91: the pass over the outputs switches off what may not be on. -/
theorem dropDisallowed_gated (s : State) : Gated (dropDisallowed s) := fun o on => by
  have other : ∀ i t, i ≠ o →
      (if outputAllowed t i then t else deenergise i t).outputs[o] = t.outputs[o] := fun i t ne => by
    split
    · rfl
    · exact deenergise_other ne.symm t
  obtain ⟨u, reached, -, -, last⟩ := forEach_at Drove .refl .trans (fun i t => by
    split
    · exact .refl t
    · exact deenergise_drove i t) (fun t => t.outputs[o]) o other s
  change (dropDisallowed s).outputs[o] = _ at last
  have dropped := dropDisallowed_drove s
  rw [last] at on
  rw [(dropped.gateKept dropped.device).allowed, ← (reached.gateKept reached.device).allowed]
  split at on
  · assumption
  · rw [(deenergise_self o u).1] at on
    cases on

theorem dropDisallowed_interlocked {s : State} (law : Interlocked s) : Interlocked (dropDisallowed s) :=
  forEach_keeps Interlocked (fun _ _ lawT => keeps_ite (P := Interlocked) (fun _ => lawT)
    fun _ => lawT.of_off fun _ => deenergise_energised) s law

/-- R91: the drivers' following of a change re-establishes the law, whatever the change was. -/
theorem settle_valves {s : State} (law : Interlocked s) : Valves (settle s) :=
  forEach_keeps_valves (fun c _ => followReason_keeps_valves c)
    ⟨dropDisallowed_gated s, dropDisallowed_interlocked law⟩

/-! ### The lift axle and the device state -/

theorem Interlocked.requestLift_false {s : State} (law : Interlocked s) :
    Interlocked (requestLift false s) :=
  law.of_off fun o on => by
    by_cases same : o = liftOutput
    · subst same
      rw [(requestLift_self false s).2 rfl] at on
      cases on
    · rwa [requestLift_other same] at on

theorem startLowering_interlocked (a : Fin 4) {s : State} (law : Interlocked s) :
    Interlocked (startLowering a s) :=
  Interlocked.requestLift_false (s := { putAxle a { s.axles[a] with liftState := .lowering } s with
    lift := { s.lift with raiseTimer := none, loweringTimer := some loweringTime } }) law

theorem startLowering_keeps_valves (a : Fin 4) {s : State} (law : Valves s) :
    Valves (startLowering a s) :=
  requestLift_keeps_valves (s := { putAxle a { s.axles[a] with liftState := .lowering } s with
    lift := { s.lift with raiseTimer := none, loweringTimer := some loweringTime } }) false law

/-- What a lowering keeps, the forced lowering demand keeps. -/
theorem forceLowering_keeps {P : State → Prop} {s : State} (law : P s)
    (lower : ∀ a, P (startLowering a s)) : P (forceLowering s) := by
  unfold forceLowering
  split
  · exact law
  · split
    case h_1 | h_2 => exact lower _
    case h_3 | h_4 | h_5 => exact law

theorem setDeviceState_valves (d : DeviceState) {s : State} (law : Interlocked s) :
    Valves (setDeviceState d s) := by
  have moved : Interlocked { s with device := { s.device with state := d } } := law
  refine settle_valves ?_
  split
  · exact forceLowering_keeps moved fun a => startLowering_interlocked a moved
  · exact moved

/-! ### A scan completion -/

theorem forEach_keeps_outputs {n : Nat} {f : Fin n → State → State}
    (step : ∀ i s, (f i s).outputs = s.outputs) (s : State) : (forEach n f s).outputs = s.outputs :=
  forEach_rel (fun s t => t.outputs = s.outputs) (fun _ => rfl) (fun a b => b.trans a) step s

theorem Interlocked.of_outputs {s t : State} (law : Interlocked s) (h : t.outputs = s.outputs) :
    Interlocked t := law.of_off fun o => by rw [h]; exact id

theorem publishDelivered_outputs (c : Fin 4) (s : State) :
    (publishDelivered c s).outputs = s.outputs := by
  unfold publishDelivered
  split <;> rfl

theorem publishBellows_outputs (a : Fin 4) (s : State) : (publishBellows a s).outputs = s.outputs := by
  unfold publishBellows
  split <;> rfl

theorem publish_valves (r : ScanInputs) {s : State} (law : Interlocked s) : Valves (publish r s) := by
  unfold publish
  refine settle_valves (law.of_outputs ?_)
  rw [forEach_keeps_outputs publishBellows_outputs, forEach_keeps_outputs publishDelivered_outputs]
  rfl

theorem loadAxle_keeps_valves (before after : LoadUnit) (a : Fin 4) {s : State} (law : Valves s) :
    Valves (loadAxle before after a s) := by
  unfold loadAxle
  split <;> exact law

theorem handOver_keeps_valves (c : Fin 4) {s : State} (law : Valves s) : Valves (handOver c s) := by
  unfold handOver
  split
  · exact law.setChannel rfl
  · exact law

theorem loadUnitScan_keeps_valves {s : State} (law : Valves s) : Valves (loadUnitScan s) := by
  have weighed (before after : LoadUnit) :
      Valves (forEach 4 (loadAxle before after) { s with loadUnit := after }) :=
    forEach_keeps_valves (fun a _ => loadAxle_keeps_valves before after a) law
  have total (t : State) (n : Nat) (lawT : Valves t) :
      Valves { t with device := { t.device with fTot := n } } := lawT
  unfold loadUnitScan
  exact forEach_keeps_valves (fun c _ => handOver_keeps_valves c) (total _ _ (weighed _ _))

theorem liftMove_keeps_valves (was : LiftState) (a : Fin 4) {s : State} (law : Valves s) :
    Valves (liftMove was a s) := by
  have lowers := startLowering_keeps_valves a law
  unfold liftMove
  split
  case h_1 =>
    refine keeps_ite (P := Valves) (fun _ => requestLift_keeps_valves true ?_) fun _ => law
    exact law
  case h_2 =>
    exact keeps_ite (P := Valves) (fun _ => lowers) fun _ =>
      keeps_ite (P := Valves) (fun _ => law) fun _ => law
  case h_3 =>
    refine keeps_ite (P := Valves) (fun _ => ?_) fun _ => law
    exact keeps_ite (P := Valves) (fun _ => lowers) fun _ => lowers
  case h_4 | h_5 => exact law

theorem liftScan_keeps_valves {s : State} (law : Valves s) : Valves (liftScan s) := by
  have reported : Valves (report .lift false s) := report_keeps_valves _ (by simp) (by simp) law
  cases h : liftAxle s with
  | none =>
    rw [liftScan_of_none h]
    exact reported
  | some a =>
    rw [liftScan_of_some h]
    refine liftMove_keeps_valves _ a ?_
    unfold liftCounted
    split <;> exact reported

theorem pressureTargetScan_keeps_valves {s : State} (law : Valves s) : Valves (pressureTargetScan s) :=
  forEach_keeps_valves (fun c t lawT => by
    split
    · rw [arbitrate_setChannel]
      exact lawT.setChannel rfl
    · exact lawT) law

theorem runLoop_keeps_valves (c : Fin 4) {s : State} (law : Valves s) : Valves (runLoop c s) := by
  unfold runLoop
  split
  case h_1 =>
    exact keeps_ite (P := Valves) (fun _ => requestAction_keeps_valves c _ law)
      fun _ => requestAction_keeps_valves c _ (law.setChannel rfl)
  case h_2 | h_3 | h_4 => exact requestAction_keeps_valves c _ law

theorem runWaitingLoop_keeps_valves (c : Fin 4) {s : State} (law : Valves s) :
    Valves (runWaitingLoop c s) := by
  unfold runWaitingLoop
  split <;> exact requestAction_keeps_valves c _ law

theorem channelScan_keeps_valves (c : Fin 4) {s : State} (law : Valves s) :
    Valves (channelScan c s) := by
  unfold channelScan
  split
  case isFalse => exact law
  split
  case h_1 => exact law
  case h_2 => exact runLoop_keeps_valves c law
  case h_3 =>
    exact keeps_ite (P := Valves) (fun _ => runLoop_keeps_valves c
      (report_keeps_valves _ (by simp) (by simp) (law.setChannel rfl)))
      fun _ => runWaitingLoop_keeps_valves c law
  case h_4 =>
    exact keeps_ite (P := Valves) (fun _ => finishExercise_keeps_valves c _ law) fun _ =>
      keeps_ite (P := Valves) (fun _ => finishExercise_keeps_valves c _ law) fun _ => law
  case h_5 =>
    exact keeps_ite (P := Valves) (fun _ => runLoop_keeps_valves c (law.setChannel rfl)) fun _ => law

theorem Output.sampled_energised (x : Output) (low : Bool) : (x.sampled low).energised = x.energised := by
  unfold Output.sampled
  split <;> rfl

theorem valveDriverScan_valves (low : BitVec 13) {s : State} (law : Interlocked s) :
    Valves (valveDriverScan low s) := by
  have sampled : Interlocked { s with
      outputs := Vector.ofFn fun o => s.outputs[o].sampled (low.getLsbD o.val) } :=
    law.of_off fun o on => by
      rw [← Output.sampled_energised s.outputs[o] (low.getLsbD o.val)]
      simpa using on
  unfold valveDriverScan
  refine settle_valves (sampled.of_outputs ?_)
  rw [forEach_keeps_outputs fun o t => ?opens, forEach_keeps_outputs fun o t => report_outputs _ _ t]
  case opens => split <;> rfl

theorem antiLockScan_keeps_valves (before : Bool) {s : State} (law : Valves s) :
    Valves (antiLockScan before s) :=
  forEach_keeps_valves (fun c t lawT => by
    split
    case isFalse => exact lawT
    split
    · exact lawT.setChannel rfl
    split
    · rw [arbitrate_setChannel]
      exact lawT.setChannel rfl
    · exact lawT) law

theorem takeScan_keeps_valves (r : ScanInputs) (before : Bool) (agent : ScanAgent) (s : State)
    (law : Valves s) : Valves (takeScan r before agent s) := by
  cases agent with
  | loadUnit => exact loadUnitScan_keeps_valves law
  | liftController => exact liftScan_keeps_valves law
  | pressureTarget => exact pressureTargetScan_keeps_valves law
  | channel c => exact channelScan_keeps_valves c law
  | valveDriver => exact valveDriverScan_valves _ law.2
  | antiLock => exact antiLockScan_keeps_valves before law
  | operatingState =>
    exact keeps_ite (P := Valves) (fun _ => setDeviceState_valves .standby law.2) fun _ => law

theorem scanCompletion_valves (r : ScanInputs) (order : List ScanAgent) {s : State} (law : Valves s) :
    Valves (scanCompletion r order s) :=
  foldl_takeScan_keeps (takeScan_keeps_valves r _) _ (publish_valves r law.2)

/-! ### A sample set -/

theorem monitorClosed_valves : MonitorClosed Valves where
  record _ law := law
  event law := law
  lowering law := forceLowering_keeps law fun a => startLowering_keeps_valves a law
  request _ c law := keeps_ite (P := Valves) (fun _ => by
    rw [arbitrate_setChannel]
    exact law.setChannel rfl) fun _ => law

theorem antiLockSample_keeps_valves {s : State} (law : Valves s) : Valves (antiLockSample s) := by
  have judged : Valves (judgeWheels s) := law
  refine forEach_keeps_valves (fun c t lawT => ?_) judged
  refine keeps_ite (P := Valves) (fun _ => ?_) fun _ => lawT
  rw [arbitrate_setChannel]
  exact lawT.setChannel (antiLockStep_sameRequest _ _ _ _).1

theorem windowEnd_keeps_valves (now : Stamp) (lines : BitVec 8) {s : State} (law : Valves s) :
    Valves (windowEnd now lines s) := by
  unfold windowEnd
  refine forEach_keeps_valves (fun w t lawT => ?_) ?_
  · exact keeps_ite (P := Valves) (fun _ => report_keeps_valves _ (by simp) (by simp) lawT)
      fun _ => lawT
  · exact law

theorem sampleSet_keeps_valves (now : Stamp) (lines : BitVec 8) (first : Bool) {s : State}
    (law : Valves s) : Valves (sampleSet now lines first s) := by
  have closed := windowEnd_keeps_valves now lines law
  cases first with
  | true =>
    rw [sampleSet_antiLock_first]
    exact monitorClosed_valves.rolloverSample (antiLockSample_keeps_valves closed)
  | false =>
    rw [sampleSet_antiLock_last]
    exact antiLockSample_keeps_valves (monitorClosed_valves.rolloverSample closed)

/-! ### The requests -/

theorem goActiveOwner_keeps_valves (index : BitVec 5) {s : State} (law : Valves s) :
    Valves (goActiveOwner index s).2 := by
  have entered := setDeviceState_valves .active law.2
  unfold goActiveOwner
  split
  case h_1 | h_4 => exact law
  case h_2 =>
    dsimp only
    exact entered
  case h_3 =>
    split
    · exact law
    · dsimp only
      exact entered

theorem endExercises_keeps_valves {s : State} (law : Valves s) : Valves (endExercises s) :=
  forEach_keeps_valves (fun c _ lawT => keeps_ite (P := Valves)
    (fun _ => finishExercise_keeps_valves c _ lawT) fun _ => lawT) law

theorem goStandbyOwner_keeps_valves (index : BitVec 5) {s : State} (law : Valves s) :
    Valves (goStandbyOwner index s).2 :=
  keeps_ite (P := Valves) (fun _ => setDeviceState_valves _ (endExercises_keeps_valves law).2)
    fun _ => law

theorem exerciseOwner_keeps_valves (table : BitVec 3) (index : BitVec 5) (argument : Word) {s : State}
    (law : Valves s) : Valves (exerciseOwner table index argument s).2 := by
  have exercised (c : Fin 4) : Valves (exerciseChannel c index argument s).2 := by
    unfold exerciseChannel
    split
    · exact law
    split
    · exact law
    split
    · exact requestAction_keeps_valves c _ (law.setChannel rfl)
    · exact law
  unfold exerciseOwner
  split
  · split
    · split
      · exact exercised _
      · exact law
    · exact law
  · exact law

theorem store_keeps_valves (r : RecordId) (n v : Nat) {s : State} (law : Valves s) :
    Valves (store r n v s) := by
  cases r with
  | device =>
    unfold store
    dsimp only
    split
    case h_1 =>
      unfold storeMask
      refine settle_valves ?_
      exact law.2
    case h_4 =>
      refine settle_valves ?_
      exact law.2
    all_goals exact law
  | axle a =>
    unfold store
    dsimp only
    split
    case h_1 =>
      exact keeps_ite (P := Valves) (fun _ => law) fun _ =>
        List.foldlRecOn (motive := Valves) _ _ law fun _ h _ _ => h
    case h_2 =>
      have requested (x : Axle) (l : LiftController) :
          Valves (requestLift false { putAxle a x s with lift := l }) :=
        requestLift_keeps_valves (s := { putAxle a x s with lift := l }) false law
      exact keeps_ite (P := Valves) (fun _ => law) fun _ =>
        keeps_ite (P := Valves) (fun _ => requested _ _) fun _ => requested _ _
    all_goals exact law
  | channel c =>
    unfold store
    dsimp only
    split
    case h_3 =>
      rw [arbitrate_setChannel]
      exact law.setChannel rfl
    case h_6 => exact law
    all_goals exact law.setChannel rfl
  | candidate k => exact law
  | wheel | tyre | rollover =>
    unfold store
    dsimp only
    split <;> exact law

theorem ackFaultsOwner_valves (index : BitVec 5) {s : State} (law : Interlocked s) :
    Valves (ackFaultsOwner index s).2 := by
  unfold ackFaultsOwner
  dsimp only
  refine settle_valves ?_
  exact law

/-! ### The resets -/

/-- R180: nothing is energised. -/
theorem Valves.of_quiet {t : State} (quiet : ∀ o : Fin 13, t.outputs[o].energised = false) :
    Valves t :=
  ⟨fun o on => absurd on (Bool.eq_false_iff.mp (quiet o)), fun _ _ => quiet _⟩

theorem beginFullReset_valves (s : State) : Valves (beginFullReset s) :=
  .of_quiet fun o => by simp [beginFullReset, freshOutput]

theorem restart_valves (s : State) : Valves (restart s) :=
  .of_quiet fun o => by simp [restart, startInit, freshOutput]

theorem endFullReset_valves (straps : BitVec 2) {s : State}
    (quiet : ∀ o : Fin 13, s.outputs[o].energised = false) : Valves (endFullReset straps s) := by
  refine .of_quiet fun o => ?_
  unfold endFullReset
  split <;> exact quiet o

/-! ### Every command -/

theorem Valves.of_tyreOnly {s t : State} (law : Valves s) (h : TyreOnly s t) : Valves t :=
  law.of_off ⟨by rw [h], by rw [h], by rw [h], fun o => by rw [h], fun c => by rw [h]⟩
    fun o => by rw [h]; exact id

theorem Valves.of_lookupOnly {s t : State} (law : Valves s) (h : LookupOnly s t) : Valves t :=
  law.of_off ⟨by rw [h.1], by rw [h.1], by rw [h.1], fun o => by rw [h.1], fun c => by rw [h.1]⟩
    fun o => by rw [h.1]; exact id

theorem request_keeps_valves {kind : BitVec 6} {owner : State → Reply × State} {s : State}
    (law : Valves s) (op : ∀ u, Valves u → Valves (owner u).2) : Valves (request kind owner s) :=
  request_keeps (P := Valves) (fun _ _ h => h) law fun u _ _ => op u

/-- R180: the law holds of a held part whatever its pins are. -/
theorem ResetLaw.quiet_of_held {s t : State} (reset : ResetLaw s) (outputs : t.outputs = s.outputs)
    (heldS : held s = true) : Valves t :=
  .of_quiet fun o => by
    rw [outputs]
    exact ((reset.2 heldS).2.2.2 o).2

theorem whileRunning_valves {f : State → State} {s : State} (quiet : held s = true → Valves s)
    (op : Valves (f s)) : Valves (whileRunning f s) := by
  unfold whileRunning
  split
  · next heldS => exact quiet heldS
  · exact op

theorem exec_keeps_valves (i : Instr) (s t : State) (reset : ResetLaw s) (law : Valves s)
    (h : exec i s = .next t) : Valves t := by
  cases i
  case lineToSpacing | lineToMarking | startBitTaken | characterComplete | gapTimerExpiry |
      agingExpiry | learnTimerExpiry => exact law.of_tyreOnly (exec_tyreOnly h rfl)
  all_goals obtain rfl := Host.Outcome.next.inj h
  case powerOn straps =>
    exact endFullReset_valves straps fun o => by simp [beginFullReset, freshOutput]
  case logicSupplyLow | resetLineAssert =>
    exact keeps_ite (fun _ => law) fun _ => beginFullReset_valves _
  case logicSupplyRestored straps =>
    exact keeps_ite (fun low => endFullReset_valves straps
      (s := { s with device := { s.device with supplyFail := false } })
      fun o => ((reset.2 (held_of_cause (.inl low))).2.2.2 o).2) fun _ => law
  case resetLineRelease straps =>
    exact keeps_ite (fun low => endFullReset_valves straps
      (s := { s with device := { s.device with resetLow := false } })
      fun o => ((reset.2 (held_of_cause (.inr low))).2.2.2 o).2) fun _ => law
  case initTimerExpiry =>
    refine whileRunning_keeps law fun _ => keeps_ite (fun _ => ?_) fun _ => law
    have entered := setDeviceState_valves .standby
      (s := { s with device := { s.device with initTimer := none } }) law.2
    exact forEach_keeps_valves (fun c _ lawT => keeps_ite (P := Valves)
      (fun _ => enterFallback_keeps_valves c lawT) fun _ => lawT) entered
  case failsafeAssert =>
    have asserted : Interlocked { s with device := { s.device with failsafe := true } } := law.2
    exact whileRunning_valves (reset.quiet_of_held (t := { s with device := _ }) rfl) (settle_valves
      (forceLowering_keeps asserted fun a => startLowering_interlocked a asserted))
  case failsafeRelease =>
    have released : Interlocked { s with device := { s.device with failsafe := false } } := law.2
    exact whileRunning_valves (reset.quiet_of_held (t := { s with device := _ }) rfl)
      (settle_valves released)
  case scanCompletion r order =>
    exact whileRunning_keeps law fun _ => keeps_ite (fun _ => scanCompletion_valves r order law)
      fun _ => law
  case sampleSet now lines first =>
    exact whileRunning_keeps law fun _ =>
      keeps_ite (fun _ => sampleSet_keeps_valves now lines first law) fun _ => law
  case wheelEdge w now =>
    exact whileRunning_keeps law fun _ => keeps_ite (fun _ => law) fun _ => law
  case shortCircuitTrip o =>
    refine whileRunning_keeps law fun _ => keeps_ite (fun _ => settle_valves ?_) fun _ => law
    exact (deenergise_keeps_valves o law).2
  case changeoverGapExpiry c =>
    exact keeps_ite (fun _ => serveExhaust_keeps_valves c (serveInlet_keeps_valves c
      (law.setChannel rfl))) fun _ => law
  case blankingTimerExpiry o =>
    exact whileRunning_keeps law fun _ => keeps_ite (fun _ =>
      law.of_off ⟨rfl, rfl, rfl, fun _ => rfl, fun _ => rfl⟩ fun _ => setOutput_energised id)
      fun _ => law
  case raiseTimerExpiry =>
    refine whileRunning_keeps law fun _ => keeps_ite (fun _ => ?_) fun _ => law
    have stopped : Valves { s with lift := { s.lift with raiseTimer := none } } := law
    dsimp only
    split
    · exact law
    · exact keeps_ite (P := Valves) (fun _ => report_keeps_valves _ (by simp) (by simp)
        (startLowering_keeps_valves _ stopped)) fun _ => law
  case loweringTimerExpiry =>
    refine whileRunning_keeps law fun _ => keeps_ite (fun _ => ?_) fun _ => law
    dsimp only
    split
    · exact law
    · next a _ =>
      have down : Valves (putAxle a { s.axles[a] with liftState := .down }
        { s with lift := { s.lift with loweringTimer := none } }) := law
      exact keeps_ite (P := Valves) (fun _ => keeps_ite (P := Valves) (fun _ => law)
        fun _ => report_keeps_valves _ (by simp) (by simp) down) fun _ => law
  case supplyTimerExpiry c =>
    exact whileRunning_keeps law fun _ => keeps_ite (fun _ => keeps_ite
      (fun _ => report_keeps_valves _ (by simp) (by simp) (law.setChannel rfl))
      fun _ => law.setChannel rfl) fun _ => law
  case exerciseTimerExpiry c =>
    exact whileRunning_keeps law fun _ => keeps_ite (fun _ => keeps_ite
      (fun _ => finishExercise_keeps_valves c _ law) fun _ => law.setChannel rfl) fun _ => law
  case holdTimerExpiry c =>
    refine whileRunning_keeps law fun _ => keeps_ite (fun _ => ?_) fun _ => law
    rw [arbitrate_setChannel]
    exact law.setChannel (holdTimerExpired_sameRequest _).1
  case stepTimerExpiry c =>
    refine whileRunning_keeps law fun _ => keeps_ite (fun _ => ?_) fun _ => law
    rw [arbitrate_setChannel]
    exact law.setChannel (stepTimerExpired_sameRequest _).1
  case testTimerExpiry =>
    exact whileRunning_keeps law fun _ =>
      keeps_ite (fun _ => monitorClosed_valves.testTimerExpired law) fun _ => law
  case testSpacingExpiry | interventionMinExpiry => exact whileRunning_keeps law fun _ => law
  case rampStepExpiry =>
    exact whileRunning_keeps law fun _ =>
      keeps_ite (fun _ => monitorClosed_valves.rampStepExpired law) fun _ => law
  case jamTimerExpiry | markTimerExpiry =>
    refine whileRunning_keeps law fun _ => keeps_ite (fun _ => ?_) fun _ => law
    refine report_keeps_valves _ (by simp) (by simp) ?_
    exact law
  case selectFall => exact law
  case emptyTransaction => exact transact_keeps (fun _ _ h => h) law fun _ _ _ h => h
  case frameError =>
    refine transact_keeps (P := Valves) (fun _ _ h => h) law fun u _ _ lawU => ?_
    have reported := report_keeps_valves (f := .linkFrame) false (by simp) (by simp)
      (report_keeps_valves (f := .linkFrame) true (by simp) (by simp) lawU)
    exact reported
  case initTransaction =>
    rw [closeTransaction_openTransaction]
    exact law
  case unknownRequest | nop => exact request_keeps_valves law fun _ h => h
  case lookup table index group =>
    exact request_keeps_valves law fun u lawU =>
      lawU.of_lookupOnly (lookupOwner_lookupOnly table index group u)
  case lookupNext index group =>
    exact request_keeps_valves law fun u lawU =>
      lawU.of_lookupOnly (lookupNextOwner_lookupOnly index group u)
  case amend table index field value =>
    exact request_keeps_valves law fun u lawU =>
      amendOwner_keeps lawU fun r v _ _ => store_keeps_valves r _ v lawU
  case enrol table index high low =>
    exact request_keeps_valves law fun u lawU =>
      lawU.of_tyreOnly (enrolOwner_tyreOnly table index high low u)
  case retire table index =>
    exact request_keeps_valves law fun u lawU =>
      lawU.of_tyreOnly (retireOwner_tyreOnly table index u)
  case learn table index =>
    exact request_keeps_valves law fun u lawU =>
      lawU.of_tyreOnly (learnOwner_tyreOnly table index u)
  case cancelLearn index =>
    exact request_keeps_valves law fun u lawU =>
      lawU.of_tyreOnly (cancelLearnOwner_tyreOnly index u)
  case liftCommand index mode =>
    refine request_keeps_valves law fun u lawU => ?_
    unfold liftCommandOwner
    split
    · exact lawU
    · split <;> exact lawU
  case exercise table index argument =>
    exact request_keeps_valves law fun u => exerciseOwner_keeps_valves table index argument
  case goActive index => exact request_keeps_valves law fun u => goActiveOwner_keeps_valves index
  case goStandby index => exact request_keeps_valves law fun u => goStandbyOwner_keeps_valves index
  case softReset index => exact transact_keeps (fun _ _ h => h) law fun u _ _ _ => restart_valves u
  case ackFaults index =>
    exact request_keeps_valves law fun u lawU => ackFaultsOwner_valves index lawU.2
  case setAttention index enables =>
    refine request_keeps_valves law fun u lawU => ?_
    unfold setAttentionOwner
    split <;> exact lawU

/-- Settles O53: command by command. -/
theorem resetAndValveLawsKept : Obligations.ResetAndValveLawsKept := fun _ _ a b stepped => by
  obtain ⟨reset, valves⟩ := step_keeps (P := fun u => ResetLaw u ∧ Valves u) (fun _ _ h => h)
    (fun i s t law h => ⟨exec_keeps_resetLaw i s t law.1 h, exec_keeps_valves i s t law.1 law.2 h⟩)
    ⟨a, (valveLaw_iff _).mp b⟩ stepped
  exact ⟨reset, (valveLaw_iff _).mpr valves⟩

end Sys2Proof.Machine
end

section
/-! Proofs about the law of the lift axle (section 4.6). -/

namespace Sys2Proof.Machine

/-! ### The law by its two parts -/

/-- The existing axles that are liftable say so by their states, there is one at most, and the solenoid is
requested exactly while it is RAISING or UP. -/
def LiftShape (s : State) : Prop :=
  (∀ a : Fin 4, s.axles[a].present = true →
      (s.axles[a].liftState = .notLiftable ↔ s.axles[a].liftable = false))
    ∧ (∀ a b : Fin 4, s.axles[a].present = true → s.axles[b].present = true →
        s.axles[a].liftable = true → s.axles[b].liftable = true → a = b)
    ∧ (s.outputs[liftOutput].requested = true ↔
        ∃ a : Fin 4, s.axles[a].present = true ∧
          (s.axles[a].liftState = .raising ∨ s.axles[a].liftState = .up))

/-- An existing axle is RAISING. -/
def Raising (s : State) : Prop := ∃ a : Fin 4, s.axles[a].present = true ∧ s.axles[a].liftState = .raising

/-- R62: what a raise stands under, braking apart. -/
def MayRise (s : State) : Prop := s.device.state = .active ∧ s.rollover.state.alarmed = false

/-- R58, R62: the law of the lift axle, by its parts. -/
def LiftSafe (s : State) : Prop :=
  LiftShape s ∧ (Raising s → MayRise s ∧ s.device.braking = false)

theorem liftLaw_iff (s : State) : LiftLaw s ↔ LiftSafe s := by
  have calm : s.rollover.state.alarmed = false ↔ s.rollover.state ≠ .alert ∧ s.rollover.state ≠ .test
      ∧ s.rollover.state ≠ .intervene ∧ s.rollover.state ≠ .recover := by
    cases s.rollover.state <;> decide
  unfold LiftLaw LiftSafe LiftShape Raising MayRise
  rw [calm]
  constructor
  · rintro ⟨states, one, raising, request⟩
    refine ⟨⟨states, one, request⟩, fun ⟨a, present, rises⟩ => ?_⟩
    obtain ⟨active, braking, monitor⟩ := raising a present rises
    exact ⟨⟨active, monitor⟩, braking⟩
  · rintro ⟨⟨states, one, request⟩, raising⟩
    refine ⟨states, one, fun a present rises => ?_, request⟩
    obtain ⟨⟨active, monitor⟩, braking⟩ := raising ⟨a, present, rises⟩
    exact ⟨active, braking, monitor⟩

/-- What the law reads of the axles and of the lift output stands. -/
structure SameLift (s t : State) : Prop where
  present : ∀ a : Fin 4, t.axles[a].present = s.axles[a].present
  liftable : ∀ a : Fin 4, t.axles[a].liftable = s.axles[a].liftable
  state : ∀ a : Fin 4, t.axles[a].liftState = s.axles[a].liftState
  request : t.outputs[liftOutput].requested = s.outputs[liftOutput].requested

theorem SameLift.of_eq {s t : State} (axles : t.axles = s.axles)
    (request : t.outputs[liftOutput].requested = s.outputs[liftOutput].requested) : SameLift s t :=
  ⟨fun _ => by rw [axles], fun _ => by rw [axles], fun _ => by rw [axles], request⟩

theorem SameLift.refl (s : State) : SameLift s s := .of_eq rfl rfl

theorem SameLift.trans {s t u : State} (x : SameLift s t) (y : SameLift t u) : SameLift s u :=
  ⟨fun a => (y.present a).trans (x.present a), fun a => (y.liftable a).trans (x.liftable a),
    fun a => (y.state a).trans (x.state a), y.request.trans x.request⟩

theorem Drove.sameLift {s t : State} (h : Drove s t) : SameLift s t := .of_eq h.axles h.liftRequest

theorem LiftShape.of_sameLift {s t : State} (law : LiftShape s) (h : SameLift s t) : LiftShape t := by
  obtain ⟨states, one, request⟩ := law
  refine ⟨fun a => ?_, fun a b => ?_, ?_⟩
  · rw [h.present, h.state, h.liftable]
    exact states a
  · rw [h.present, h.present, h.liftable, h.liftable]
    exact one a b
  · rw [h.request, request]
    simp only [h.present, h.state]

theorem SameLift.raising_iff {s t : State} (h : SameLift s t) : Raising t ↔ Raising s := by
  unfold Raising
  simp only [h.present, h.state]

/-- The law is kept where the axles stand and no raise loses what it stands under. -/
theorem LiftSafe.of_sameLift {s t : State} (law : LiftSafe s) (h : SameLift s t)
    (state : s.device.state = .active → t.device.state = .active)
    (braking : s.device.braking = false → t.device.braking = false)
    (calm : s.rollover.state.alarmed = false → t.rollover.state.alarmed = false) : LiftSafe t := by
  refine ⟨law.1.of_sameLift h, fun rises => ?_⟩
  obtain ⟨⟨active, quiet⟩, released⟩ := law.2 (h.raising_iff.mp rises)
  exact ⟨⟨state active, calm quiet⟩, braking released⟩

theorem LiftSafe.of_drove {s t : State} (law : LiftSafe s) (h : Drove s t) : LiftSafe t :=
  law.of_sameLift h.sameLift (by rw [h.device]; exact id) (by rw [h.device]; exact id)
    (by rw [h.rollover]; exact id)

/-- An axle that is not raised is the law's concern no longer. -/
theorem LiftSafe.of_still {s : State} (law : LiftShape s) (still : ¬Raising s) : LiftSafe s :=
  ⟨law, fun rises => absurd rises still⟩

theorem LiftSafe.still_of_alarmed {s : State} (law : LiftSafe s)
    (alarmed : s.rollover.state.alarmed = true) : ¬Raising s := fun rises => by
  rw [(law.2 rises).1.2] at alarmed
  cases alarmed

/-! ### One axle moves -/

theorem liftAxle_eq_some {s : State} {a : Fin 4} (h : liftAxle s = some a) :
    s.axles[a].present = true ∧ s.axles[a].liftable = true :=
  Bool.and_eq_true_iff.mp (List.find?_some 
    (p := fun a : Fin 4 => s.axles[a].present && s.axles[a].liftable) h)

theorem liftAxle_eq_none {s : State} (h : liftAxle s = none) (a : Fin 4)
    (present : s.axles[a].present = true) : s.axles[a].liftable = false := by
  have notLift : ¬(s.axles[a].present && s.axles[a].liftable) = true :=
    List.find?_eq_none.mp h a (List.mem_finRange a)
  rwa [present, Bool.true_and, Bool.not_eq_true] at notLift

/-- Beside the liftable axle, every existing axle is NOT_LIFTABLE. -/
theorem LiftShape.notLiftable {s : State} (law : LiftShape s) {a b : Fin 4} (other : b ≠ a)
    (exists' : s.axles[a].present = true) (liftable : s.axles[a].liftable = true)
    (present : s.axles[b].present = true) : s.axles[b].liftState = .notLiftable := by
  obtain ⟨states, one, -⟩ := law
  refine (states b present).mpr (Bool.eq_false_iff.mpr fun also => ?_)
  exact other (one b a present exists' also liftable)

/-- The liftable axle moves to a state that its solenoid's request matches. -/
theorem LiftShape.move {s t : State} (law : LiftShape s) {a : Fin 4}
    (exists' : s.axles[a].present = true) (liftable : s.axles[a].liftable = true)
    (others : ∀ b, b ≠ a → t.axles[b] = s.axles[b]) (present : t.axles[a].present = true)
    (still : t.axles[a].liftable = true) (state : t.axles[a].liftState ≠ .notLiftable)
    (request : t.outputs[liftOutput].requested = true ↔
      t.axles[a].liftState = .raising ∨ t.axles[a].liftState = .up) : LiftShape t := by
  refine ⟨fun b presentB => ?_, fun b c presentB presentC liftB liftC => ?_, ?_⟩
  · by_cases same : b = a
    · subst same
      simp only [still, state, Bool.true_eq_false]
    · rw [others b same] at presentB ⊢
      exact law.1 b presentB
  · have isA : ∀ b, t.axles[b].present = true → t.axles[b].liftable = true → b = a := fun b p l => by
      by_contra other
      rw [others b other] at p l
      exact other (law.2.1 b a p exists' l liftable)
    rw [isA b presentB liftB, isA c presentC liftC]
  · rw [request]
    refine ⟨fun up => ⟨a, present, up⟩, fun ⟨b, presentB, up⟩ => ?_⟩
    by_cases same : b = a
    · exact same ▸ up
    · rw [others b same] at presentB up
      rw [law.notLiftable same exists' liftable presentB] at up
      simp at up

/-- No existing axle but the liftable one is ever RAISING. -/
theorem LiftShape.still_of {t : State} (law : LiftShape t) {a : Fin 4} (present : t.axles[a].present = true)
    (liftable : t.axles[a].liftable = true) (state : t.axles[a].liftState ≠ .raising) : ¬Raising t := by
  rintro ⟨b, presentB, rises⟩
  by_cases same : b = a
  · exact state (same ▸ rises)
  · rw [law.notLiftable same present liftable presentB] at rises
    cases rises

theorem startLowering_axle_ne {a b : Fin 4} (h : b ≠ a) (s : State) :
    (startLowering a s).axles[b] = s.axles[b] := by
  unfold startLowering
  rw [(requestLift_valveOnly _ _).axles]
  exact putAxle_get_ne h _ s

/-- R62 to R64: an axle that is sent to LOWERING is not RAISING, and its solenoid is asked for no longer. -/
theorem startLowering_shape {a : Fin 4} {s : State} (law : LiftShape s)
    (present : s.axles[a].present = true) (liftable : s.axles[a].liftable = true) :
    LiftShape (startLowering a s) ∧ ¬Raising (startLowering a s) := by
  obtain ⟨state, -, -, request, -⟩ := startLowering_self a s
  have static := ((startLowering_liftDrove a s).axles a).static
  have presentT : (startLowering a s).axles[a].present = true := by rw [static]; exact present
  have liftableT : (startLowering a s).axles[a].liftable = true := by rw [static]; exact liftable
  have shape := law.move present liftable (fun b h => startLowering_axle_ne h s) presentT liftableT
    (by rw [state]; decide) (by rw [request, state]; decide)
  exact ⟨shape, shape.still_of presentT liftableT (by rw [state]; decide)⟩

theorem LiftShape.still_of_none {s : State} (law : LiftShape s) (h : liftAxle s = none) : ¬Raising s := by
  rintro ⟨a, present, rises⟩
  rw [(law.1 a present).mpr (liftAxle_eq_none h a present)] at rises
  cases rises

/-- R64: after a forced lowering demand no axle is RAISING. -/
theorem forceLowering_shape {s : State} (law : LiftShape s) :
    LiftShape (forceLowering s) ∧ ¬Raising (forceLowering s) := by
  unfold forceLowering
  split
  · next none => exact ⟨law, law.still_of_none none⟩
  · next a found =>
    obtain ⟨present, liftable⟩ := liftAxle_eq_some found
    split
    case h_1 | h_2 => exact startLowering_shape law present liftable
    case h_3 state | h_4 state | h_5 state =>
      exact ⟨law, law.still_of present liftable (by rw [state]; decide)⟩

theorem forceLowering_keeps_liftSafe {s : State} (law : LiftSafe s) : LiftSafe (forceLowering s) :=
  have lowered := forceLowering_shape law.1
  .of_still lowered.1 lowered.2

/-! ### The device state -/

theorem settle_keeps_liftSafe {s : State} (law : LiftSafe s) : LiftSafe (settle s) :=
  law.of_drove (settle_drove s)

/-- R174: an axle is lowered as the device leaves ACTIVE. -/
theorem setDeviceState_keeps_liftSafe (d : DeviceState) {s : State} (law : LiftSafe s) :
    LiftSafe (setDeviceState d s) := by
  unfold setDeviceState
  refine settle_keeps_liftSafe (keeps_ite (P := LiftSafe) (fun _ => ?_) fun stays => ?_)
  · have lowered := forceLowering_shape (s := { s with device := { s.device with state := d } }) law.1
    exact .of_still lowered.1 lowered.2
  · refine ⟨law.1, fun rises => ?_⟩
    obtain ⟨⟨active, calm⟩, braking⟩ := law.2 rises
    simp only [active, beq_self_eq_true, Bool.true_and, bne_iff_ne, ne_eq, not_not] at stays
    exact ⟨⟨stays, calm⟩, braking⟩

/-! ### A scan completion -/

/-- The law without the braking, which a scan completion reads anew before the Lift Controller follows. -/
def LiftRising (s : State) : Prop := LiftShape s ∧ (Raising s → MayRise s)

theorem LiftSafe.rising {s : State} (law : LiftSafe s) : LiftRising s :=
  ⟨law.1, fun rises => (law.2 rises).1⟩

theorem LiftRising.of_sameLift {s t : State} (law : LiftRising s) (h : SameLift s t)
    (state : t.device.state = s.device.state) (rollover : t.rollover = s.rollover) : LiftRising t := by
  refine ⟨law.1.of_sameLift h, fun rises => ?_⟩
  unfold MayRise
  rw [state, rollover]
  exact law.2 (h.raising_iff.mp rises)

theorem setAxle_sameLift {a : Fin 4} {x : Axle} {s : State} (present : x.present = s.axles[a].present)
    (liftable : x.liftable = s.axles[a].liftable) (state : x.liftState = s.axles[a].liftState) :
    SameLift s (s.setAxle a x) := by
  have all (b : Fin 4) : (s.setAxle a x).axles[b].present = s.axles[b].present
      ∧ (s.setAxle a x).axles[b].liftable = s.axles[b].liftable
      ∧ (s.setAxle a x).axles[b].liftState = s.axles[b].liftState := by
    by_cases same : b = a
    · subst same
      rw [State.setAxle_get_self]
      exact ⟨present, liftable, state⟩
    · rw [State.setAxle_get_ne _ _ _ _ same]
      exact ⟨rfl, rfl, rfl⟩
  exact ⟨fun b => (all b).1, fun b => (all b).2.1, fun b => (all b).2.2, rfl⟩

/-- What a block that is not the Lift Controller keeps at a scan completion. -/
structure LiftStands (s t : State) : Prop extends SameLift s t where
  device : t.device.state = s.device.state
  braking : t.device.braking = s.device.braking
  rollover : t.rollover = s.rollover

theorem LiftStands.refl (s : State) : LiftStands s s := ⟨.refl s, rfl, rfl, rfl⟩

theorem LiftStands.trans {s t u : State} (x : LiftStands s t) (y : LiftStands t u) : LiftStands s u :=
  ⟨x.toSameLift.trans y.toSameLift, y.device.trans x.device,
    y.braking.trans x.braking, y.rollover.trans x.rollover⟩

theorem Drove.liftStands {s t : State} (h : Drove s t) : LiftStands s t :=
  ⟨h.sameLift, by rw [h.device], by rw [h.device], h.rollover⟩

theorem report_liftStands (f : FaultId) (c : Bool) (s : State) : LiftStands s (report f c s) :=
  ⟨.of_eq rfl rfl, rfl, rfl, rfl⟩

theorem setChannel_liftStands (c : Fin 4) (x : Channel) (s : State) : LiftStands s (s.setChannel c x) :=
  ⟨.of_eq rfl rfl, rfl, rfl, rfl⟩

theorem forEach_liftStands {n : Nat} {f : Fin n → State → State} (step : ∀ i s, LiftStands s (f i s))
    (s : State) : LiftStands s (forEach n f s) :=
  forEach_rel LiftStands .refl .trans step s

theorem publishDelivered_liftStands (c : Fin 4) (s : State) : LiftStands s (publishDelivered c s) :=
  keeps_ite (P := LiftStands s)
    (fun _ => (setChannel_liftStands _ _ _).trans (report_liftStands _ _ _)) fun _ => .refl s

theorem publishBellows_liftStands (a : Fin 4) (s : State) : LiftStands s (publishBellows a s) := by
  unfold publishBellows
  split
  · refine LiftStands.trans ⟨setAxle_sameLift ?_ ?_ ?_, ?_, ?_, ?_⟩ (report_liftStands _ _ _) <;> rfl
  · exact .refl s

theorem LiftRising.of_liftStands {s t : State} (law : LiftRising s) (h : LiftStands s t) :
    LiftRising t := law.of_sameLift h.toSameLift h.device h.rollover

theorem LiftSafe.of_liftStands {s t : State} (law : LiftSafe s) (h : LiftStands s t) : LiftSafe t :=
  law.of_sameLift h.toSameLift (by rw [h.device]; exact id) (by rw [h.braking]; exact id)
    (by rw [h.rollover]; exact id)

/-- R25: the braking flag is written anew, so only the rest of the law survives the publication. -/
theorem publish_liftRising (r : ScanInputs) {s : State} (law : LiftSafe s) : LiftRising (publish r s) := by
  unfold publish
  dsimp only
  refine .of_liftStands ?_ (.trans (.trans (.trans (.trans (.trans (report_liftStands _ _ _)
    (report_liftStands _ _ _)) (report_liftStands _ _ _))
    (forEach_liftStands publishDelivered_liftStands _))
    (forEach_liftStands publishBellows_liftStands _)) (settle_drove _).liftStands)
  exact law.rising

theorem loadAxle_liftStands (before after : LoadUnit) (a : Fin 4) (s : State) :
    LiftStands s (loadAxle before after a s) := by
  unfold loadAxle
  split
  · refine ⟨setAxle_sameLift ?_ ?_ ?_, rfl, rfl, rfl⟩
    all_goals
      split
      · rfl
      · split <;> rfl
      · rfl
  · exact .refl s

theorem loadUnitScan_liftStands (s : State) : LiftStands s (loadUnitScan s) := by
  have total (t : State) (n : Nat) : LiftStands t { t with device := { t.device with fTot := n } } :=
    ⟨.of_eq rfl rfl, rfl, rfl, rfl⟩
  have state (u : LoadUnit) : LiftStands s { s with loadUnit := u } := ⟨.of_eq rfl rfl, rfl, rfl, rfl⟩
  unfold loadUnitScan
  refine .trans (.trans (.trans (state _) (forEach_liftStands (loadAxle_liftStands _ _) _)) (total _ _))
    (forEach_liftStands (fun c t => ?_) _)
  exact keeps_ite (P := LiftStands t) (fun _ => setChannel_liftStands _ _ _) fun _ => .refl t

theorem pressureTargetScan_liftStands (s : State) : LiftStands s (pressureTargetScan s) :=
  forEach_liftStands (fun c t => by
    split
    · rw [arbitrate_setChannel]
      exact setChannel_liftStands _ _ _
    · exact .refl t) s

theorem valveDriverScan_liftStands (low : BitVec 13) (s : State) :
    LiftStands s (valveDriverScan low s) := by
  have sampled : LiftStands s { s with
      outputs := Vector.ofFn fun o => s.outputs[o].sampled (low.getLsbD o.val) } := by
    refine ⟨.of_eq rfl ?_, rfl, rfl, rfl⟩
    have kept (x : Output) (b : Bool) : (x.sampled b).requested = x.requested := by
      unfold Output.sampled
      split <;> rfl
    simp [kept]
  unfold valveDriverScan
  refine ((sampled.trans (forEach_liftStands (fun o t => report_liftStands _ _ t) _)).trans
    (forEach_liftStands (fun o t => ?_) _)).trans (settle_drove _).liftStands
  exact keeps_ite (P := LiftStands t) (fun _ => report_liftStands _ _ t) fun _ => .refl t

theorem antiLockScan_liftStands (before : Bool) (s : State) : LiftStands s (antiLockScan before s) :=
  forEach_liftStands (fun c t => by
    split
    case isFalse => exact .refl t
    split
    · exact setChannel_liftStands _ _ _
    split
    · rw [arbitrate_setChannel]
      exact setChannel_liftStands _ _ _
    · exact .refl t) s

/-! ### The Lift Controller at a scan completion -/

/-- The solenoid's request says what the liftable axle's state is. -/
theorem LiftShape.request_iff {s : State} (law : LiftShape s) {a : Fin 4}
    (present : s.axles[a].present = true) (liftable : s.axles[a].liftable = true) :
    s.outputs[liftOutput].requested = true ↔
      s.axles[a].liftState = .raising ∨ s.axles[a].liftState = .up := by
  rw [law.2.2]
  refine ⟨fun ⟨b, presentB, up⟩ => ?_, fun up => ⟨a, present, up⟩⟩
  by_cases same : b = a
  · exact same ▸ up
  · rw [law.notLiftable same present liftable presentB] at up
    simp at up

/-- The liftable axle is put in state `l`, which its solenoid's request matches. -/
theorem LiftShape.put {s t : State} (law : LiftShape s) {a : Fin 4} {l : LiftState}
    (present : s.axles[a].present = true) (liftable : s.axles[a].liftable = true)
    (axles : t.axles = (putAxle a { s.axles[a] with liftState := l } s).axles) (lifts : l ≠ .notLiftable)
    (request : t.outputs[liftOutput].requested = true ↔ l = .raising ∨ l = .up) :
    LiftShape t ∧ (l ≠ .raising → ¬Raising t) := by
  have self : t.axles[a].present = true ∧ t.axles[a].liftable = true ∧ t.axles[a].liftState = l := by
    rw [axles, putAxle_get_self]
    exact ⟨present, liftable, rfl⟩
  obtain ⟨presentT, liftableT, state⟩ := self
  have shape := law.move present liftable (fun b h => by rw [axles, putAxle_get_ne h]) presentT liftableT
    (by rw [state]; exact lifts) (by rw [state]; exact request)
  exact ⟨shape, fun notRaising => shape.still_of presentT liftableT (by rw [state]; exact notRaising)⟩

section Controller
variable {s : State} {a : Fin 4}

theorem startRaise_shape (law : LiftShape s) (present : s.axles[a].present = true)
    (liftable : s.axles[a].liftable = true) : LiftShape (startRaise a s) := by
  unfold startRaise
  refine (law.put (l := .raising) present liftable ?_ (by decide) ?_).1
  · rw [(requestLift_valveOnly _ _).axles]
  · rw [(requestLift_self _ _).1]
    decide

theorem completeRaise_shape (law : LiftShape s) (present : s.axles[a].present = true)
    (liftable : s.axles[a].liftable = true) (rises : s.axles[a].liftState = .raising) :
    LiftShape (completeRaise a s) ∧ ¬Raising (completeRaise a s) := by
  have up := law.put (t := completeRaise a s) (l := .up) present liftable rfl (by decide)
    ((law.request_iff present liftable).trans (by rw [rises]; decide))
  exact ⟨up.1, up.2 (by decide)⟩

theorem completeLowering_shape (law : LiftShape s) (present : s.axles[a].present = true)
    (liftable : s.axles[a].liftable = true) (lowers : s.axles[a].liftState = .lowering) :
    LiftShape (completeLowering a s) ∧ ¬Raising (completeLowering a s) := by
  have down := law.put (t := completeLowering a s) (l := .down) present liftable rfl (by decide)
    ((law.request_iff present liftable).trans (by rw [lowers]; decide))
  exact ⟨down.1, down.2 (by decide)⟩

/-- R60: the count alone does not move the axle. -/
theorem liftCounted_liftStands (h : s.axles[a].liftState ≠ .lowering) :
    LiftStands s (liftCounted a s) := by
  have still : lowered s a = false := by
    unfold lowered
    rw [beq_false_of_ne h]
    rfl
  unfold liftCounted
  rw [still]
  exact ⟨.of_eq rfl rfl, rfl, rfl, rfl⟩

theorem liftCounted_of_lowering (law : LiftShape s) (present : s.axles[a].present = true)
    (liftable : s.axles[a].liftable = true) (lowers : s.axles[a].liftState = .lowering) :
    LiftShape (liftCounted a s) ∧ ¬Raising (liftCounted a s) := by
  unfold liftCounted
  split
  · exact completeLowering_shape law present liftable lowers
  · exact ⟨law, law.still_of present liftable (by rw [lowers]; decide)⟩

theorem lowerRaised_shape (law : LiftShape s) (present : s.axles[a].present = true)
    (liftable : s.axles[a].liftable = true) :
    LiftShape (lowerRaised a s) ∧ ¬Raising (lowerRaised a s) := by
  obtain ⟨shape, still⟩ := startLowering_shape law present liftable
  unfold lowerRaised
  dsimp only
  split
  · have same : SameLift (startLowering a s) ((startLowering a s).setAxle a
        { (startLowering a s).axles[a] with liftMode := .auto }) := setAxle_sameLift rfl rfl rfl
    exact ⟨shape.of_sameLift same, fun rises => still (same.raising_iff.mp rises)⟩
  · exact ⟨shape, still⟩

theorem mayRise_of_mayRaise (h : mayRaise s a = true) : MayRise s ∧ s.device.braking = false := by
  simp only [mayRaise, liftForbidden, Bool.and_eq_true, Bool.not_eq_true', Bool.or_eq_false_iff,
    bne_eq_false_iff_eq] at h
  obtain ⟨⟨⟨⟨⟨⟨⟨active, -⟩, -⟩, -⟩, -⟩, braking⟩, calm⟩, -⟩ := h
  exact ⟨⟨active, calm⟩, braking⟩

/-- R61 to R63: after the Lift Controller's transition no axle rises while there is braking. -/
theorem liftMove_liftSafe (law : LiftRising s) (present : s.axles[a].present = true)
    (liftable : s.axles[a].liftable = true) (moves : s.axles[a].liftState ≠ .lowering) :
    LiftSafe (liftMove s.axles[a].liftState a s) := by
  have still (h : s.axles[a].liftState ≠ .raising) : LiftSafe s :=
    .of_still law.1 (law.1.still_of present liftable h)
  unfold liftMove
  split
  case h_1 was =>
    refine keeps_ite (P := LiftSafe) (fun may => ?_) fun _ => still (by rw [was]; decide)
    obtain ⟨⟨active, calm⟩, braking⟩ := mayRise_of_mayRaise may
    refine ⟨startRaise_shape law.1 present liftable, fun _ => ?_⟩
    unfold startRaise MayRise
    rw [(requestLift_valveOnly _ _).device, (requestLift_valveOnly _ _).rollover]
    exact ⟨⟨active, calm⟩, braking⟩
  case h_2 was =>
    refine keeps_ite (P := LiftSafe) (fun _ => ?_) fun free => keeps_ite (P := LiftSafe) (fun _ => ?_)
      fun _ => ⟨law.1, fun rises => ⟨law.2 rises, ?_⟩⟩
    · have lowers := startLowering_shape law.1 present liftable
      exact .of_still lowers.1 lowers.2
    · have up := completeRaise_shape law.1 present liftable was
      exact .of_still up.1 up.2
    · rw [raiseInhibited, Bool.not_eq_true, Bool.or_eq_false_iff, Bool.or_eq_false_iff] at free
      exact free.1.2
  case h_3 was =>
    refine keeps_ite (P := LiftSafe) (fun _ => ?_) fun _ => still (by rw [was]; decide)
    have lowers := lowerRaised_shape law.1 present liftable
    exact .of_still lowers.1 lowers.2
  case h_4 was => exact absurd was moves
  case h_5 was => exact still (by rw [was]; decide)

end Controller

/-- R62: the Lift Controller re-establishes the whole law at a scan completion. -/
theorem liftScan_liftSafe {s : State} (law : LiftRising s) : LiftSafe (liftScan s) := by
  have reported : LiftRising (report .lift false s) :=
    law.of_sameLift (report_liftStands _ _ _).toSameLift rfl rfl
  cases h : liftAxle s with
  | none =>
    rw [liftScan_of_none h]
    exact .of_still reported.1 (reported.1.still_of_none h)
  | some a =>
    obtain ⟨present, liftable⟩ := liftAxle_eq_some h
    rw [liftScan_of_some h]
    by_cases lowers : s.axles[a].liftState = .lowering
    · rw [lowers]
      have counted := liftCounted_of_lowering reported.1 present liftable lowers
      exact .of_still counted.1 counted.2
    · have counted : LiftStands (report .lift false s) (liftCounted a (report .lift false s)) :=
        liftCounted_liftStands lowers
      have state := counted.state a
      change _ = s.axles[a].liftState at state
      rw [← state]
      refine liftMove_liftSafe (reported.of_sameLift counted.toSameLift counted.device counted.rollover)
        ((counted.present a).trans present) ((counted.liftable a).trans liftable) ?_
      rw [state]
      exact lowers

theorem takeScan_liftStands (r : ScanInputs) (before : Bool) {agent : ScanAgent}
    (lift : agent ≠ .liftController) (state : agent ≠ .operatingState) (s : State) :
    LiftStands s (takeScan r before agent s) := by
  cases agent with
  | loadUnit => exact loadUnitScan_liftStands s
  | liftController => exact absurd rfl lift
  | pressureTarget => exact pressureTargetScan_liftStands s
  | channel c => exact (channelScan_drove c s).liftStands
  | valveDriver => exact valveDriverScan_liftStands _ s
  | antiLock => exact antiLockScan_liftStands before s
  | operatingState => exact absurd rfl state

/-- R175: the device leaves WAIT_RELEASE, in which no axle rises. -/
theorem waitReleaseScan_keeps {P : State → Prop} (drive : ∀ {s t}, P s → Drove s t → P t)
    (enter : ∀ {s}, P s → s.device.state = .waitRelease →
      P { s with device := { s.device with state := .standby } }) {s : State} (law : P s) :
    P (waitReleaseScan s) := by
  unfold waitReleaseScan
  split
  · next released =>
    have waits : s.device.state = .waitRelease := by
      simpa using (Bool.and_eq_true_iff.mp released).1
    unfold setDeviceState
    rw [waits]
    exact drive (enter law waits) (settle_drove _)
  · exact law

theorem waitReleaseScan_keeps_liftRising {s : State} (law : LiftRising s) :
    LiftRising (waitReleaseScan s) :=
  waitReleaseScan_keeps (fun lawT h => lawT.of_liftStands h.liftStands)
    (fun {t} lawT waits => ⟨lawT.1, fun rises => by
      have active := (lawT.2 rises).1
      rw [waits] at active
      cases active⟩) law

theorem takeScan_keeps_liftRising (r : ScanInputs) (before : Bool) (agent : ScanAgent) (s : State)
    (law : LiftRising s) : LiftRising (takeScan r before agent s) := by
  by_cases lift : agent = .liftController
  · subst lift
    exact (liftScan_liftSafe law).rising
  by_cases state : agent = .operatingState
  · subst state
    exact waitReleaseScan_keeps_liftRising law
  exact law.of_liftStands (takeScan_liftStands r before lift state s)

theorem takeScan_keeps_liftSafe (r : ScanInputs) (before : Bool) (agent : ScanAgent) (s : State)
    (law : LiftSafe s) : LiftSafe (takeScan r before agent s) := by
  by_cases lift : agent = .liftController
  · subst lift
    exact liftScan_liftSafe law.rising
  by_cases state : agent = .operatingState
  · subst state
    exact keeps_ite (P := LiftSafe) (fun _ => setDeviceState_keeps_liftSafe _ law) fun _ => law
  exact law.of_liftStands (takeScan_liftStands r before lift state s)

theorem mem_completeOrder (order : List ScanAgent) (a : ScanAgent) : a ∈ completeOrder order := by
  unfold completeOrder
  by_cases named : a ∈ order
  · exact List.mem_append_left _ (List.mem_dedup.mpr named)
  · refine List.mem_append_right _ (List.mem_filter.mpr ⟨mem_allScanAgents a, ?_⟩)
    simpa using named

/-- R18, R62: whatever the order, the Lift Controller takes its turn. -/
theorem scanCompletion_keeps_liftSafe (r : ScanInputs) (order : List ScanAgent) {s : State}
    (law : LiftSafe s) : LiftSafe (scanCompletion r order s) := by
  obtain ⟨before, rest, split⟩ := List.append_of_mem (mem_completeOrder order .liftController)
  unfold scanCompletion
  dsimp only
  rw [split, List.foldl_append, List.foldl_cons]
  refine foldl_takeScan_keeps (takeScan_keeps_liftSafe r _) _ (liftScan_liftSafe ?_)
  exact foldl_takeScan_keeps (takeScan_keeps_liftRising r _) _ (publish_liftRising r law)

/-! ### The Rollover Monitor -/

/-- The shape of the law with no axle RAISING. -/
def LiftStill (s : State) : Prop := LiftShape s ∧ ¬Raising s

theorem LiftStill.of_sameLift {s t : State} (law : LiftStill s) (h : SameLift s t) : LiftStill t :=
  ⟨law.1.of_sameLift h, fun rises => law.2 (h.raising_iff.mp rises)⟩

theorem LiftStill.safe {s : State} (law : LiftStill s) : LiftSafe s := .of_still law.1 law.2

theorem LiftSafe.still {s : State} (law : LiftSafe s) (alarmed : s.rollover.state.alarmed = true) :
    LiftStill s := ⟨law.1, law.still_of_alarmed alarmed⟩

theorem handRequest_sameLift (v : Nat) (c : Fin 4) (s : State) : SameLift s (handRequest v c s) :=
  keeps_ite (P := SameLift s) (fun _ => .of_eq rfl rfl) fun _ => .refl s

theorem monitorClosed_liftStill : MonitorClosed LiftStill where
  record _ law := law
  event law := law
  lowering law := forceLowering_shape law.1
  request v c law := law.of_sameLift (handRequest_sameLift v c _)

/-- The monitor writes its record in a way that raises no alarm. -/
theorem LiftSafe.setRollover {s : State} (law : LiftSafe s) {r : Rollover}
    (calm : s.rollover.state.alarmed = false → r.state.alarmed = false) : LiftSafe (s.setRollover r) :=
  law.of_sameLift (.of_eq rfl rfl) id id calm

theorem LiftSafe.requests {s : State} (law : LiftSafe s) (v : Nat) : LiftSafe (handAll v s) := by
  have set : LiftSafe (s.setRollover { s.rollover with level := v }) := law.setRollover id
  refine forEach_keeps LiftSafe (fun c t lawT => ?_) _ set
  have frame := handRequest_valveOnly v c t
  exact lawT.of_sameLift (handRequest_sameLift v c t) (by rw [frame.device]; exact id)
    (by rw [frame.device]; exact id) (by rw [frame.rollover]; exact id)

theorem endTest_keeps_liftSafe (result : TestResult) {s : State} (law : LiftSafe s) :
    LiftSafe (endTest result s) :=
  keeps_ite (P := LiftSafe) (fun _ => law.setRollover id) fun _ => law

theorem withdraw_keeps_liftSafe {next : RolloverState} (calm : next.alarmed = false) {s : State}
    (law : LiftSafe s) : LiftSafe (withdraw next s) := by
  unfold withdraw
  refine LiftSafe.requests ?_ 0
  exact (endTest_keeps_liftSafe .noResult law).setRollover fun _ => calm

theorem raiseRollover_keeps_liftSafe {s : State} (law : LiftSafe s) : LiftSafe (raiseRollover s) := law

theorem enterOff_keeps_liftSafe {s : State} (law : LiftSafe s) : LiftSafe (enterOff s) :=
  keeps_ite (P := LiftSafe) (fun _ => law) fun _ => keeps_ite (P := LiftSafe)
    (fun _ => raiseRollover_keeps_liftSafe (withdraw_keeps_liftSafe rfl law))
    fun _ => withdraw_keeps_liftSafe rfl law

theorem enterDegraded_keeps_liftSafe {s : State} (law : LiftSafe s) : LiftSafe (enterDegraded s) :=
  raiseRollover_keeps_liftSafe (withdraw_keeps_liftSafe rfl law)

theorem enterMonitor_keeps_liftSafe {s : State} (law : LiftSafe s) : LiftSafe (enterMonitor s) := by
  have entered : LiftSafe (s.setRollover { s.rollover with state := .monitor, filtered := 0 }) :=
    law.setRollover fun _ => rfl
  exact keeps_ite (P := LiftSafe) (fun _ => entered) fun _ => entered

theorem applyOffAndDegraded_keeps_liftSafe (degraded : Bool) {s : State} (law : LiftSafe s) :
    LiftSafe (applyOffAndDegraded degraded s) := by
  unfold applyOffAndDegraded
  split
  · exact enterOff_keeps_liftSafe law
  split
  case h_1 =>
    exact keeps_ite (P := LiftSafe) (fun _ => enterDegraded_keeps_liftSafe law)
      fun _ => enterMonitor_keeps_liftSafe law
  case h_2 =>
    exact keeps_ite (P := LiftSafe) (fun _ => law) fun _ => enterMonitor_keeps_liftSafe law
  case h_3 | h_4 | h_5 =>
    exact keeps_ite (P := LiftSafe) (fun _ => enterDegraded_keeps_liftSafe law) fun _ => law
  case h_6 | h_7 => exact law

/-- R64, R123: the monitor leaves MONITOR upward with the axle lowered first. -/
theorem monitorRule_keeps_liftSafe {s : State} (law : LiftSafe s) : LiftSafe (monitorRule s) := by
  unfold monitorRule
  split
  · exact (monitorClosed_liftStill.enterIntervene (forceLowering_shape law.1)).safe
  split
  · exact (monitorClosed_liftStill.alertRule (forceLowering_shape
      (s := s.setRollover { s.rollover with state := .alert }) law.1)).safe
  · exact law

theorem rolloverSample_keeps_liftSafe {s : State} (law : LiftSafe s) : LiftSafe (rolloverSample s) := by
  have noted : LiftSafe (s.setRollover { s.rollover with degradedSeen := degradedCondition s }) :=
    law.setRollover id
  have staged := applyOffAndDegraded_keeps_liftSafe (degradedCondition s) noted
  have estimated := staged.setRollover
    (r := (estimate (applyOffAndDegraded (degradedCondition s) (s.setRollover
      { s.rollover with degradedSeen := degradedCondition s }))).rollover) id
  change LiftSafe (estimate _) at estimated
  unfold rolloverSample
  dsimp only
  split
  case h_1 | h_2 => exact staged
  case h_3 => exact monitorRule_keeps_liftSafe estimated
  case h_4 state =>
    exact (monitorClosed_liftStill.alertRule (estimated.still (congrArg RolloverState.alarmed state))).safe
  case h_5 state =>
    exact (monitorClosed_liftStill.testRule (estimated.still (congrArg RolloverState.alarmed state))).safe
  case h_6 state =>
    exact (monitorClosed_liftStill.interveneRule _
      (estimated.still (congrArg RolloverState.alarmed state))).safe
  case h_7 state =>
    exact (monitorClosed_liftStill.recoverRule _
      (estimated.still (congrArg RolloverState.alarmed state))).safe

/-- An operation that may raise the alarm only out of an alarm keeps the law. -/
theorem testTimerExpired_keeps_liftSafe {s : State} (law : LiftSafe s) :
    LiftSafe (testTimerExpired s) := by
  by_cases test : s.rollover.state = .test
  · exact (monitorClosed_liftStill.testTimerExpired (law.still (congrArg RolloverState.alarmed test))).safe
  · unfold testTimerExpired
    rw [if_neg test]
    exact law.setRollover id

theorem rampStepExpired_keeps_liftSafe {s : State} (law : LiftSafe s) :
    LiftSafe (rampStepExpired s) := by
  by_cases recovers : s.rollover.state = .recover
  · exact (monitorClosed_liftStill.rampStepExpired
      (law.still (congrArg RolloverState.alarmed recovers))).safe
  · unfold rampStepExpired
    rw [if_neg recovers]
    exact law.setRollover id

theorem sampleSet_keeps_liftSafe (now : Stamp) (lines : BitVec 8) (first : Bool) {s : State}
    (law : LiftSafe s) : LiftSafe (sampleSet now lines first s) := by
  have sampled {t : State} (lawT : LiftSafe t) : LiftSafe (antiLockSample t) := by
    have judged : LiftSafe (judgeWheels t) := lawT
    refine forEach_keeps LiftSafe (fun c u lawU => ?_) _ judged
    exact keeps_ite (P := LiftSafe) (fun _ => lawU.of_sameLift (.of_eq rfl rfl) id id id) fun _ => lawU
  have closed : LiftSafe (windowEnd now lines s) := by
    unfold windowEnd
    refine forEach_keeps LiftSafe (fun w t lawT => ?_) _ ?_
    · exact keeps_ite (P := LiftSafe) (fun _ => lawT.of_liftStands (report_liftStands _ _ _))
        fun _ => lawT
    · exact law
  cases first with
  | true =>
    rw [sampleSet_antiLock_first]
    exact rolloverSample_keeps_liftSafe (sampled closed)
  | false =>
    rw [sampleSet_antiLock_last]
    exact sampled (rolloverSample_keeps_liftSafe closed)

/-! ### The requests -/

/-- One axle alone may be liftable, and its solenoid is not requested. -/
theorem liftStill_of_only {t : State} {a : Fin 4}
    (others : ∀ b, b ≠ a → t.axles[b].present = true →
      t.axles[b].liftState = .notLiftable ∧ t.axles[b].liftable = false)
    (self : t.axles[a].liftState = .notLiftable ↔ t.axles[a].liftable = false)
    (low : t.axles[a].liftState ≠ .raising ∧ t.axles[a].liftState ≠ .up)
    (request : t.outputs[liftOutput].requested = false) : LiftStill t := by
  have neither (b : Fin 4) (present : t.axles[b].present = true) :
      t.axles[b].liftState ≠ .raising ∧ t.axles[b].liftState ≠ .up := by
    by_cases same : b = a
    · subst same
      exact low
    · rw [(others b same present).1]
      decide
  refine ⟨⟨fun b present => ?_, fun b c presentB presentC liftB liftC => ?_, ?_⟩,
    fun ⟨b, present, rises⟩ => (neither b present).1 rises⟩
  · by_cases same : b = a
    · subst same
      exact self
    · obtain ⟨state, liftable⟩ := others b same present
      simp only [state, liftable]
  · have isA : ∀ b, t.axles[b].present = true → t.axles[b].liftable = true → b = a := fun b p l => by
      by_contra other
      rw [(others b other p).2] at l
      cases l
    rw [isA b presentB liftB, isA c presentC liftC]
  · rw [request]
    refine ⟨fun h => absurd h Bool.false_ne_true, fun ⟨b, present, up⟩ => ?_⟩
    exact absurd up (not_or.mpr (neither b present))

/-- R67: a new LIFTABLE is put, the solenoid asked for no longer. -/
theorem putLiftable_liftStill {a : Fin 4} {x : Axle} {l : LiftController} {s : State}
    (others : ∀ b, b ≠ a → s.axles[b].present = true →
      s.axles[b].liftState = .notLiftable ∧ s.axles[b].liftable = false)
    (self : x.liftState = .notLiftable ↔ x.liftable = false)
    (low : x.liftState ≠ .raising ∧ x.liftState ≠ .up) :
    LiftStill (requestLift false { putAxle a x s with lift := l }) := by
  have axles := (requestLift_valveOnly false { putAxle a x s with lift := l }).axles
  change _ = (putAxle a x s).axles at axles
  refine liftStill_of_only (a := a) (fun b other => ?_) ?_ ?_ (requestLift_self false _).1
  · rw [axles, putAxle_get_ne other]
    exact others b other
  · rw [axles, putAxle_get_self]
    exact self
  · rw [axles, putAxle_get_self]
    exact low

/-- R13, R67: LIFTABLE may be set where no other axle has it, and cleared where the axle is DOWN. -/
theorem storeLiftable_keeps_liftSafe {a : Fin 4} {v : Nat} {s : State} (law : LiftSafe s)
    (present : s.axles[a].present = true) (blocks : structureBlocks s (.axle a) 2 v = false) :
    LiftSafe (storeLiftable a v s) := by
  unfold storeLiftable
  dsimp only
  split
  · exact law
  next changes =>
  have states := law.1.1
  split
  · next sets =>
    rw [sets] at changes
    have off : s.axles[a].liftable = false := by simpa using changes
    simp only [structureBlocks, off, sets, Bool.true_and] at blocks
    refine (putLiftable_liftStill (fun b other presentB => ?_) (by simp) (by simp)).safe
    have free : ∀ b : Fin 4, b ≠ a → s.axles[b].present = true → s.axles[b].liftable = false := by
      simpa using blocks
    have notLift := free b other presentB
    exact ⟨(states b presentB).mpr notLift, notLift⟩
  · next clears =>
    rw [Bool.not_eq_true] at clears
    have on : s.axles[a].liftable = true := by simpa [clears] using changes
    refine (putLiftable_liftStill (fun b other presentB => ?_) (by simp) (by simp)).safe
    have state := law.1.notLiftable other present on presentB
    exact ⟨state, (states b presentB).mp state⟩

theorem store_keeps_liftSafe {r : RecordId} {n v : Nat} {s : State} (law : LiftSafe s)
    (exist : recordExists s r = true) (blocks : structureBlocks s r n v = false) :
    LiftSafe (store r n v s) := by
  cases r with
  | device =>
    unfold store
    dsimp only
    split
    case h_1 =>
      unfold storeMask
      refine settle_keeps_liftSafe ?_
      exact law
    case h_4 =>
      refine settle_keeps_liftSafe ?_
      exact law
    all_goals exact law
  | axle a =>
    have stored {x : Axle} (same : x.present = s.axles[a].present ∧ x.liftable = s.axles[a].liftable
        ∧ x.liftState = s.axles[a].liftState) : LiftSafe (s.setAxle a x) :=
      law.of_sameLift (setAxle_sameLift same.1 same.2.1 same.2.2) id id id
    unfold store
    dsimp only
    split
    case h_1 =>
      exact keeps_ite (P := LiftSafe) (fun _ => law) fun _ =>
        List.foldlRecOn (motive := LiftSafe) _ _ (stored ⟨rfl, rfl, rfl⟩) fun _ h _ _ => h
    case h_2 => exact storeLiftable_keeps_liftSafe law exist blocks
    all_goals exact stored ⟨rfl, rfl, rfl⟩
  | candidate k => exact law
  | wheel | tyre | channel | rollover =>
    unfold store
    dsimp only
    split <;> exact law

theorem goActiveOwner_keeps_liftSafe (index : BitVec 5) {s : State} (law : LiftSafe s) :
    LiftSafe (goActiveOwner index s).2 := by
  have entered := setDeviceState_keeps_liftSafe .active law
  unfold goActiveOwner
  split
  case h_1 | h_4 => exact law
  case h_2 =>
    dsimp only
    exact entered
  case h_3 =>
    split
    · exact law
    · dsimp only
      exact entered

theorem goStandbyOwner_keeps_liftSafe (index : BitVec 5) {s : State} (law : LiftSafe s) :
    LiftSafe (goStandbyOwner index s).2 :=
  keeps_ite (P := LiftSafe)
    (fun _ => setDeviceState_keeps_liftSafe _ (law.of_drove (endExercises_drove s))) fun _ => law

theorem liftCommandOwner_keeps_liftSafe (index : BitVec 5) (mode : Word) {s : State}
    (law : LiftSafe s) : LiftSafe (liftCommandOwner index mode s).2 := by
  unfold liftCommandOwner
  split
  · exact law
  · split
    · exact law.of_sameLift (setAxle_sameLift rfl rfl rfl) id id id
    · exact law

theorem ackFaultsOwner_keeps_liftSafe (index : BitVec 5) {s : State} (law : LiftSafe s) :
    LiftSafe (ackFaultsOwner index s).2 := by
  unfold ackFaultsOwner
  dsimp only
  refine settle_keeps_liftSafe ?_
  exact law

/-! ### The resets -/

theorem liftStill_of_fresh {t : State} (fresh : ∀ a : Fin 4, ∃ present, t.axles[a] = freshAxle present)
    (request : t.outputs[liftOutput].requested = false) : LiftStill t := by
  refine liftStill_of_only (a := 0) (fun b _ _ => ?_) ?_ ?_ request
  · obtain ⟨p, h⟩ := fresh b
    rw [h]
    exact ⟨rfl, rfl⟩
  · obtain ⟨p, h⟩ := fresh 0
    rw [h]
    exact ⟨fun _ => rfl, fun _ => rfl⟩
  · obtain ⟨p, h⟩ := fresh 0
    rw [h]
    exact ⟨LiftState.noConfusion, LiftState.noConfusion⟩

theorem beginFullReset_liftSafe (s : State) : LiftSafe (beginFullReset s) :=
  (liftStill_of_fresh (fun a => ⟨axleExists s.device.layout a, by simp [beginFullReset, freshAxles]⟩)
    (by simp [beginFullReset, freshOutput])).safe

theorem endFullReset_keeps_liftSafe (straps : BitVec 2) {s : State} (law : LiftSafe s)
    (quiet : s.outputs[liftOutput].requested = false) : LiftSafe (endFullReset straps s) :=
  keeps_ite (P := LiftSafe) (fun _ => law) fun _ => (liftStill_of_fresh
    (t := startInit (sampleLayout straps s))
    (fun a => ⟨axleExists straps a, by simp [startInit, sampleLayout, freshAxles]⟩) quiet).safe

/-- R68: a restart leaves the liftable axle LOWERING. -/
theorem restart_liftSafe {s : State} (law : LiftSafe s) : LiftSafe (restart s) := by
  have axle (a : Fin 4) : (restart s).axles[a] = s.axles[a].restart := by
    simp [restart, startInit]
  have present (a : Fin 4) (h : (restart s).axles[a].present = true) : s.axles[a].present = true := by
    rw [axle] at h
    unfold Axle.restart at h
    split at h
    · assumption
    · exact h
  have self (a : Fin 4) (h : s.axles[a].present = true) :
      (restart s).axles[a].liftable = s.axles[a].liftable
        ∧ (restart s).axles[a].liftState = if s.axles[a].liftable then .lowering else .notLiftable := by
    rw [axle]
    unfold Axle.restart
    rw [if_pos h]
    exact ⟨rfl, rfl⟩
  have low (a : Fin 4) (h : s.axles[a].present = true) :
      (restart s).axles[a].liftState ≠ .raising ∧ (restart s).axles[a].liftState ≠ .up := by
    rw [(self a h).2]
    split <;> decide
  refine .of_still ⟨fun a h => ?_, fun a b ha hb liftA liftB => ?_, ?_⟩
    fun ⟨a, h, rises⟩ => (low a (present a h)).1 rises
  · obtain ⟨liftable, state⟩ := self a (present a h)
    rw [state, liftable]
    cases s.axles[a].liftable <;> decide
  · rw [(self a (present a ha)).1] at liftA
    rw [(self b (present b hb)).1] at liftB
    exact law.1.2.1 a b (present a ha) (present b hb) liftA liftB
  · have request : (restart s).outputs[liftOutput].requested = false := by
      simp [restart, startInit, freshOutput]
    rw [request]
    exact ⟨fun h => absurd h Bool.false_ne_true, fun ⟨a, h, up⟩ => absurd up (not_or.mpr (low a (present a h)))⟩

/-! ### Every command -/

theorem LiftSafe.of_tyreOnly {s t : State} (law : LiftSafe s) (h : TyreOnly s t) : LiftSafe t :=
  law.of_sameLift (.of_eq (by rw [h]) (by rw [h])) (by rw [h]; exact id) (by rw [h]; exact id)
    (by rw [h]; exact id)

theorem LiftSafe.of_lookupOnly {s t : State} (law : LiftSafe s) (h : LookupOnly s t) : LiftSafe t := by
  obtain ⟨frame, axles⟩ := h
  refine law.of_sameLift ⟨fun a => ?_, fun a => ?_, fun a => ?_, by rw [frame]⟩ (by rw [frame]; exact id)
    (by rw [frame]; exact id) (by rw [frame]; exact id)
  all_goals rw [axles a]

theorem request_keeps_liftSafe {kind : BitVec 6} {owner : State → Reply × State} {s : State}
    (law : LiftSafe s) (op : ∀ u, LiftSafe u → LiftSafe (owner u).2) : LiftSafe (request kind owner s) :=
  request_keeps (P := LiftSafe) (fun _ _ h => h) law fun u _ _ => op u

theorem raiseTimer_keeps_liftSafe {s t : State} (law : LiftSafe s)
    (same : t = { s with lift := { s.lift with raiseTimer := none } }) {a : Fin 4}
    (found : liftAxle s = some a) : LiftSafe (report .lift true (startLowering a t)) := by
  subst same
  obtain ⟨present, liftable⟩ := liftAxle_eq_some found
  have lowered := startLowering_shape (s := { s with lift := { s.lift with raiseTimer := none } })
    law.1 present liftable
  exact (LiftSafe.of_still lowered.1 lowered.2).of_liftStands (report_liftStands _ _ _)

/-- R66: the lowering timer's expiry leaves the axle DOWN. -/
theorem loweringTimer_keeps_liftSafe {s t : State} (law : LiftSafe s)
    (same : t = { s with lift := { s.lift with loweringTimer := none } }) {a : Fin 4}
    (found : liftAxle s = some a) (lowers : s.axles[a].liftState = .lowering) :
    LiftSafe (putAxle a { s.axles[a] with liftState := .down } t) := by
  subst same
  obtain ⟨present, liftable⟩ := liftAxle_eq_some found
  have down := law.1.put (l := .down) (t := putAxle a { s.axles[a] with liftState := .down }
      { s with lift := { s.lift with loweringTimer := none } }) present liftable rfl (by decide)
    ((law.1.request_iff present liftable).trans (by rw [lowers]; decide))
  exact .of_still down.1 (down.2 (by decide))

theorem exec_keeps_liftSafe (i : Instr) (s t : State) (reset : ResetLaw s) (law : LiftSafe s)
    (h : exec i s = .next t) : LiftSafe t := by
  cases i
  case lineToSpacing | lineToMarking | startBitTaken | characterComplete | gapTimerExpiry |
      agingExpiry | learnTimerExpiry => exact law.of_tyreOnly (exec_tyreOnly h rfl)
  all_goals obtain rfl := Host.Outcome.next.inj h
  case powerOn straps =>
    exact endFullReset_keeps_liftSafe straps (beginFullReset_liftSafe s)
      (by simp [beginFullReset, freshOutput])
  case logicSupplyLow | resetLineAssert =>
    exact keeps_ite (fun _ => law) fun _ => beginFullReset_liftSafe _
  case logicSupplyRestored straps =>
    exact keeps_ite (fun low => endFullReset_keeps_liftSafe straps
      (s := { s with device := { s.device with supplyFail := false } }) law
      ((reset.2 (held_of_cause (.inl low))).2.2.2 _).1) fun _ => law
  case resetLineRelease straps =>
    exact keeps_ite (fun low => endFullReset_keeps_liftSafe straps
      (s := { s with device := { s.device with resetLow := false } }) law
      ((reset.2 (held_of_cause (.inr low))).2.2.2 _).1) fun _ => law
  case initTimerExpiry =>
    refine whileRunning_keeps law fun _ => keeps_ite (fun _ => ?_) fun _ => law
    have stopped : LiftSafe { s with device := { s.device with initTimer := none } } := law
    exact (setDeviceState_keeps_liftSafe .standby stopped).of_drove (forEach_drove leaveOff_drove _)
  case failsafeAssert =>
    have asserted : LiftSafe { s with device := { s.device with failsafe := true } } := law
    exact whileRunning_keeps asserted fun _ =>
      settle_keeps_liftSafe (forceLowering_keeps_liftSafe asserted)
  case failsafeRelease =>
    have released : LiftSafe { s with device := { s.device with failsafe := false } } := law
    exact whileRunning_keeps released fun _ => settle_keeps_liftSafe released
  case scanCompletion r order =>
    exact whileRunning_keeps law fun _ =>
      keeps_ite (fun _ => scanCompletion_keeps_liftSafe r order law) fun _ => law
  case sampleSet now lines first =>
    exact whileRunning_keeps law fun _ =>
      keeps_ite (fun _ => sampleSet_keeps_liftSafe now lines first law) fun _ => law
  case wheelEdge w now =>
    exact whileRunning_keeps law fun _ => keeps_ite (fun _ => law) fun _ => law
  case shortCircuitTrip o =>
    have off := (law.of_drove (deenergise_drove o s)).of_liftStands
      (report_liftStands (.valveShort o) true _)
    exact whileRunning_keeps law fun _ => keeps_ite (fun _ => settle_keeps_liftSafe off) fun _ => law
  case changeoverGapExpiry c =>
    refine keeps_ite (fun _ => LiftSafe.of_drove ?_ (serves_drove c _)) fun _ => law
    exact law
  case blankingTimerExpiry o =>
    exact whileRunning_keeps law fun _ => keeps_ite (fun _ => law.of_sameLift
      (.of_eq rfl (setOutput_requested _ _ _ _ rfl)) id id id) fun _ => law
  case raiseTimerExpiry =>
    refine whileRunning_keeps law fun _ => keeps_ite (fun _ => ?_) fun _ => law
    dsimp only
    split
    · exact law
    · next found =>
      exact keeps_ite (fun _ => raiseTimer_keeps_liftSafe law rfl found) fun _ => law
  case loweringTimerExpiry =>
    refine whileRunning_keeps law fun _ => keeps_ite (fun _ => ?_) fun _ => law
    dsimp only
    split
    · exact law
    · next found =>
      refine keeps_ite (fun lowers => ?_) fun _ => law
      have down := loweringTimer_keeps_liftSafe law rfl found lowers
      exact keeps_ite (fun _ => down) fun _ => down.of_liftStands (report_liftStands _ _ _)
  case supplyTimerExpiry c =>
    exact whileRunning_keeps law fun _ => keeps_ite (fun _ => keeps_ite (fun _ => law) fun _ => law)
      fun _ => law
  case exerciseTimerExpiry c =>
    exact whileRunning_keeps law fun _ => keeps_ite (fun _ => keeps_ite
      (fun _ => law.of_drove (finishExercise_drove c _ s)) fun _ => law) fun _ => law
  case holdTimerExpiry c | stepTimerExpiry c =>
    exact whileRunning_keeps law fun _ => keeps_ite (fun _ => law) fun _ => law
  case testTimerExpiry =>
    exact whileRunning_keeps law fun _ =>
      keeps_ite (fun _ => testTimerExpired_keeps_liftSafe law) fun _ => law
  case testSpacingExpiry | interventionMinExpiry => exact whileRunning_keeps law fun _ => law
  case rampStepExpiry =>
    exact whileRunning_keeps law fun _ =>
      keeps_ite (fun _ => rampStepExpired_keeps_liftSafe law) fun _ => law
  case jamTimerExpiry | markTimerExpiry =>
    exact whileRunning_keeps law fun _ => keeps_ite (fun _ => law) fun _ => law
  case selectFall => exact law
  case emptyTransaction | frameError =>
    exact transact_keeps (fun _ _ h => h) law fun _ _ _ h => h
  case initTransaction =>
    rw [closeTransaction_openTransaction]
    exact law
  case unknownRequest | nop => exact request_keeps_liftSafe law fun _ h => h
  case lookup table index group =>
    exact request_keeps_liftSafe law fun u lawU =>
      lawU.of_lookupOnly (lookupOwner_lookupOnly table index group u)
  case lookupNext index group =>
    exact request_keeps_liftSafe law fun u lawU =>
      lawU.of_lookupOnly (lookupNextOwner_lookupOnly index group u)
  case amend table index field value =>
    exact request_keeps_liftSafe law fun u lawU =>
      amendOwner_keeps lawU fun r v exist admitted => store_keeps_liftSafe lawU exist admitted.structural
  case enrol table index high low =>
    exact request_keeps_liftSafe law fun u lawU =>
      lawU.of_tyreOnly (enrolOwner_tyreOnly table index high low u)
  case retire table index =>
    exact request_keeps_liftSafe law fun u lawU =>
      lawU.of_tyreOnly (retireOwner_tyreOnly table index u)
  case learn table index =>
    exact request_keeps_liftSafe law fun u lawU =>
      lawU.of_tyreOnly (learnOwner_tyreOnly table index u)
  case cancelLearn index =>
    exact request_keeps_liftSafe law fun u lawU =>
      lawU.of_tyreOnly (cancelLearnOwner_tyreOnly index u)
  case liftCommand index mode =>
    exact request_keeps_liftSafe law fun u => liftCommandOwner_keeps_liftSafe index mode
  case exercise table index argument =>
    exact request_keeps_liftSafe law fun u lawU =>
      lawU.of_drove (exerciseOwner_drove table index argument u)
  case goActive index =>
    exact request_keeps_liftSafe law fun u => goActiveOwner_keeps_liftSafe index
  case goStandby index =>
    exact request_keeps_liftSafe law fun u => goStandbyOwner_keeps_liftSafe index
  case softReset index =>
    exact transact_keeps (fun _ _ h => h) law fun u _ _ => restart_liftSafe
  case ackFaults index =>
    exact request_keeps_liftSafe law fun u => ackFaultsOwner_keeps_liftSafe index
  case setAttention index enables =>
    refine request_keeps_liftSafe law fun u lawU => ?_
    unfold setAttentionOwner
    split <;> exact lawU

/-- Settles O56: command by command. -/
theorem resetAndLiftLawsKept : Obligations.ResetAndLiftLawsKept := fun _ _ a b stepped => by
  obtain ⟨reset, lift⟩ := step_keeps (P := fun u => ResetLaw u ∧ LiftSafe u) (fun _ _ h => h)
    (fun i s t law h => ⟨exec_keeps_resetLaw i s t law.1 h, exec_keeps_liftSafe i s t law.1 law.2 h⟩)
    ⟨a, (liftLaw_iff _).mp b⟩ stepped
  exact ⟨reset, (liftLaw_iff _).mpr lift⟩

end Sys2Proof.Machine
end

section
/-! Bounds of the computations of the manual, over plain quantities. -/

namespace Sys2Proof.Machine

theorem clampNat_within {lo hi : Nat} (h : lo ≤ hi) (v : Nat) : Within lo hi (clampNat lo hi v) := by
  unfold Within clampNat
  omega

theorem clampInt_within {lo hi : Int} (h : lo ≤ hi) (v : Int) :
    lo ≤ clampInt lo hi v ∧ clampInt lo hi v ≤ hi := by
  unfold clampInt
  omega

theorem pressureOfRaw_le {r : Raw} {p : Nat} (h : pressureOfRaw r = some p) : p ≤ 1000 := by
  unfold pressureOfRaw at h
  split_ifs at h <;> cases h <;> omega

theorem AnalogInput.next_hold_le {i : AnalogInput} (h : i.hold ≤ 1000) (r : Raw) :
    (i.next r).hold ≤ 1000 := by
  unfold AnalogInput.next
  split
  · split <;> exact h
  · next found _ => exact pressureOfRaw_le found
  · next found _ => split <;> exact pressureOfRaw_le found
  · exact h

theorem supplyOfRaw_le (r : Raw) : supplyOfRaw r ≤ 32736 := by
  have := r.isLt
  unfold supplyOfRaw
  omega

theorem windowSpeed_le (w : Wheel) (now : Stamp) : (windowSpeed w now).1 ≤ 6000 := by
  unfold windowSpeed
  split
  · exact Nat.min_le_left _ _
  split
  · split
    · exact Nat.min_le_left _ _
    · exact Nat.zero_le _
  split
  · exact Nat.zero_le _
  split
  · exact Nat.zero_le _
  · exact Nat.min_le_left _ _

theorem decelerationOf_within (previous new : Nat) :
    -2000 ≤ decelerationOf previous new ∧ decelerationOf previous new ≤ 2000 :=
  clampInt_within (by decide) _

/-- R44, R45: the reference stays where it is, or goes toward the candidate. -/
theorem Reference.next_speed_le {r : Reference} {candidate : Option Nat} (h : r.speed ≤ 6000)
    (c : ∀ v, candidate = some v → v ≤ 6000) : (r.next candidate).speed ≤ 6000 := by
  unfold Reference.next
  split
  case h_1 => exact c _ rfl
  case h_2 | h_3 =>
    have := c _ rfl
    dsimp only
    omega
  case h_4 => exact h
  case h_5 =>
    split
    · exact Nat.zero_le _
    · exact h
  case h_6 => exact Nat.zero_le _

/-- A quotient truncated toward zero lies between zero and its dividend's bound. -/
theorem tdiv_within {x d lo hi : Int} (pos : 0 < d) (below : lo * d ≤ x) (above : x < (hi + 1) * d)
    (low : lo ≤ 0) (high : 0 ≤ hi) : lo ≤ x.tdiv d ∧ x.tdiv d ≤ hi := by
  obtain nonneg | neg := Int.le_total 0 x
  · rw [Int.tdiv_eq_ediv_of_nonneg nonneg]
    refine ⟨low.trans (Int.ediv_nonneg nonneg pos.le), ?_⟩
    exact Int.lt_add_one_iff.mp (Int.ediv_lt_of_lt_mul pos above)
  · have mirror : x.tdiv d = -((-x) / d) := by
      rw [← Int.tdiv_eq_ediv_of_nonneg (by omega), Int.neg_tdiv, Int.neg_neg]
    rw [mirror]
    have up : -x / d ≤ -lo := Int.ediv_le_of_le_mul pos (by rw [Int.neg_mul]; omega)
    have zero : 0 ≤ -x / d := Int.ediv_nonneg (by omega) pos.le
    omega

theorem filterStep_le {filtered input : Nat} (a : filtered ≤ 1000) (b : input ≤ 1000) :
    filterStep filtered input ≤ 1000 := by
  unfold filterStep
  obtain up | down := Nat.le_total filtered input
  · have := tdiv_within (x := (input : Int) - filtered) (d := 8) (lo := 0) (hi := (input : Int) - filtered)
      (by decide) (by omega) (by omega) (by omega) (by omega)
    omega
  · have := tdiv_within (x := (input : Int) - filtered) (d := 8) (lo := (input : Int) - filtered) (hi := 0)
      (by decide) (by omega) (by omega) (by omega) (by omega)
    omega

/-- R52: between two points the load lies between theirs. -/
theorem CurvePoint.interpolate_le {p q : CurvePoint} {b : Nat} (hp : p.load ≤ 2000) (hq : q.load ≤ 2000)
    (low : p.bellows ≤ b) (high : b < q.bellows) : p.interpolate q b ≤ 2000 := by
  unfold CurvePoint.interpolate
  have share : (0 : Int) ≤ (b : Int) - p.bellows := by omega
  have whole : (b : Int) - p.bellows ≤ (q.bellows : Int) - p.bellows := by omega
  obtain up | down := Nat.le_total p.load q.load
  · have rise : (0 : Int) ≤ (q.load : Int) - p.load := by omega
    have := tdiv_within (x := ((q.load : Int) - p.load) * ((b : Int) - p.bellows))
      (d := (q.bellows : Int) - p.bellows) (lo := 0) (hi := (q.load : Int) - p.load) (by omega)
      (by rw [Int.zero_mul]; exact Int.mul_nonneg rise share)
      (by
        rw [Int.add_mul, Int.one_mul]
        have := Int.mul_le_mul_of_nonneg_left whole rise
        omega) (by omega) rise
    omega
  · have fall : (q.load : Int) - p.load ≤ 0 := by omega
    have := tdiv_within (x := ((q.load : Int) - p.load) * ((b : Int) - p.bellows))
      (d := (q.bellows : Int) - p.bellows) (lo := (q.load : Int) - p.load) (hi := 0) (by omega)
      (Int.mul_le_mul_of_nonpos_left fall whole)
      (by
        have := Int.mul_nonpos_of_nonpos_of_nonneg fall share
        omega) fall (by omega)
    omega

theorem segmentLoad_le {l : List CurvePoint} (h : ∀ p ∈ l, p.load ≤ 2000) (b : Nat) :
    segmentLoad l b ≤ 2000 := by
  induction l with
  | nil => exact Nat.zero_le _
  | cons p rest ih =>
    cases rest with
    | nil => exact h p List.mem_cons_self
    | cons q rest =>
      unfold segmentLoad
      split
      · next inside =>
        exact CurvePoint.interpolate_le (h p List.mem_cons_self)
          (h q (List.mem_cons_of_mem _ List.mem_cons_self)) inside.1 inside.2
      · exact ih fun r mem => h r (List.mem_cons_of_mem _ mem)

theorem curveLoad_le {l : List CurvePoint} (h : ∀ p ∈ l, p.load ≤ 2000) (b : Nat) :
    curveLoad l b ≤ 2000 := by
  unfold curveLoad
  split
  · exact Nat.zero_le _
  next p rest =>
    dsimp only
    split
    · exact h p List.mem_cons_self
    split
    · rw [List.getLastD_cons]
      exact h _ List.getLastD_mem_cons
    · exact segmentLoad_le h b

theorem loadFractionOf_le (load low high : Nat) : loadFractionOf load low high ≤ 1024 := by
  unfold loadFractionOf
  split
  · exact Nat.zero_le _
  · have := (clampInt_within (lo := 0) (hi := 1024) (by decide)
      ((((load : Int) - (low : Int)) * 1024).tdiv ((high : Int) - (low : Int)))).2
    omega

/-- A share in 1024ths of a difference, rounded, lies between zero and the difference. -/
theorem roundedShare_within {g f : Int} (nonneg : 0 ≤ f) (whole : f ≤ 1024) :
    (0 ≤ g → 0 ≤ (g * f + 512).tdiv 1024 ∧ (g * f + 512).tdiv 1024 ≤ g)
      ∧ (g ≤ 0 → g ≤ (g * f + 512).tdiv 1024 ∧ (g * f + 512).tdiv 1024 ≤ 0) := by
  refine ⟨fun rise => ?_, fun fall => ?_⟩
  · have low := Int.mul_nonneg rise nonneg
    have high := Int.mul_le_mul_of_nonneg_left whole rise
    exact tdiv_within (by decide) (by omega) (by omega) (by omega) rise
  · have low := Int.mul_le_mul_of_nonpos_left fall whole
    have high := Int.mul_nonpos_of_nonpos_of_nonneg fall nonneg
    exact tdiv_within (by decide) (by omega) (by omega) fall (by omega)

/-- R73: the gain lies between its two settings. -/
theorem gainOf_within {lo hi e l f : Nat} (he : Within lo hi e) (hl : Within lo hi l) (hf : f ≤ 1024) :
    Within lo hi (gainOf e l f) := by
  obtain ⟨up, down⟩ := roundedShare_within (g := (l : Int) - e) (f := f) (by omega) (by omega)
  unfold Within gainOf at *
  obtain h | h := Nat.le_total e l
  · have := up (by omega)
    omega
  · have := down (by omega)
    omega

theorem targetOf_le (demand gain pLim : Nat) : targetOf demand gain pLim ≤ pLim := Nat.min_le_right _ _

theorem slipOf_le (v speed : Nat) : slipOf v speed ≤ 1024 := by
  unfold slipOf
  split
  · exact Nat.zero_le _
  · next below =>
    have := Nat.sub_le v speed
    exact Nat.div_le_of_le_mul (Nat.mul_le_mul_right 1024 this |>.trans (by rw [Nat.mul_comm]))

theorem lateralRaw_within (v left right width : Nat) :
    -2000 ≤ lateralRaw v left right width ∧ lateralRaw v left right width ≤ 2000 :=
  clampInt_within (by decide) _

theorem lateralFilter_within {filtered raw : Int} (f : -2000 ≤ filtered ∧ filtered ≤ 2000)
    (r : -2000 ≤ raw ∧ raw ≤ 2000) :
    -2000 ≤ lateralFilter filtered raw ∧ lateralFilter filtered raw ≤ 2000 := by
  unfold lateralFilter
  obtain up | down := Int.le_total filtered raw
  · have := tdiv_within (x := raw - filtered) (d := 4) (lo := 0) (hi := raw - filtered)
      (by decide) (by omega) (by omega) (by omega) (by omega)
    omega
  · have := tdiv_within (x := raw - filtered) (d := 4) (lo := raw - filtered) (hi := 0)
      (by decide) (by omega) (by omega) (by omega) (by omega)
    omega

/-- R121: the threshold lies between its two settings. -/
theorem thresholdOf_le {e l f : Nat} (he : e ≤ 800) (hl : l ≤ 800) (hf : f ≤ 1024) :
    thresholdOf e l f ≤ 800 := by
  obtain ⟨up, down⟩ := roundedShare_within (g := (e : Int) - l) (f := f) (by omega) (by omega)
  unfold thresholdOf
  obtain h | h := Nat.le_total l e
  · have := up (by omega)
    omega
  · have := down (by omega)
    omega

theorem thresholdCut_le (t : Nat) : thresholdCut t ≤ t := Nat.sub_le _ _

theorem alertOf_le {t : Nat} (h : t ≤ 800) : alertOf t ≤ 600 := by
  unfold alertOf
  omega

theorem bump_le (n : Nat) : bump n ≤ 65535 := Nat.min_le_left _ _

/-! ### Tyres -/

/-- R141: what a valid telegram hands over. -/
structure Arrival.Bounded (a : Arrival) : Prop where
  pressure : a.pAbs ≤ 1600
  temperature : a.temperature ≤ 200

theorem Arrival.Bounded.gauge_le {a : Arrival} (h : a.Bounded) : a.gauge ≤ 1499 := by
  have := h.pressure
  unfold Arrival.gauge
  omega

theorem Arrival.Bounded.celsius_within {a : Arrival} (h : a.Bounded) :
    -50 ≤ a.celsius ∧ a.celsius ≤ 150 := by
  have := h.temperature
  unfold Arrival.celsius
  omega

/-- R156: the normalised pressure is largest at the lowest temperature. -/
theorem Arrival.Bounded.p20_le {a : Arrival} (h : a.Bounded) : a.p20 ≤ 2001 := by
  have pressure := h.pressure
  unfold Arrival.p20
  have : (a.pAbs * 293 + (a.temperature + 223) / 2) / (a.temperature + 223) ≤ 2102 := by
    refine Nat.lt_succ_iff.mp ((Nat.div_lt_iff_lt_mul (by omega)).mpr ?_)
    omega
  omega

theorem judgeTelegram_bounded {bytes : List Byte} {time : Nat} {a : Arrival}
    (h : judgeTelegram bytes time = .valid a) : a.Bounded := by
  unfold judgeTelegram at h
  dsimp only at h
  split_ifs at h with check range
  cases h
  simp only [not_or, Nat.not_lt] at range
  exact ⟨range.1, range.2.1⟩

end Sys2Proof.Machine
end

section
/-! Proofs about the ranges of the settings and of the measured and computed fields (R11, R12 and the field
tables): every block keeps them. -/

namespace Sys2Proof.Machine

/-! ### The ranges, record by record -/

/-- The DEVICE record's settings and fields within their ranges. -/
structure Device.Bounded (d : Device) : Prop where
  dMin : Within 10 60 d.dMin
  supplyOn : Within 300 700 d.supplyOn
  changeoverGap : Within 1 30 d.changeoverGap
  blankingTime : Within 1 20 d.blankingTime
  slipRel : Within 102 410 d.slipRel
  divisor : Within 1 65535 d.divisor
  missingTimeout : Within 60 3600 d.missingTimeout
  faultMask : d.faultMask &&& 0xF202 = 0
  demand : d.demand ≤ 1000
  reservoir : d.reservoir ≤ 1000
  valveSupply : d.valveSupply ≤ 32736
  referenceSpeed : d.referenceSpeed ≤ 6000
  fTot : d.fTot ≤ 1024
  parityErrors : d.parityErrors ≤ 65535
  framingErrors : d.framingErrors ≤ 65535
  breakErrors : d.breakErrors ≤ 65535
  gapDiscards : d.gapDiscards ≤ 65535
  checkDiscards : d.checkDiscards ≤ 65535
  rangeDiscards : d.rangeDiscards ≤ 65535
  telegramsAccepted : d.telegramsAccepted ≤ 65535

/-- The Analog Scan Unit's hold values. -/
structure Analog.Bounded (x : Analog) : Prop where
  demand : x.demand.hold ≤ 1000
  reservoir : x.reservoir.hold ≤ 1000
  delivered : ∀ c : Fin 4, x.delivered[c].hold ≤ 1000
  bellows : ∀ a : Fin 4, x.bellows[a].hold ≤ 1000

/-- An AXLE record. -/
structure Axle.Bounded (x : Axle) : Prop where
  l0 : x.l0 ≤ 2000
  l1 : x.l1 ≤ 2000
  trackWidth : Within 150 260 x.trackWidth
  fRaise : x.fRaise ≤ 1024
  fLower : x.fLower ≤ 1024
  bUp : Within 10 100 x.bUp
  bDown : Within 30 300 x.bDown
  points : Within 2 6 x.curve.length
  curve : ∀ p ∈ x.curve, p.bellows ≤ 1000 ∧ p.load ≤ 2000
  bellowsRaw : x.bellowsRaw ≤ 1000
  bellowsFiltered : x.bellowsFiltered ≤ 1000
  frozen : x.frozen.getD 0 ≤ 1000
  load : x.load ≤ 2000
  loadFraction : x.loadFraction ≤ 1024

/-- A WHEEL record. -/
structure Wheel.Bounded (x : Wheel) : Prop where
  teeth : Within 40 160 x.teeth
  circumference : Within 2000 4000 x.circumference
  speed : x.speed ≤ 6000
  slip : x.slip.getD 0 ≤ 1024
  deceleration : -2000 ≤ x.deceleration ∧ x.deceleration ≤ 2000

/-- A TYRE record. -/
structure Tyre.Bounded (x : Tyre) : Prop where
  nominal : Within 300 1000 x.nominal
  lastGauge : x.lastGauge.getD 0 ≤ 1499
  lastTemperature : -50 ≤ x.lastTemperature.getD 0 ∧ x.lastTemperature.getD 0 ≤ 150
  p20 : x.p20.getD 0 ≤ 2001
  age : x.age ≤ 65535

/-- A CHANNEL record. -/
structure Channel.Bounded (x : Channel) : Prop where
  gEmpty : Within 100 1024 x.gEmpty
  gLaden : Within 100 1024 x.gLaden
  pLim : Within 100 1000 x.pLim
  band : Within 5 50 x.band
  delivered : x.delivered ≤ 1000
  fraction : x.fraction ≤ 1024
  handFraction : x.handFraction ≤ 1024
  gain : Within 100 1024 x.gain
  target : x.target ≤ 1000
  rolloverRequest : x.rolloverRequest ≤ 700
  cap : x.cap.getD 0 ≤ 1000
  releaseCount : x.releaseCount ≤ 255

/-- An entry of the candidate list. -/
structure Candidate.Bounded (x : Candidate) : Prop where
  heard : Within 1 255 x.heard
  lastGauge : x.lastGauge ≤ 1499
  previousGauge : x.previousGauge.getD 0 ≤ 1499
  age : x.age ≤ 299

/-- The ROLLOVER record. -/
structure Rollover.Bounded (r : Rollover) : Prop where
  pTest : Within 30 150 r.pTest
  pRoll : Within 200 700 r.pRoll
  aEmpty : Within 200 800 r.aEmpty
  aLaden : Within 150 800 r.aLaden
  slipLift : Within 102 512 r.slipLift
  threshold : r.threshold ≤ 800
  alertLevel : r.alertLevel ≤ 600
  interventions : r.interventions ≤ 255
  tests : r.tests ≤ 255
  level : r.level ≤ 700
  raw : -2000 ≤ r.raw.getD 0 ∧ r.raw.getD 0 ≤ 2000
  filtered : -2000 ≤ r.filtered ∧ r.filtered ≤ 2000

/-- Every record within its ranges. -/
structure Bounded (s : State) : Prop where
  device : s.device.Bounded
  analog : s.analog.Bounded
  axles : ∀ a : Fin 4, s.axles[a].Bounded
  wheels : ∀ w : Fin 8, s.wheels[w].Bounded
  tyres : ∀ p : Fin 16, s.tyres[p].Bounded
  channels : ∀ c : Fin 4, s.channels[c].Bounded
  candidates : ∀ k ∈ s.supervisor.candidates, k.Bounded
  rollover : s.rollover.Bounded

theorem bounded_iff (s : State) : Bounded s ↔ SettingsLaw s ∧ RangeLaw s := by
  constructor
  · intro h
    obtain ⟨d, i, a, w, p, c, k, r⟩ := h
    refine ⟨⟨d.dMin, d.supplyOn, d.changeoverGap, d.blankingTime, d.slipRel, d.divisor,
      d.missingTimeout, d.faultMask, fun j => ?_, fun j => ⟨(w j).teeth, (w j).circumference⟩,
      fun j => (p j).nominal, fun j => ⟨(c j).gEmpty, (c j).gLaden, (c j).pLim, (c j).band⟩,
      r.pTest, r.pRoll, r.aEmpty, r.aLaden, r.slipLift⟩, ⟨?_, ?_, fun j => ?_, fun j => ?_, fun j => ?_,
      fun j => ?_, fun j mem => ?_, ?_⟩⟩
    · exact ⟨(a j).l0, (a j).l1, (a j).trackWidth, (a j).fRaise, (a j).fLower, (a j).bUp, (a j).bDown,
        (a j).points, (a j).curve⟩
    · exact ⟨d.demand, d.reservoir, d.valveSupply, d.referenceSpeed, d.fTot, d.parityErrors,
        d.framingErrors, d.breakErrors, d.gapDiscards, d.checkDiscards, d.rangeDiscards,
        d.telegramsAccepted⟩
    · exact ⟨i.demand, i.reservoir, i.delivered, i.bellows⟩
    · exact ⟨(c j).delivered, (c j).fraction, (c j).handFraction, (c j).gain, (c j).target,
        (c j).rolloverRequest, (c j).cap, (c j).releaseCount⟩
    · exact ⟨(a j).bellowsRaw, (a j).bellowsFiltered, (a j).frozen, (a j).load, (a j).loadFraction⟩
    · exact ⟨(w j).speed, (w j).slip, (w j).deceleration.1, (w j).deceleration.2⟩
    · exact ⟨(p j).lastGauge, (p j).lastTemperature.1, (p j).lastTemperature.2, (p j).p20, (p j).age⟩
    · exact ⟨(k j mem).heard, (k j mem).lastGauge, (k j mem).previousGauge, (k j mem).age⟩
    · exact ⟨r.threshold, r.alertLevel, r.interventions, r.tests, r.level, r.raw.1, r.raw.2,
        r.filtered.1, r.filtered.2⟩
  · rintro ⟨⟨dMin, supplyOn, gap, blanking, slipRel, divisor, missing, mask, axles, wheels, tyres,
      channels, pTest, pRoll, aEmpty, aLaden, slipLift⟩,
      ⟨⟨demand, reservoir, supply, reference, fTot, parity, framing, breaks, gaps, checks, ranges,
        telegrams⟩, ⟨inDemand, inReservoir, inDelivered, inBellows⟩, channelFields, axleFields,
        wheelFields, tyreFields, candidates, threshold, alert, interventions, tests, level, rawLow, rawHigh,
        filteredLow, filteredHigh⟩⟩
    refine ⟨⟨dMin, supplyOn, gap, blanking, slipRel, divisor, missing, mask, demand, reservoir, supply,
      reference, fTot, parity, framing, breaks, gaps, checks, ranges, telegrams⟩,
      ⟨inDemand, inReservoir, inDelivered, inBellows⟩, fun j => ?_, fun j => ?_, fun j => ?_, fun j => ?_,
      fun j mem => ?_, ⟨pTest, pRoll, aEmpty, aLaden, slipLift, threshold, alert, interventions, tests,
        level, ⟨rawLow, rawHigh⟩, filteredLow, filteredHigh⟩⟩
    · obtain ⟨l0, l1, width, raise, lower, up, down, points, curve⟩ := axles j
      obtain ⟨raw, filtered, frozen, load, fraction⟩ := axleFields j
      exact ⟨l0, l1, width, raise, lower, up, down, points, curve, raw, filtered, frozen, load, fraction⟩
    · obtain ⟨teeth, circumference⟩ := wheels j
      obtain ⟨speed, slip, low, high⟩ := wheelFields j
      exact ⟨teeth, circumference, speed, slip, low, high⟩
    · obtain ⟨gauge, low, high, p20, age⟩ := tyreFields j
      exact ⟨tyres j, gauge, ⟨low, high⟩, p20, age⟩
    · obtain ⟨gEmpty, gLaden, pLim, band⟩ := channels j
      obtain ⟨delivered, fraction, hand, gain, target, request, cap, count⟩ := channelFields j
      exact ⟨gEmpty, gLaden, pLim, band, delivered, fraction, hand, gain, target, request, cap, count⟩
    · obtain ⟨heard, last, previous, age⟩ := candidates j mem
      exact ⟨heard, last, previous, age⟩

/-! ### Writing a record -/

section Write
variable {s : State}

theorem Bounded.setAxle (h : Bounded s) {a : Fin 4} {x : Axle} (hx : x.Bounded) :
    Bounded (s.setAxle a x) :=
  { h with
    axles := fun b => by
      by_cases same : b = a
      · subst same
        rw [State.setAxle_get_self]
        exact hx
      · rw [State.setAxle_get_ne _ _ _ _ same]
        exact h.axles b }

theorem Bounded.putAxle (h : Bounded s) {a : Fin 4} {x : Axle} (hx : x.Bounded) :
    Bounded (putAxle a x s) :=
  h.setAxle { hx with }

theorem Bounded.setWheel (h : Bounded s) {w : Fin 8} {x : Wheel} (hx : x.Bounded) :
    Bounded (s.setWheel w x) :=
  { h with
    wheels := fun b => by
      by_cases same : b = w
      · subst same
        rw [State.setWheel_get_self]
        exact hx
      · rw [State.setWheel_get_ne _ _ _ _ same]
        exact h.wheels b }

theorem Bounded.setTyre (h : Bounded s) {p : Fin 16} {x : Tyre} (hx : x.Bounded) :
    Bounded (s.setTyre p x) :=
  { h with
    tyres := fun b => by
      by_cases same : b = p
      · subst same
        rw [State.setTyre_get_self]
        exact hx
      · rw [State.setTyre_get_ne _ _ _ _ same]
        exact h.tyres b }

theorem Bounded.putTyre (h : Bounded s) {p : Fin 16} {x : Tyre} (hx : x.Bounded) :
    Bounded (putTyre p x s) :=
  h.setTyre { hx with }

theorem Bounded.setChannel (h : Bounded s) {c : Fin 4} {x : Channel} (hx : x.Bounded) :
    Bounded (s.setChannel c x) :=
  { h with
    channels := fun b => by
      by_cases same : b = c
      · subst same
        rw [State.setChannel_get_self]
        exact hx
      · rw [State.setChannel_get_ne _ _ _ _ same]
        exact h.channels b }

theorem Bounded.arbitrate (h : Bounded s) {c : Fin 4} {x : Channel} (hx : x.Bounded) :
    Bounded (arbitrate c (s.setChannel c x)) := by
  rw [arbitrate_setChannel]
  exact h.setChannel { hx with }

theorem Bounded.setRollover (h : Bounded s) {r : Rollover} (hr : r.Bounded) :
    Bounded (s.setRollover r) := { h with rollover := hr }

theorem Bounded.report (h : Bounded s) (f : FaultId) (c : Bool) : Bounded (report f c s) :=
  { h with }

end Write

theorem Channel.Driven.bounded {x y : Channel} (h : x.Driven y) (hx : x.Bounded) : y.Bounded := by
  rw [h.static]
  exact { hx with }

theorem Axle.Lowered.bounded {x y : Axle} (h : x.Lowered y) (hx : x.Bounded) : y.Bounded := by
  rw [h.static]
  exact { hx with }

/-- The drivers and the lowering of an axle touch nothing that has a range. -/
theorem Bounded.of_liftDrove {s t : State} (h : Bounded s) (frame : LiftDrove s t) : Bounded t where
  device := by rw [frame.device]; exact h.device
  analog := by rw [frame.analog]; exact h.analog
  axles a := (frame.axles a).bounded (h.axles a)
  wheels := by rw [frame.wheels]; exact h.wheels
  tyres := by rw [frame.tyres]; exact h.tyres
  channels c := (frame.channels c).bounded (h.channels c)
  candidates := by rw [frame.supervisor]; exact h.candidates
  rollover := by rw [frame.rollover]; exact h.rollover

theorem Bounded.of_drove {s t : State} (h : Bounded s) (frame : Drove s t) : Bounded t :=
  h.of_liftDrove frame.liftDrove

theorem Bounded.settle {s : State} (h : Bounded s) : Bounded (settle s) := h.of_drove (settle_drove s)

theorem Bounded.setDeviceState {s : State} (d : DeviceState) (h : Bounded s) :
    Bounded (setDeviceState d s) := by
  have moved : Bounded { s with device := { s.device with state := d } } :=
    { h with device := { h.device with } }
  exact moved.of_liftDrove (setDeviceState_liftDrove d s)

theorem Bounded.forEach {n : Nat} {f : Fin n → State → State} (step : ∀ i s, Bounded s → Bounded (f i s))
    {s : State} (h : Bounded s) : Bounded (forEach n f s) := forEach_keeps Bounded step s h

/-! ### A scan completion -/

theorem scanInputs_bounded (r : ScanInputs) {s : State} (h : s.analog.Bounded) :
    (scanInputs r s).Bounded where
  demand := AnalogInput.next_hold_le h.demand _
  reservoir := AnalogInput.next_hold_le h.reservoir _
  delivered c := by
    simp only [scanInputs, Fin.getElem_fin, Vector.getElem_ofFn]
    split
    · exact AnalogInput.next_hold_le (h.delivered c) _
    · exact h.delivered c
  bellows a := by
    simp only [scanInputs, Fin.getElem_fin, Vector.getElem_ofFn]
    split
    · exact AnalogInput.next_hold_le (h.bellows a) _
    · exact h.bellows a

theorem publishDelivered_keeps_bounded (c : Fin 4) {s : State} (h : Bounded s) :
    Bounded (publishDelivered c s) := by
  refine keeps_ite (P := Bounded) (fun _ => (h.setChannel ?_).report _ _) fun _ => h
  exact { h.channels c with delivered := h.analog.delivered c }

theorem publishBellows_keeps_bounded (a : Fin 4) {s : State} (h : Bounded s) :
    Bounded (publishBellows a s) := by
  refine keeps_ite (P := Bounded) (fun _ => (h.putAxle ?_).report _ _) fun _ => h
  refine { h.axles a with bellowsRaw := h.analog.bellows a, frozen := ?_ }
  dsimp only
  split
  · exact (h.axles a).frozen
  · exact Nat.zero_le _

theorem publish_keeps_bounded (r : ScanInputs) {s : State} (h : Bounded s) : Bounded (publish r s) := by
  have inputs := scanInputs_bounded r h.analog
  unfold publish
  dsimp only
  refine (Bounded.forEach (fun a _ => publishBellows_keeps_bounded a) (Bounded.forEach
    (fun c _ => publishDelivered_keeps_bounded c) (((Bounded.report ?_ _ _).report _ _).report _ _))).settle
  exact { h with
    analog := inputs
    device := { h.device with
      demand := inputs.demand, reservoir := inputs.reservoir, valveSupply := supplyOfRaw_le r.supply } }

theorem Axle.Bounded.filtered {x : Axle} (h : x.Bounded) (faulty : Bool) : (x.filtered faulty).Bounded := by
  have held : x.frozen.getD x.bellowsRaw ≤ 1000 := by
    cases frozen : x.frozen with
    | none => exact h.bellowsRaw
    | some v =>
      have := h.frozen
      rw [frozen] at this
      exact this
  have input : (if faulty then some (x.frozen.getD x.bellowsRaw) else none).getD x.bellowsRaw ≤ 1000 := by
    cases faulty
    · exact h.bellowsRaw
    · exact held
  refine { h with bellowsFiltered := ?_, frozen := ?_ }
  rotate_left
  · cases faulty
    · exact Nat.zero_le _
    · exact held
  · dsimp only [Axle.filtered]
    split
    · exact input
    · exact filterStep_le h.bellowsFiltered input

theorem Axle.Bounded.weighed {x : Axle} (h : x.Bounded) : x.weighed.Bounded :=
  { h with
    load := curveLoad_le (fun p mem => (h.curve p mem).2) _
    loadFraction := loadFractionOf_le _ _ _ }

theorem loadAxle_keeps_bounded (before after : LoadUnit) (a : Fin 4) {s : State} (h : Bounded s) :
    Bounded (loadAxle before after a s) := by
  have filtered := (h.axles a).filtered (bellowsFaulty s a)
  unfold loadAxle
  split
  · dsimp only
    refine h.setAxle ?_
    split
    · exact { filtered.weighed with }
    · split
      · exact { filtered.weighed with }
      · exact { filtered with }
    · exact { filtered with }
  · exact h

theorem loadUnitScan_keeps_bounded {s : State} (h : Bounded s) : Bounded (loadUnitScan s) := by
  have state (u : LoadUnit) : Bounded { s with loadUnit := u } := { h with }
  have total (t : State) (b : Fin 4 → Bool) (ht : Bounded t) :
      Bounded { t with device := { t.device with fTot := fractionOver t b } } :=
    { ht with device := { ht.device with fTot := loadFractionOf_le _ _ _ } }
  unfold loadUnitScan
  refine Bounded.forEach (fun c t ht => ?_) (total _ _ (Bounded.forEach
    (fun a _ => loadAxle_keeps_bounded _ _ a) (state _)))
  refine keeps_ite (P := Bounded) (fun _ => ht.setChannel ?_) fun _ => ht
  exact { ht.channels c with handFraction := loadFractionOf_le _ _ _ }

theorem liftScan_keeps_bounded {s : State} (h : Bounded s) : Bounded (liftScan s) := by
  have lift (t : State) (l : LiftController) (ht : Bounded t) : Bounded { t with lift := l } := { ht with }
  have put (t : State) (a : Fin 4) (l : LiftState) (ht : Bounded t) :
      Bounded (Machine.putAxle a { t.axles[a] with liftState := l } t) := ht.putAxle { ht.axles a with }
  have reported := h.report .lift false
  cases found : liftAxle s with
  | none =>
    rw [liftScan_of_none found]
    exact lift _ _ reported
  | some a =>
    rw [liftScan_of_some found]
    have counted : Bounded (liftCounted a (Machine.report .lift false s)) := by
      unfold liftCounted
      refine lift _ _ ?_
      split
      · exact lift _ _ (put _ a .down reported)
      · exact reported
    generalize liftCounted a (Machine.report .lift false s) = t at counted
    have lowers := counted.of_liftDrove (startLowering_liftDrove a t)
    unfold liftMove
    split
    case h_1 =>
      exact keeps_ite (P := Bounded) (fun _ => (lift _ _ (put t a .raising counted)).of_liftDrove
        (requestLift_liftDrove true _)) fun _ => counted
    case h_2 =>
      exact keeps_ite (P := Bounded) (fun _ => lowers) fun _ =>
        keeps_ite (P := Bounded) (fun _ => lift _ _ (put t a .up counted)) fun _ => counted
    case h_3 =>
      refine keeps_ite (P := Bounded) (fun _ => ?_) fun _ => counted
      exact keeps_ite (P := Bounded) (fun _ => lowers.setAxle { lowers.axles a with }) fun _ => lowers
    case h_4 | h_5 => exact counted

theorem Channel.Bounded.targeted {x : Channel} (h : x.Bounded) (demand : Nat) (braking : Bool) :
    (x.targeted demand braking).Bounded := by
  refine { h with fraction := h.handFraction, gain := ?_, target := ?_ }
  · dsimp only [Channel.targeted]
    split
    · exact gainOf_within h.gEmpty h.gLaden h.handFraction
    · exact h.gEmpty
  · dsimp only [Channel.targeted]
    split
    · exact (targetOf_le _ _ _).trans h.pLim.2
    · exact Nat.zero_le _

theorem Channel.Bounded.antiLockOff {x : Channel} (h : x.Bounded) : x.antiLockOff.Bounded :=
  { h with cap := Nat.zero_le _ }

theorem valveDriverScan_keeps_bounded (low : BitVec 13) {s : State} (h : Bounded s) :
    Bounded (valveDriverScan low s) := by
  have sampled : Bounded { s with
      outputs := Vector.ofFn fun o => s.outputs[o].sampled (low.getLsbD o.val) } := { h with }
  unfold valveDriverScan
  refine (Bounded.forEach (fun o t ht => ?_) (Bounded.forEach (fun o t ht => ht.report _ _) sampled)).settle
  exact keeps_ite (P := Bounded) (fun _ => ht.report _ _) fun _ => ht

theorem takeScan_keeps_bounded (r : ScanInputs) (before : Bool) (agent : ScanAgent) (s : State)
    (h : Bounded s) : Bounded (takeScan r before agent s) := by
  cases agent with
  | loadUnit => exact loadUnitScan_keeps_bounded h
  | liftController => exact liftScan_keeps_bounded h
  | pressureTarget =>
    refine Bounded.forEach (fun c t ht => ?_) h
    exact keeps_ite (P := Bounded) (fun _ => ht.arbitrate ((ht.channels c).targeted _ _)) fun _ => ht
  | channel c => exact h.of_drove (channelScan_drove c s)
  | valveDriver => exact valveDriverScan_keeps_bounded _ h
  | antiLock =>
    refine Bounded.forEach (fun c t ht => ?_) h
    refine keeps_ite (P := Bounded) (fun _ => keeps_ite (P := Bounded) (fun _ => ht.setChannel ?_)
      fun _ => keeps_ite (P := Bounded) (fun _ => ht.arbitrate (ht.channels c).antiLockOff)
        fun _ => ht) fun _ => ht
    exact { ht.channels c with releaseCount := Nat.zero_le _ }
  | operatingState => exact keeps_ite (P := Bounded) (fun _ => h.setDeviceState _) fun _ => h

theorem scanCompletion_keeps_bounded (r : ScanInputs) (order : List ScanAgent) {s : State}
    (h : Bounded s) : Bounded (scanCompletion r order s) :=
  foldl_takeScan_keeps (takeScan_keeps_bounded r _) _ (publish_keeps_bounded r h)

end Sys2Proof.Machine
end

section
/-! Proofs that a sample set, the tyres' events, the resets and the requests keep every setting and field
within its range. -/

namespace Sys2Proof.Machine

/-! ### A sample set -/

theorem Wheel.Bounded.close {x : Wheel} (h : x.Bounded) (now : Stamp)
    (lineOpen down suspect speedMasked : Bool) (reference : Nat) :
    (x.close now lineOpen down suspect speedMasked reference).Bounded :=
  { h with speed := windowSpeed_le x now }

theorem Wheel.Bounded.judged {x : Wheel} (h : x.Bounded) (v slipRel : Nat) :
    (x.judged v slipRel).Bounded := by
  have decel := decelerationOf_within x.previousSpeed x.speed
  unfold Wheel.judged
  dsimp only
  split
  · exact { h with slip := slipOf_le v x.speed, deceleration := decel }
  · exact { h with slip := Nat.zero_le _, deceleration := decel }

theorem candidateSpeed_le {s : State} (h : ∀ w : Fin 8, s.wheels[w].speed ≤ 6000) {v : Nat}
    (found : candidateSpeed s = some v) : v ≤ 6000 := by
  obtain ⟨w, -, rfl⟩ := List.mem_map.mp (List.max?_mem found)
  exact h w

theorem windowEnd_keeps_bounded (now : Stamp) (lines : BitVec 8) {s : State} (h : Bounded s) :
    Bounded (windowEnd now lines s) := by
  have closed : Bounded (closeWindows lines
      { s with capture := { s.capture with timestamp := now } }) :=
    { h with
      wheels := fun w => by
        simp only [closeWindows, Fin.getElem_fin, Vector.getElem_ofFn]
        split
        · exact (h.wheels w).close _ _ _ _ _ _
        · exact h.wheels w }
  unfold windowEnd
  refine Bounded.forEach (fun w t ht => ?_) ?_
  · exact keeps_ite (P := Bounded) (fun _ => ht.report _ _) fun _ => ht
  · exact { closed with
      device := { closed.device with
        referenceSpeed := Reference.next_speed_le closed.device.referenceSpeed
          fun v found => candidateSpeed_le (fun w => (closed.wheels w).speed) found } }

section Step
variable {x : Channel}

theorem Channel.Bounded.enterFollow (h : x.Bounded) : x.enterFollow.Bounded :=
  { h with cap := Nat.zero_le _ }

theorem Channel.Bounded.enterRelease (h : x.Bounded) : x.enterRelease.Bounded :=
  { h with cap := Nat.zero_le _, releaseCount := Nat.min_le_left _ _ }

theorem Channel.Bounded.enterHold (h : x.Bounded) : x.enterHold.Bounded :=
  { h with cap := h.delivered }

theorem Channel.Bounded.enterReapply (h : x.Bounded) : x.enterReapply.Bounded :=
  iteInduction (motive := Channel.Bounded) (fun _ => h.enterFollow) fun _ => { h with }

theorem Channel.Bounded.stepCap (h : x.Bounded) : x.stepCap.Bounded :=
  iteInduction (motive := Channel.Bounded) (fun _ => h.enterFollow)
    fun _ => { h with cap := Nat.min_le_left _ _ }

theorem Channel.Bounded.antiLockStep (h : x.Bounded) (runs release settled : Bool) :
    (x.antiLockStep runs release settled).Bounded := by
  unfold Channel.antiLockStep
  split
  case isFalse => exact h.antiLockOff
  split
  case h_1 =>
    exact iteInduction (motive := Channel.Bounded) (fun _ => h.enterFollow.enterRelease) fun _ => h.enterFollow
  case h_2 => exact iteInduction (motive := Channel.Bounded) (fun _ => h.enterRelease) fun _ => h
  case h_3 =>
    exact iteInduction (motive := Channel.Bounded) (fun _ => { h with cap := Nat.zero_le _ })
      fun _ => h.enterHold
  case h_4 =>
    exact iteInduction (motive := Channel.Bounded) (fun _ => h.enterRelease) fun _ =>
      iteInduction (motive := Channel.Bounded) (fun _ => h.enterReapply) fun _ => h
  case h_5 =>
    exact iteInduction (motive := Channel.Bounded) (fun _ => h.enterRelease) fun _ =>
      iteInduction (motive := Channel.Bounded) (fun _ => h.enterFollow) fun _ => h

end Step

theorem antiLockSample_keeps_bounded {s : State} (h : Bounded s) : Bounded (antiLockSample s) := by
  have judged : Bounded (judgeWheels s) :=
    { h with
      wheels := fun w => by
        rw [judgeWheels_wheel]
        split
        · exact (h.wheels w).judged _ _
        · exact h.wheels w }
  refine Bounded.forEach (fun c t ht => ?_) judged
  exact keeps_ite (P := Bounded) (fun _ => ht.arbitrate ((ht.channels c).antiLockStep _ _ _)) fun _ => ht

/-! ### The Rollover Monitor -/

theorem zero_within : -2000 ≤ (0 : Int) ∧ (0 : Int) ≤ 2000 := by decide

section Monitor
variable {s : State}

theorem Bounded.handRequest (h : Bounded s) {v : Nat} (le : v ≤ 700) (c : Fin 4) :
    Bounded (handRequest v c s) := by
  refine keeps_ite (P := Bounded) (fun _ => h.arbitrate ?_) fun _ => h
  exact { h.channels c with rolloverRequest := le }

theorem Bounded.handAll (h : Bounded s) {v : Nat} (le : v ≤ 700) : Bounded (handAll v s) := by
  refine Bounded.forEach (fun c t ht => ht.handRequest le c) (h.setRollover ?_)
  exact { h.rollover with level := le }

theorem Bounded.raiseRollover (h : Bounded s) : Bounded (raiseRollover s) := { h with }

theorem Bounded.endTest (h : Bounded s) (result : TestResult) : Bounded (endTest result s) := by
  refine keeps_ite (P := Bounded) (fun _ => h.setRollover ?_) fun _ => h
  exact { h.rollover with }

theorem Bounded.withdraw (h : Bounded s) (next : RolloverState) : Bounded (withdraw next s) := by
  have ended := h.endTest .noResult
  refine Bounded.handAll (ended.setRollover ?_) (Nat.zero_le _)
  exact { ended.rollover with raw := zero_within }

theorem Bounded.enterOff (h : Bounded s) : Bounded (enterOff s) :=
  keeps_ite (P := Bounded) (fun _ => h) fun _ => keeps_ite (P := Bounded)
    (fun _ => (h.withdraw _).raiseRollover) fun _ => h.withdraw _

theorem Bounded.enterDegraded (h : Bounded s) : Bounded (enterDegraded s) :=
  (h.withdraw _).raiseRollover

theorem Bounded.enterMonitor (h : Bounded s) : Bounded (enterMonitor s) := by
  have entered : Bounded (s.setRollover { s.rollover with state := .monitor, filtered := 0 }) := by
    refine h.setRollover ?_
    exact { h.rollover with filtered := zero_within }
  exact keeps_ite (P := Bounded) (fun _ => entered.raiseRollover) fun _ => entered

theorem Bounded.applyOffAndDegraded (h : Bounded s) (degraded : Bool) :
    Bounded (applyOffAndDegraded degraded s) := by
  unfold Machine.applyOffAndDegraded
  split
  · exact h.enterOff
  split
  case h_1 => exact keeps_ite (P := Bounded) (fun _ => h.enterDegraded) fun _ => h.enterMonitor
  case h_2 => exact keeps_ite (P := Bounded) (fun _ => h) fun _ => h.enterMonitor
  case h_3 | h_4 | h_5 => exact keeps_ite (P := Bounded) (fun _ => h.enterDegraded) fun _ => h
  case h_6 | h_7 => exact h

theorem thresholdNow_le (h : Bounded s) (filtered : Int) : thresholdNow s filtered ≤ 800 := by
  have whole := thresholdOf_le h.rollover.aEmpty.2 h.rollover.aLaden.2 h.device.fTot
  unfold thresholdNow
  dsimp only
  split
  · exact whole
  · split
    · exact (thresholdCut_le _).trans whole
    · exact whole

theorem rawNow_within {x : Int} (h : rawNow s = some x) : -2000 ≤ x ∧ x ≤ 2000 := by
  unfold rawNow at h
  split at h
  · cases h
  · split at h
    · cases h
      exact lateralRaw_within _ _ _ _
    · cases h

theorem Bounded.estimate (h : Bounded s) : Bounded (estimate s) := by
  have threshold (f : Int) := thresholdNow_le h f
  refine h.setRollover { h.rollover with
    threshold := threshold _, alertLevel := alertOf_le (threshold _), raw := ?_, filtered := ?_ }
  · dsimp only
    cases raw : rawNow s with
    | none => decide
    | some x => exact rawNow_within raw
  · dsimp only
    split
    · next x raw => exact lateralFilter_within h.rollover.filtered (rawNow_within raw)
    · exact h.rollover.filtered

theorem Bounded.enterIntervene (h : Bounded s) : Bounded (enterIntervene s) := by
  refine Bounded.raiseRollover (Bounded.handAll (h.setRollover ?_) h.rollover.pRoll.2)
  exact { h.rollover with interventions := Nat.min_le_left _ _ }

theorem testRequest_le (h : Bounded s) (inner : Option Side) (c : Fin 4) :
    testRequest s inner c ≤ 700 := by
  have pTest := h.rollover.pTest.2
  unfold testRequest
  split
  · exact Nat.zero_le _
  · split <;> omega

theorem Bounded.enterTest (h : Bounded s) : Bounded (enterTest s) := by
  unfold Machine.enterTest
  refine Bounded.forEach (fun c t ht => ht.handRequest ?_ c) (h.setRollover ?_)
  · exact testRequest_le ht _ c
  · exact { h.rollover with
      level := h.rollover.pTest.2.trans (by decide), tests := Nat.min_le_left _ _ }

theorem Bounded.enterRecover (h : Bounded s) : Bounded (enterRecover s) :=
  h.setRollover { h.rollover with }

theorem Bounded.alertRule (h : Bounded s) : Bounded (alertRule s) := by
  have calm : Bounded (s.setRollover { s.rollover with state := .monitor }) :=
    h.setRollover { h.rollover with }
  exact keeps_ite (P := Bounded) (fun _ => h.enterIntervene) fun _ =>
    keeps_ite (P := Bounded) (fun _ => calm) fun _ =>
      keeps_ite (P := Bounded) (fun _ => h.enterTest) fun _ => h

theorem Bounded.forceLowering (h : Bounded s) : Bounded (forceLowering s) :=
  h.of_liftDrove (forceLowering_liftDrove s)

theorem Bounded.monitorRule (h : Bounded s) : Bounded (monitorRule s) := by
  have alerted : Bounded (s.setRollover { s.rollover with state := .alert }) :=
    h.setRollover { h.rollover with }
  exact keeps_ite (P := Bounded) (fun _ => h.forceLowering.enterIntervene) fun _ =>
    keeps_ite (P := Bounded) (fun _ => alerted.forceLowering.alertRule) fun _ => h

theorem Bounded.testRule (h : Bounded s) : Bounded (testRule s) :=
  keeps_ite (P := Bounded) (fun _ => (h.endTest _).enterIntervene) fun _ =>
    keeps_ite (P := Bounded) (fun _ => (h.endTest _).enterIntervene) fun _ => h

theorem Bounded.interveneRule (h : Bounded s) (degraded : Bool) :
    Bounded (interveneRule degraded s) := by
  have calmed : Bounded (s.setRollover { s.rollover with calm := s.rollover.calmAfter }) :=
    h.setRollover { h.rollover with }
  exact keeps_ite (P := Bounded) (fun _ => calmed.enterRecover) fun _ =>
    keeps_ite (P := Bounded) (fun _ => calmed.enterRecover) fun _ =>
      keeps_ite (P := Bounded) (fun _ => calmed.enterRecover) fun _ => calmed

theorem Bounded.recoverRule (h : Bounded s) (degraded : Bool) : Bounded (recoverRule degraded s) :=
  keeps_ite (P := Bounded) (fun _ => h.enterIntervene) fun _ => h

theorem Bounded.rolloverSample (h : Bounded s) : Bounded (rolloverSample s) := by
  have noted : Bounded (s.setRollover { s.rollover with degradedSeen := degradedCondition s }) :=
    h.setRollover { h.rollover with }
  have staged := noted.applyOffAndDegraded (degradedCondition s)
  unfold Machine.rolloverSample
  dsimp only
  split
  case h_1 | h_2 => exact staged
  case h_3 => exact staged.estimate.monitorRule
  case h_4 => exact staged.estimate.alertRule
  case h_5 => exact staged.estimate.testRule
  case h_6 => exact staged.estimate.interveneRule _
  case h_7 => exact staged.estimate.recoverRule _

theorem Bounded.sampleSet (h : Bounded s) (now : Stamp) (lines : BitVec 8) (first : Bool) :
    Bounded (sampleSet now lines first s) := by
  have closed := windowEnd_keeps_bounded now lines h
  cases first with
  | true =>
    rw [sampleSet_antiLock_first]
    exact (antiLockSample_keeps_bounded closed).rolloverSample
  | false =>
    rw [sampleSet_antiLock_last]
    exact antiLockSample_keeps_bounded closed.rolloverSample

theorem Bounded.testTimerExpired (h : Bounded s) : Bounded (testTimerExpired s) := by
  have ended := h.endTest .noLift
  refine keeps_ite (P := Bounded) (fun _ => Bounded.handAll (ended.setRollover ?_) (Nat.zero_le _))
    fun _ => h.setRollover ?_
  · exact { ended.rollover with }
  · exact { h.rollover with }

theorem Bounded.leaveRecover (h : Bounded s) : Bounded (leaveRecover s) := by
  refine keeps_ite (P := Bounded) (fun _ => h.enterOff) fun _ =>
    keeps_ite (P := Bounded) (fun _ => h.enterDegraded) fun _ => h.setRollover ?_
  exact { h.rollover with }

theorem Bounded.rampStepExpired (h : Bounded s) : Bounded (rampStepExpired s) := by
  have stepped := h.handAll (v := s.rollover.level - 50) (by have := h.rollover.level; omega)
  have timed (t : Timer) : Bounded ((Machine.handAll (s.rollover.level - 50) s).setRollover
      { (Machine.handAll (s.rollover.level - 50) s).rollover with rampTimer := t }) :=
    stepped.setRollover { stepped.rollover with }
  refine keeps_ite (P := Bounded) (fun _ => keeps_ite (P := Bounded) (fun _ => timed _)
    fun _ => (timed none).leaveRecover) fun _ => h.setRollover ?_
  exact { h.rollover with }

end Monitor

/-! ### The tyres -/

theorem Tyre.Bounded.update {x : Tyre} (h : x.Bounded) {a : Arrival} (ha : a.Bounded) :
    (x.update a).Bounded :=
  { h with
    lastGauge := ha.gauge_le, lastTemperature := ha.celsius_within, p20 := ha.p20_le
    age := Nat.zero_le _ }

theorem noTemperature_within : -50 ≤ (none : Option Int).getD 0 ∧ (none : Option Int).getD 0 ≤ 150 := by
  decide

theorem Tyre.Bounded.paired {x : Tyre} (h : x.Bounded) (id : SensorId) : (x.paired id).Bounded :=
  { h with
    lastGauge := Nat.zero_le _, lastTemperature := noTemperature_within, p20 := Nat.zero_le _
    age := Nat.zero_le _ }

theorem Tyre.Bounded.unpaired {x : Tyre} (h : x.Bounded) : x.unpaired.Bounded :=
  { h with
    lastGauge := Nat.zero_le _, lastTemperature := noTemperature_within, p20 := Nat.zero_le _
    age := Nat.zero_le _ }

theorem freshTyre_bounded (present : Bool) : (freshTyre present).Bounded := by
  constructor <;> simp [freshTyre, Within]

section Tyres
variable {s : State}

theorem Bounded.setCandidates (h : Bounded s) {l : List Candidate} (hl : ∀ k ∈ l, k.Bounded) :
    Bounded (s.setCandidates l) := { h with candidates := hl }

theorem Bounded.removeCandidate (h : Bounded s) (id : SensorId) : Bounded (removeCandidate id s) :=
  h.setCandidates fun k mem => h.candidates k (List.mem_of_mem_filter mem)

theorem Candidate.Bounded.heardAgain {k : Candidate} (h : k.Bounded) {a : Arrival} (ha : a.Bounded) :
    (k.heardAgain a).Bounded where
  heard := by
    have := h.heard
    simp only [Within, Candidate.heardAgain] at *
    omega
  lastGauge := ha.gauge_le
  previousGauge := h.lastGauge
  age := Nat.zero_le _

theorem Bounded.listCandidate (h : Bounded s) {a : Arrival} (ha : a.Bounded) :
    Bounded (listCandidate a s) := by
  refine keeps_ite (P := Bounded) (fun _ => h.setCandidates fun k mem => ?_) fun _ => ?_
  · obtain ⟨x, listed, rfl⟩ := List.mem_map.mp mem
    exact iteInduction (motive := Candidate.Bounded) (fun _ => (h.candidates x listed).heardAgain ha)
      fun _ => h.candidates x listed
  · have added := h.setCandidates
      (l := (if 8 ≤ s.supervisor.candidates.length then s.supervisor.candidates.drop 1
        else s.supervisor.candidates) ++ [a.candidate]) fun k mem => by
      obtain kept | new := List.mem_append.mp mem
      · split at kept
        · exact h.candidates k (List.mem_of_mem_drop kept)
        · exact h.candidates k kept
      · rw [List.mem_singleton.mp new]
        exact ⟨⟨Nat.le_refl 1, Nat.one_le_ofNat⟩, ha.gauge_le, Nat.zero_le _, Nat.zero_le _⟩
    exact { added with }

theorem Bounded.takeArrival (h : Bounded s) {a : Arrival} (ha : a.Bounded) :
    Bounded (takeArrival a s) := by
  have listed := h.listCandidate ha
  unfold Machine.takeArrival
  split
  · next p _ => exact h.putTyre { (h.tyres p).update ha with }
  split
  · next p _ =>
    refine keeps_ite (P := Bounded) (fun _ => Bounded.removeCandidate (h.putTyre ?_) _) fun _ => listed
    exact { ((h.tyres p).paired a.id).update ha with }
  · exact listed

theorem Bounded.takeTelegram (h : Bounded s) {bytes : List Byte} {time : Nat} :
    Bounded (takeTelegram (judgeTelegram bytes time) s) := by
  unfold Machine.takeTelegram
  split
  · exact { h with device := { h.device with checkDiscards := bump_le _ } }
  · exact { h with device := { h.device with rangeDiscards := bump_le _ } }
  · next a judged =>
    have counted : Bounded { s with device := { s.device with
        telegramsAccepted := bump s.device.telegramsAccepted } } :=
      { h with device := { h.device with telegramsAccepted := bump_le _ } }
    exact counted.takeArrival (judgeTelegram_bounded judged)

theorem Bounded.setReceiver (h : Bounded s) (r : Receiver) : Bounded (s.setReceiver r) := { h with }

theorem Bounded.assemble (h : Bounded s) (b : Option Byte) : Bounded (assemble b s) := by
  unfold Machine.assemble
  split
  · exact h.setReceiver _
  · exact keeps_ite (P := Bounded)
      (fun _ => keeps_ite (P := Bounded) (fun _ => h.setReceiver _) fun _ => h)
      fun _ => keeps_ite (P := Bounded) (fun _ => h.setReceiver _)
        fun _ => (h.setReceiver _).takeTelegram

theorem Device.Bounded.countCharacter {d : Device} (h : d.Bounded) (o : CharacterOutcome) :
    (d.countCharacter o).Bounded := by
  cases o with
  | breakError => exact { h with breakErrors := bump_le _ }
  | framingError => exact { h with framingErrors := bump_le _ }
  | parityError => exact { h with parityErrors := bump_le _ }
  | good b => exact h

theorem ageCandidates_bounded {l : List Candidate} (h : ∀ k ∈ l, k.Bounded) :
    ∀ k ∈ ageCandidates l, k.Bounded := fun k mem => by
  obtain ⟨aged, young⟩ := List.mem_filter.mp mem
  obtain ⟨x, listed, rfl⟩ := List.mem_map.mp aged
  have young : x.age + 1 < 300 := of_decide_eq_true young
  exact { h x listed with age := Nat.lt_succ_iff.mp young }

theorem Tyre.Bounded.aged {x : Tyre} (h : x.Bounded) (timeout : Nat) : (x.aged timeout).Bounded := by
  refine { h with age := ?_ }
  dsimp only [Tyre.aged]
  split
  · exact Nat.min_le_left _ _
  · exact h.age

theorem Bounded.agingExpired (h : Bounded s) :
    Bounded (Machine.forEach 16 ageTyre (s.setCandidates (ageCandidates s.supervisor.candidates))) := by
  refine Bounded.forEach (fun p t ht => ?_) (h.setCandidates (ageCandidates_bounded h.candidates))
  exact keeps_ite (P := Bounded)
    (fun _ => ht.putTyre { (ht.tyres p).aged t.device.missingTimeout with }) fun _ => ht

theorem Bounded.endLearning (h : Bounded s) (p : Fin 16) (result : LearnResult) :
    Bounded (endLearning p result s) := h.putTyre { h.tyres p with }

/-! ### The resets -/

theorem freshAxle_bounded (present : Bool) : (freshAxle present).Bounded := by
  constructor <;> simp [freshAxle, Within]

theorem freshWheel_bounded (present : Bool) (c : Fin 4) : (freshWheel present c).Bounded := by
  constructor <;> simp [freshWheel, Within]

theorem freshChannel_bounded (present : Bool) (side : ChannelSide) (first last : Fin 4) :
    (freshChannel present side first last).Bounded := by
  constructor <;> simp [freshChannel, Within]

theorem freshRollover_bounded : freshRollover.Bounded := by
  constructor <;> simp [freshRollover, Within]

theorem freshDevice_bounded (layout : BitVec 2) (supplyFail resetLow failsafe : Bool) :
    (freshDevice layout supplyFail resetLow failsafe).Bounded := by
  constructor <;> simp [freshDevice, Within]

theorem freshAnalog_bounded : freshAnalog.Bounded := by
  refine ⟨Nat.zero_le _, Nat.zero_le _, fun c => ?_, fun a => ?_⟩ <;> simp [freshAnalog, freshInput]

theorem beginFullReset_bounded (s : State) : Bounded (beginFullReset s) where
  device := freshDevice_bounded _ _ _ _
  analog := freshAnalog_bounded
  axles a := by simpa [beginFullReset, freshAxles] using freshAxle_bounded _
  wheels w := by simpa [beginFullReset, freshWheels] using freshWheel_bounded _ _
  tyres p := by simpa [beginFullReset, freshTyres] using freshTyre_bounded _
  channels c := by simpa [beginFullReset, freshChannels] using freshChannel_bounded _ _ _ _
  candidates k mem := by cases mem
  rollover := freshRollover_bounded

theorem sampleLayout_keeps_bounded (straps : BitVec 2) (h : Bounded s) :
    Bounded (sampleLayout straps s) where
  device := { h.device with }
  analog := h.analog
  axles a := by simpa [sampleLayout, freshAxles] using freshAxle_bounded _
  wheels w := by simpa [sampleLayout, freshWheels] using freshWheel_bounded _ _
  tyres p := by simpa [sampleLayout, freshTyres] using freshTyre_bounded _
  channels c := by
    have fresh := freshChannel_bounded (channelExists straps c) (channelSide straps c)
      (groupFirst straps c) (groupLast straps c)
    have gap : ({ freshChannel (channelExists straps c) (channelSide straps c) (groupFirst straps c)
        (groupLast straps c) with gapTimer := s.channels[c].gapTimer } : Channel).Bounded :=
      { fresh with }
    simpa [sampleLayout] using gap
  candidates := h.candidates
  rollover := h.rollover

theorem startInit_keeps_bounded (h : Bounded s) : Bounded (startInit s) :=
  { h with device := { h.device with }, analog := { h.analog with } }

theorem endFullReset_keeps_bounded (straps : BitVec 2) (h : Bounded s) : Bounded (endFullReset straps s) :=
  keeps_ite (P := Bounded) (fun _ => h)
    fun _ => startInit_keeps_bounded (sampleLayout_keeps_bounded straps h)

theorem Device.Bounded.restart {d : Device} (h : d.Bounded) : d.restart.Bounded := by
  have fresh := freshDevice_bounded d.layout d.supplyFail d.resetLow d.failsafe
  exact { fresh with
    dMin := h.dMin, supplyOn := h.supplyOn, changeoverGap := h.changeoverGap
    blankingTime := h.blankingTime, slipRel := h.slipRel, divisor := h.divisor
    missingTimeout := h.missingTimeout, faultMask := h.faultMask }

theorem Axle.Bounded.restart {x : Axle} (h : x.Bounded) : x.restart.Bounded := by
  have fresh := freshAxle_bounded true
  exact iteInduction (motive := Axle.Bounded) (fun _ => { fresh with
    l0 := h.l0, l1 := h.l1, trackWidth := h.trackWidth, fRaise := h.fRaise, fLower := h.fLower
    bUp := h.bUp, bDown := h.bDown, points := h.points, curve := h.curve }) fun _ => h

theorem Wheel.Bounded.restart {x : Wheel} (h : x.Bounded) : x.restart.Bounded := by
  have fresh := freshWheel_bounded true x.channel
  exact iteInduction (motive := Wheel.Bounded) (fun _ => { fresh with
    teeth := h.teeth, circumference := h.circumference }) fun _ => h

theorem Tyre.Bounded.restart {x : Tyre} (h : x.Bounded) : x.restart.Bounded := by
  have fresh := freshTyre_bounded true
  unfold Tyre.restart
  split
  · split <;> exact { fresh with nominal := h.nominal }
  · exact { h with }

theorem Channel.Bounded.restart {x : Channel} (h : x.Bounded) (gap : Nat) : (x.restart gap).Bounded := by
  have fresh := freshChannel_bounded true x.side x.groupFirst x.groupLast
  exact iteInduction (motive := Channel.Bounded) (fun _ => { fresh with
    gEmpty := h.gEmpty, gLaden := h.gLaden, pLim := h.pLim, gain := h.gEmpty, band := h.band })
    fun _ => h

theorem Rollover.Bounded.restart {r : Rollover} (h : r.Bounded) : r.restart.Bounded :=
  { freshRollover_bounded with
    threshold := h.aEmpty.2, alertLevel := alertOf_le h.aEmpty.2, pTest := h.pTest, pRoll := h.pRoll
    aEmpty := h.aEmpty, aLaden := h.aLaden, slipLift := h.slipLift, interventions := h.interventions
    tests := h.tests }

theorem restart_keeps_bounded (h : Bounded s) : Bounded (restart s) := by
  refine startInit_keeps_bounded ⟨h.device.restart, freshAnalog_bounded, fun a => ?_, fun w => ?_,
    fun p => ?_, fun c => ?_, fun k mem => ?_,
    h.rollover.restart⟩
  · simpa using (h.axles a).restart
  · simpa using (h.wheels w).restart
  · simpa using (h.tyres p).restart
  · simpa using (h.channels c).restart _
  · cases mem

end Tyres

end Sys2Proof.Machine
end

section
/-! Proofs that an admitted setting is within its range, and that every command keeps every range. -/

namespace Sys2Proof.Machine

/-! ### AMEND -/

/-- R11 steps 3, 5 and 7: a value that the domain of a record's field accepted. -/
def Accepted (s : State) (r : RecordId) (n v : Nat) : Prop :=
  ∃ x w clamped, settingOf s r n = some x ∧ x.domain.accept w = some (v, clamped)

theorem Admitted.accepted {r : RecordId} {field value : Word} {v : Nat} {s : State}
    (h : Admitted r field value v s) : Accepted s r field.toNat v := by
  obtain ⟨x, clamped, known, -, accept⟩ := h.setting
  exact ⟨x, _, clamped, known, accept⟩

/-- R12: a numeric setting is stored clamped into its range. -/
theorem Accepted.within {s : State} {r : RecordId} {n v lo hi : Nat} {b : Bool} (h : Accepted s r n v)
    (known : settingOf s r n = some ⟨b, .range lo hi⟩) (order : lo ≤ hi) : Within lo hi v := by
  obtain ⟨x, w, clamped, found, accept⟩ := h
  rw [known] at found
  cases found
  cases accept
  exact clampNat_within order w

theorem Accepted.points {s : State} {a : Fin 4} {v : Nat} (h : Accepted s (.axle a) 10 v) :
    Within 2 6 v := by
  obtain ⟨x, w, clamped, found, accept⟩ := h
  cases found
  simp only [Domain.accept] at accept
  split at accept
  · next range =>
    cases accept
    exact range
  · cases accept

theorem Accepted.mask {s : State} {v : Nat} (h : Accepted s .device 4 v) :
    BitVec.ofNat 16 v &&& 0xF202 = 0 := by
  obtain ⟨x, w, clamped, found, accept⟩ := h
  cases found
  simp only [Domain.accept] at accept
  split at accept
  · next free =>
    cases accept
    exact free
  · cases accept

/-- R13: a curve point's coordinate. -/
theorem settingOf_point {s : State} {a : Fin 4} {n : Nat}
    (other : n ∉ [1, 2, 8, 9, 10, 11, 15, 28, 29, 30, 31]) :
    settingOf s (.axle a) n =
      if 16 ≤ n ∧ n < 28 ∧ (n - 16) / 2 < s.axles[a].curve.length then
        some ⟨true, if n % 2 = 0 then .range 0 1000 else .range 0 2000⟩
      else none := by
  unfold settingOf
  dsimp only
  split <;> simp_all

theorem Accepted.coordinate {s : State} {a : Fin 4} {n v : Nat} (h : Accepted s (.axle a) n v)
    (other : n ∉ [1, 2, 8, 9, 10, 11, 15, 28, 29, 30, 31]) :
    if n % 2 = 0 then v ≤ 1000 else v ≤ 2000 := by
  have known := settingOf_point (s := s) (a := a) other
  obtain ⟨x, w, clamped, found, accept⟩ := id h
  rw [known] at found
  split at found
  · next point =>
    rw [if_pos point] at known
    split
    · next even =>
      rw [if_pos even] at known
      exact (h.within known (by decide)).2
    · next odd =>
      rw [if_neg odd] at known
      exact (h.within known (by decide)).2
  · cases found

theorem resizeCurve_length (l : List CurvePoint) (n : Nat) : (resizeCurve l n).length = n := by
  simp only [resizeCurve, List.length_append, List.length_take, List.length_replicate]
  omega

/-- R13: the points of a curve of another length are points of the curve. -/
theorem mem_resizeCurve {l : List CurvePoint} (nonempty : l ≠ []) {n : Nat} {p : CurvePoint}
    (h : p ∈ resizeCurve l n) : p ∈ l := by
  obtain kept | repeated := List.mem_append.mp h
  · exact List.mem_of_mem_take kept
  · rw [List.eq_of_mem_replicate repeated]
    cases l with
    | nil => exact absurd rfl nonempty
    | cons q rest =>
      rw [List.getLastD_cons]
      exact List.getLastD_mem_cons

theorem Axle.Bounded.resized {x : Axle} (h : x.Bounded) {n : Nat} (hn : Within 2 6 n) :
    ({ x with curve := resizeCurve x.curve n } : Axle).Bounded :=
  { h with
    points := by
      dsimp only
      rw [resizeCurve_length]
      exact hn
    curve := fun p mem => h.curve p (mem_resizeCurve (fun none => by
      have points := h.points.1
      rw [none] at points
      exact absurd points (by decide)) mem) }

theorem Axle.Bounded.modified {x : Axle} (h : x.Bounded) {k : Nat} {f : CurvePoint → CurvePoint}
    (hf : ∀ p : CurvePoint, p.bellows ≤ 1000 ∧ p.load ≤ 2000 → (f p).bellows ≤ 1000 ∧ (f p).load ≤ 2000) :
    ({ x with curve := x.curve.modify k f } : Axle).Bounded :=
  { h with
    points := by
      dsimp only
      rw [List.length_modify]
      exact h.points
    curve := fun p mem => by
      obtain ⟨i, rfl⟩ := List.mem_iff_get.mp mem
      simp only [List.get_eq_getElem, List.getElem_modify]
      have point := h.curve _ (List.getElem_mem (l := x.curve) (n := i.val)
        (by simpa using i.isLt))
      split
      · exact hf _ point
      · exact point }

theorem storePoint_keeps_bounded {a : Fin 4} {n v : Nat} {s : State} (h : Bounded s)
    (coordinate : if n % 2 = 0 then v ≤ 1000 else v ≤ 2000) : Bounded (storePoint a n v s) := by
  refine h.setAxle ((h.axles a).modified fun p point => ?_)
  split
  · next even =>
    rw [if_pos even] at coordinate
    exact ⟨coordinate, point.2⟩
  · next odd =>
    rw [if_neg odd] at coordinate
    exact ⟨point.1, coordinate⟩

theorem storeTwin_keeps_bounded (a : Fin 4) (v : Nat) {s : State} (h : Bounded s) :
    Bounded (storeTwin a v s) := by
  have stored : Bounded (s.setAxle a { s.axles[a] with twin := v == 1 }) :=
    h.setAxle { h.axles a with }
  unfold storeTwin
  dsimp only
  refine keeps_ite (P := Bounded) (fun _ => h) fun _ =>
    List.foldlRecOn (motive := Bounded) _ _ stored fun t ht p _ => ht.setTyre ?_
  split
  · exact freshTyre_bounded true
  · exact { ht.tyres p with }

theorem storeLiftable_keeps_bounded (a : Fin 4) (v : Nat) {s : State} (h : Bounded s) :
    Bounded (storeLiftable a v s) := by
  have requested {x : Axle} (l : LiftController) (hx : x.Bounded) :
      Bounded (requestLift false { putAxle a x s with lift := l }) := by
    have put := h.putAxle (a := a) hx
    exact Bounded.of_liftDrove (s := { putAxle a x s with lift := l }) { put with }
      (requestLift_liftDrove _ _)
  unfold storeLiftable
  dsimp only
  split
  · exact h
  split
  · exact requested _ { h.axles a with }
  · exact requested _ { h.axles a with }

theorem store_device_keeps_bounded {n v : Nat} {s : State} (h : Bounded s)
    (accepted : Accepted s .device n v) : Bounded (store .device n v s) := by
  unfold store
  dsimp only
  split
  case h_1 =>
    unfold storeMask
    dsimp only
    refine (Bounded.report ?_ _ _).settle
    exact { h with device := { h.device with faultMask := accepted.mask } }
  case h_2 =>
    exact { h with device := { h.device with dMin := accepted.within rfl (by decide) } }
  case h_3 =>
    exact { h with device := { h.device with supplyOn := accepted.within rfl (by decide) } }
  case h_4 =>
    refine Bounded.settle ?_
    exact { h with device := { h.device with } }
  case h_5 =>
    exact { h with device := { h.device with changeoverGap := accepted.within rfl (by decide) } }
  case h_6 =>
    exact { h with device := { h.device with blankingTime := accepted.within rfl (by decide) } }
  case h_7 =>
    exact { h with device := { h.device with slipRel := accepted.within rfl (by decide) } }
  case h_8 =>
    exact { h with device := { h.device with divisor := accepted.within rfl (by decide) } }
  case h_9 => exact { h with device := { h.device with } }
  case h_10 =>
    exact { h with device := { h.device with missingTimeout := accepted.within rfl (by decide) } }
  case h_11 => exact h

theorem store_axle_keeps_bounded {a : Fin 4} {n v : Nat} {s : State} (h : Bounded s)
    (accepted : Accepted s (.axle a) n v) : Bounded (store (.axle a) n v s) := by
  have record := h.axles a
  unfold store
  dsimp only
  split
  case h_1 => exact storeTwin_keeps_bounded a v h
  case h_2 => exact storeLiftable_keeps_bounded a v h
  case h_3 => exact h.setAxle { record with l0 := (accepted.within rfl (by decide)).2 }
  case h_4 => exact h.setAxle { record with l1 := (accepted.within rfl (by decide)).2 }
  case h_5 => exact h.setAxle (record.resized accepted.points)
  case h_6 => exact h.setAxle { record with trackWidth := accepted.within rfl (by decide) }
  case h_7 => exact h.setAxle { record with }
  case h_8 => exact h.setAxle { record with fRaise := (accepted.within rfl (by decide)).2 }
  case h_9 => exact h.setAxle { record with fLower := (accepted.within rfl (by decide)).2 }
  case h_10 => exact h.setAxle { record with bUp := accepted.within rfl (by decide) }
  case h_11 => exact h.setAxle { record with bDown := accepted.within rfl (by decide) }
  case h_12 => exact storePoint_keeps_bounded h (accepted.coordinate (by simp_all))

theorem store_keeps_bounded {r : RecordId} {n v : Nat} {s : State} (h : Bounded s)
    (accepted : Accepted s r n v) : Bounded (store r n v s) := by
  cases r with
  | device => exact store_device_keeps_bounded h accepted
  | axle a => exact store_axle_keeps_bounded h accepted
  | candidate k => exact h
  | wheel w =>
    have record := h.wheels w
    unfold store
    dsimp only
    split
    case h_1 => exact h.setWheel { record with }
    case h_2 => exact h.setWheel { record with teeth := accepted.within rfl (by decide) }
    case h_3 => exact h.setWheel { record with circumference := accepted.within rfl (by decide) }
    case h_4 => exact h
  | tyre p =>
    have record := h.tyres p
    unfold store
    dsimp only
    split
    case h_1 => exact h.setTyre { record with nominal := accepted.within rfl (by decide) }
    case h_2 => exact h
  | channel c =>
    have record := h.channels c
    unfold store
    dsimp only
    split
    case h_1 => exact h.setChannel { record with gEmpty := accepted.within rfl (by decide) }
    case h_2 => exact h.setChannel { record with gLaden := accepted.within rfl (by decide) }
    case h_3 => exact h.arbitrate { record with pLim := accepted.within rfl (by decide) }
    case h_4 => exact h.setChannel { record with band := accepted.within rfl (by decide) }
    case h_5 => exact h.setChannel { record with }
    case h_6 => exact h
  | rollover =>
    have record := h.rollover
    unfold store
    dsimp only
    split
    case h_1 => exact { h with rollover := { record with pTest := accepted.within rfl (by decide) } }
    case h_2 => exact { h with rollover := { record with pRoll := accepted.within rfl (by decide) } }
    case h_3 => exact { h with rollover := { record with aEmpty := accepted.within rfl (by decide) } }
    case h_4 => exact { h with rollover := { record with aLaden := accepted.within rfl (by decide) } }
    case h_5 => exact { h with rollover := { record with slipLift := accepted.within rfl (by decide) } }
    case h_6 => exact h

/-! ### The other requests -/

section Requests
variable {s : State}

theorem Bounded.clearLookedUp (h : Bounded s) (r : RecordId) (group : BitVec 2) :
    Bounded (clearLookedUp r group s) := by
  cases r with
  | device => exact keeps_ite (P := Bounded) (fun _ => { h with }) fun _ => h
  | axle a => exact h.setAxle { h.axles a with }
  | tyre p => exact h.setTyre { h.tyres p with }
  | wheel | channel => exact h
  | candidate | rollover => exact { h with }

theorem Bounded.setCursor (h : Bounded s) (t : TableId) (i : Nat) : Bounded (setCursor t i s) := { h with }

theorem Bounded.clearAbsent (h : Bounded s) (t : TableId) : Bounded (clearAbsent t s) := by
  cases t <;> exact { h with }

theorem Bounded.lookupOwner (h : Bounded s) (table : BitVec 3) (index : BitVec 5) (group : BitVec 2) :
    Bounded (lookupOwner table index group s).2 := by
  unfold Machine.lookupOwner
  split
  · exact h
  split
  · exact h
  split
  · exact (h.setCursor _ _).clearLookedUp _ _
  · exact (h.setCursor _ _).clearAbsent _

theorem Bounded.lookupNextOwner (h : Bounded s) (index : BitVec 5) (group : BitVec 2) :
    Bounded (lookupNextOwner index group s).2 := by
  unfold Machine.lookupNextOwner
  split
  · exact h.clearAbsent _
  · exact (h.setCursor _ _).clearLookedUp _ _

theorem Bounded.enrolOwner (h : Bounded s) (table : BitVec 3) (index : BitVec 5) (high low : Word) :
    Bounded (enrolOwner table index high low s).2 := by
  unfold Machine.enrolOwner
  split
  · exact h
  next p _ =>
    split
    · exact h
    · exact (h.putTyre ((h.tyres p).paired _)).removeCandidate _

theorem Bounded.retireOwner (h : Bounded s) (table : BitVec 3) (index : BitVec 5) :
    Bounded (retireOwner table index s).2 := by
  unfold Machine.retireOwner
  split
  · exact h
  next p _ =>
    split
    · exact h
    · exact h.endLearning p _
    · exact h.putTyre (h.tyres p).unpaired
    · exact h.putTyre (h.tyres p).unpaired

theorem Bounded.learnOwner (h : Bounded s) (table : BitVec 3) (index : BitVec 5) :
    Bounded (learnOwner table index s).2 := by
  unfold Machine.learnOwner
  split
  · exact h
  next p _ =>
    split
    · exact h.putTyre { h.tyres p with }
    · exact h

theorem Bounded.cancelLearnOwner (h : Bounded s) (index : BitVec 5) :
    Bounded (cancelLearnOwner index s).2 := by
  unfold Machine.cancelLearnOwner
  split
  · exact h
  · exact h.endLearning _ _

theorem Bounded.liftCommandOwner (h : Bounded s) (index : BitVec 5) (mode : Word) :
    Bounded (liftCommandOwner index mode s).2 := by
  unfold Machine.liftCommandOwner
  split
  · exact h
  next a _ =>
    split
    · exact h.setAxle { h.axles a with }
    · exact h

theorem Bounded.goActiveOwner (h : Bounded s) (index : BitVec 5) :
    Bounded (goActiveOwner index s).2 := by
  have entered := h.setDeviceState .active
  unfold Machine.goActiveOwner
  split
  case h_1 | h_4 => exact h
  case h_2 =>
    dsimp only
    exact entered
  case h_3 =>
    split
    · exact h
    · dsimp only
      exact entered

theorem Bounded.goStandbyOwner (h : Bounded s) (index : BitVec 5) :
    Bounded (goStandbyOwner index s).2 :=
  keeps_ite (P := Bounded) (fun _ => (h.of_drove (endExercises_drove s)).setDeviceState _) fun _ => h

theorem Bounded.ackFaultsOwner (h : Bounded s) (index : BitVec 5) :
    Bounded (ackFaultsOwner index s).2 := by
  unfold Machine.ackFaultsOwner
  dsimp only
  refine Bounded.settle ?_
  exact { h with device := { h.device with } }

theorem Bounded.setAttentionOwner (h : Bounded s) (index : BitVec 5) (enables : Word) :
    Bounded (setAttentionOwner index enables s).2 := by
  unfold Machine.setAttentionOwner
  split
  · exact h
  · exact { h with device := { h.device with } }

end Requests

/-! ### Every command -/

theorem transact_keeps_bounded {act : State → State} {s : State} (h : Bounded s)
    (op : ∀ u, Bounded u → Bounded (act u)) : Bounded (transact act s) :=
  transact_keeps (P := Bounded) (fun _ _ hu => { hu with }) h fun u _ _ => op u

theorem request_keeps_bounded {kind : BitVec 6} {owner : State → Reply × State} {s : State}
    (h : Bounded s) (op : ∀ u, Bounded u → Bounded (owner u).2) : Bounded (request kind owner s) :=
  request_keeps (P := Bounded) (fun _ _ hu => { hu with }) h fun u _ _ => op u

theorem holdTimerExpired_bounded {x : Channel} (h : x.Bounded) :
    (if x.antiLock = .hold then x.enterReapply else { x with holdTimer := none }).Bounded :=
  iteInduction (motive := Channel.Bounded) (fun _ => h.enterReapply) fun _ => { h with }

theorem stepTimerExpired_bounded {x : Channel} (h : x.Bounded) :
    (if x.antiLock = .reapply then x.stepCap else { x with stepTimer := none }).Bounded :=
  iteInduction (motive := Channel.Bounded) (fun _ => h.stepCap) fun _ => { h with }

/-- The commands of the tyres' chapters. -/
theorem exec_tyres_keep_bounded {i : Instr} {s t : State} (law : Bounded s) (tyres : ofTyres i = true)
    (h : exec i s = .next t) : Bounded t := by
  cases i
  case lineToSpacing | lineToMarking =>
    cases h
    exact keeps_ite (P := Bounded) (fun _ => law.setReceiver _) fun _ => law.setReceiver _
  case startBitTaken =>
    cases h
    exact whileRunning_keeps law fun _ => keeps_ite (fun _ => law.setReceiver _) fun _ => law
  case characterComplete data parityBit stop nowMs =>
    cases h
    refine whileRunning_keeps law fun _ => ?_
    dsimp only
    split
    · exact law
    · next format _ =>
      refine Bounded.assemble ?_ _
      exact { law with device := law.device.countCharacter _ }
  case gapTimerExpiry =>
    cases h
    exact whileRunning_keeps law fun _ => keeps_ite
      (fun _ => { law with device := { law.device with gapDiscards := bump_le _ } }) fun _ => law
  case agingExpiry =>
    cases h
    exact whileRunning_keeps law fun _ => keeps_ite (fun _ => law.agingExpired) fun _ => law
  case learnTimerExpiry =>
    cases h
    refine whileRunning_keeps law fun _ => ?_
    split
    · exact keeps_ite (P := Bounded) (fun _ => law.endLearning _ _) fun _ => law
    · exact law
  all_goals cases tyres

theorem exec_keeps_bounded (i : Instr) (s t : State) (law : Bounded s) (h : exec i s = .next t) :
    Bounded t := by
  cases i
  case lineToSpacing | lineToMarking | startBitTaken | characterComplete | gapTimerExpiry |
      agingExpiry | learnTimerExpiry => exact exec_tyres_keep_bounded law rfl h
  all_goals obtain rfl := Host.Outcome.next.inj h
  case powerOn straps => exact endFullReset_keeps_bounded straps (beginFullReset_bounded s)
  case logicSupplyLow | resetLineAssert =>
    exact keeps_ite (fun _ => law) fun _ => beginFullReset_bounded _
  case logicSupplyRestored straps =>
    refine keeps_ite (fun _ => endFullReset_keeps_bounded straps ?_) fun _ => law
    exact { law with device := { law.device with } }
  case resetLineRelease straps =>
    refine keeps_ite (fun _ => endFullReset_keeps_bounded straps ?_) fun _ => law
    exact { law with device := { law.device with } }
  case initTimerExpiry =>
    refine whileRunning_keeps law fun _ => keeps_ite (fun _ => ?_) fun _ => law
    have stopped : Bounded { s with device := { s.device with initTimer := none } } :=
      { law with device := { law.device with } }
    exact (stopped.setDeviceState .standby).of_drove (forEach_drove leaveOff_drove _)
  case failsafeAssert =>
    have asserted : Bounded { s with device := { s.device with failsafe := true } } :=
      { law with device := { law.device with } }
    exact whileRunning_keeps asserted fun _ => asserted.forceLowering.settle
  case failsafeRelease =>
    have released : Bounded { s with device := { s.device with failsafe := false } } :=
      { law with device := { law.device with } }
    exact whileRunning_keeps released fun _ => released.settle
  case scanCompletion r order =>
    exact whileRunning_keeps law fun _ =>
      keeps_ite (fun _ => scanCompletion_keeps_bounded r order law) fun _ => law
  case sampleSet now lines first =>
    exact whileRunning_keeps law fun _ => keeps_ite (fun _ => law.sampleSet now lines first) fun _ => law
  case wheelEdge w now =>
    have stamped : Bounded { s with capture := { s.capture with timestamp := now } } := { law with }
    exact whileRunning_keeps law fun _ => keeps_ite
      (fun _ => stamped.setWheel { stamped.wheels w with }) fun _ => stamped
  case shortCircuitTrip o =>
    exact whileRunning_keeps law fun _ => keeps_ite
      (fun _ => ((law.of_drove (deenergise_drove o s)).report _ _).settle) fun _ => law
  case changeoverGapExpiry c =>
    refine keeps_ite (fun _ => Bounded.of_drove (law.setChannel ?_) (serves_drove c _)) fun _ => law
    exact { law.channels c with }
  case blankingTimerExpiry o =>
    exact whileRunning_keeps law fun _ => keeps_ite (fun _ => { law with }) fun _ => law
  case raiseTimerExpiry =>
    refine whileRunning_keeps law fun _ => keeps_ite (fun _ => ?_) fun _ => law
    have stopped : Bounded { s with lift := { s.lift with raiseTimer := none } } := { law with }
    dsimp only
    split
    · exact stopped
    · exact keeps_ite (P := Bounded) (fun _ => (stopped.of_liftDrove
        (startLowering_liftDrove _ _)).report _ _) fun _ => stopped
  case loweringTimerExpiry =>
    refine whileRunning_keeps law fun _ => keeps_ite (fun _ => ?_) fun _ => law
    have stopped : Bounded { s with lift := { s.lift with loweringTimer := none } } := { law with }
    dsimp only
    split
    · exact stopped
    · next a _ =>
      have down : Bounded (putAxle a { s.axles[a] with liftState := .down }
        { s with lift := { s.lift with loweringTimer := none } }) := stopped.putAxle { law.axles a with }
      exact keeps_ite (P := Bounded) (fun _ => keeps_ite (P := Bounded) (fun _ => down)
        fun _ => down.report _ _) fun _ => stopped
  case supplyTimerExpiry c =>
    have stopped : Bounded (s.setChannel c { s.channels[c] with supplyTimer := none }) :=
      law.setChannel { law.channels c with }
    exact whileRunning_keeps law fun _ => keeps_ite (fun _ =>
      keeps_ite (fun _ => stopped.report _ _) fun _ => stopped) fun _ => law
  case exerciseTimerExpiry c =>
    have stopped : Bounded (s.setChannel c { s.channels[c] with exerciseTimer := none }) :=
      law.setChannel { law.channels c with }
    exact whileRunning_keeps law fun _ => keeps_ite (fun _ =>
      keeps_ite (fun _ => law.of_drove (finishExercise_drove c _ s)) fun _ => stopped) fun _ => law
  case holdTimerExpiry c =>
    exact whileRunning_keeps law fun _ => keeps_ite
      (fun _ => law.arbitrate (holdTimerExpired_bounded (law.channels c))) fun _ => law
  case stepTimerExpiry c =>
    exact whileRunning_keeps law fun _ => keeps_ite
      (fun _ => law.arbitrate (stepTimerExpired_bounded (law.channels c))) fun _ => law
  case testTimerExpiry =>
    exact whileRunning_keeps law fun _ => keeps_ite (fun _ => law.testTimerExpired) fun _ => law
  case testSpacingExpiry | interventionMinExpiry =>
    exact whileRunning_keeps law fun _ => law.setRollover { law.rollover with }
  case rampStepExpiry =>
    exact whileRunning_keeps law fun _ => keeps_ite (fun _ => law.rampStepExpired) fun _ => law
  case jamTimerExpiry | markTimerExpiry =>
    exact whileRunning_keeps law fun _ => keeps_ite
      (fun _ => ((law.setReceiver _).setReceiver _).report _ _) fun _ => law
  case selectFall => exact { law with }
  case emptyTransaction => exact transact_keeps_bounded law fun _ hu => hu
  case frameError =>
    exact transact_keeps_bounded law fun _ hu => { (hu.report .linkFrame true).report .linkFrame false with }
  case initTransaction =>
    rw [closeTransaction_openTransaction]
    exact { law with }
  case unknownRequest | nop => exact request_keeps_bounded law fun _ hu => hu
  case lookup table index group =>
    exact request_keeps_bounded law fun _ hu => hu.lookupOwner table index group
  case lookupNext index group =>
    exact request_keeps_bounded law fun _ hu => hu.lookupNextOwner index group
  case amend table index field value =>
    exact request_keeps_bounded law fun u hu =>
      amendOwner_keeps hu fun r v _ admitted => store_keeps_bounded hu admitted.accepted
  case enrol table index high low =>
    exact request_keeps_bounded law fun _ hu => hu.enrolOwner table index high low
  case retire table index => exact request_keeps_bounded law fun _ hu => hu.retireOwner table index
  case learn table index => exact request_keeps_bounded law fun _ hu => hu.learnOwner table index
  case cancelLearn index => exact request_keeps_bounded law fun _ hu => hu.cancelLearnOwner index
  case liftCommand index mode =>
    exact request_keeps_bounded law fun _ hu => hu.liftCommandOwner index mode
  case exercise table index argument =>
    exact request_keeps_bounded law fun u hu => hu.of_drove (exerciseOwner_drove table index argument u)
  case goActive index => exact request_keeps_bounded law fun _ hu => hu.goActiveOwner index
  case goStandby index => exact request_keeps_bounded law fun _ hu => hu.goStandbyOwner index
  case softReset index => exact transact_keeps_bounded law fun _ hu => restart_keeps_bounded hu
  case ackFaults index => exact request_keeps_bounded law fun _ hu => hu.ackFaultsOwner index
  case setAttention index enables =>
    exact request_keeps_bounded law fun _ hu => hu.setAttentionOwner index enables

/-- Settles O59: command by command. -/
theorem settingsAndRangesKept : Obligations.SettingsAndRangesKept := fun _ _ a b stepped =>
  (bounded_iff _).mp (step_keeps (P := Bounded) (fun _ _ h => { h with }) exec_keeps_bounded
    ((bounded_iff _).mpr ⟨a, b⟩) stepped)

end Sys2Proof.Machine
end

section
/-! The resets: every law at a full reset (O60), and what a held part or an unserved transaction takes (O2). -/

namespace Sys2Proof.Machine

/-! ### The state after a full reset -/

/-- Positions that hold nothing and an empty candidate list. -/
theorem TyreLaw.of_free {t : State} (free : ∀ p : Fin 16, t.tyres[p].Free)
    (empty : t.supervisor.candidates = []) : TyreLaw t := by
  have idle (p : Fin 16) : t.tyres[p].id = none := (free p).1
  have unpaired (p : Fin 16) : t.tyres[p].state = .unpaired := (free p).2
  refine ⟨fun p _ => ?_, fun p q _ _ paired => ?_, fun p q _ _ learning => ?_, ?_, ?_, fun x mem => ?_⟩
  · rw [idle p, unpaired p]
    decide
  · rw [idle p] at paired
    cases paired
  · rw [unpaired p] at learning
    cases learning
  all_goals rw [empty] at *
  · exact Nat.zero_le 8
  · exact List.nodup_nil
  · cases mem

theorem beginFullReset_linkLaws (s : State) : LinkLaws (beginFullReset s) :=
  linkLaws_of_reset rfl rfl

/-- R180: whatever state a full reset finds, it leaves a lawful one. -/
theorem fullReset_lawful (straps : BitVec 2) (s : State) :
    Lawful (endFullReset straps (beginFullReset s)) := by
  have quiet (o : Fin 13) : (beginFullReset s).outputs[o] = freshOutput := by simp [beginFullReset]
  have channels := (channelLaws_iff _).mp
    (endFullReset_keeps_channelLaws straps (beginFullReset_channelLaws s))
  have bounded := (bounded_iff _).mp (endFullReset_keeps_bounded straps (beginFullReset_bounded s))
  have link := endFullReset_keeps_linkLaws straps (beginFullReset_linkLaws s)
    (Select.abandon_ne_serving _)
  exact
    { reset := endFullReset_keeps_resetLaw straps (beginFullReset_resetLaw s)
      valves := (valveLaw_iff _).mpr (endFullReset_valves straps fun o => by rw [quiet]; rfl)
      arbiters := channels.1
      antiLock := channels.2
      tyres := endFullReset_keeps_tyreLaw straps (.of_free (freshTyres_free s.device.layout) rfl)
      lift := (liftLaw_iff _).mpr
        (endFullReset_keeps_liftSafe straps (beginFullReset_liftSafe s) (by rw [quiet]; rfl))
      faults := link.1
      rollover := endFullReset_keeps_rolloverLaw straps (beginFullReset_rolloverLaw s) rfl
      settings := bounded.1
      ranges := bounded.2
      link := link.2 }

/-- The state after reset is what a power-on of it leaves, the LAYOUT straps open. -/
theorem State.reset_eq_fullReset : State.reset = endFullReset 0 (beginFullReset State.reset) := by
  decide +kernel

/-- Settles O60: reset is itself what a full reset leaves, and every full reset leaves a lawful state. -/
theorem resetStateIsLawful : Obligations.ResetStateIsLawful := by
  refine ⟨rfl, ⟨rfl, rfl⟩, ?_, fun straps t powered => ?_⟩
  · rw [State.reset_eq_fullReset]
    exact fullReset_lawful 0 _
  · obtain rfl := Host.Outcome.next.inj powered
    exact fullReset_lawful straps _

/-! ### While the part is held -/

/-- Writing a record as it stands changes nothing. -/
theorem State.setChannel_self (s : State) (c : Fin 4) : s.setChannel c s.channels[c] = s := by
  simp [State.setChannel]

/-- R92: what is not requested is not served. -/
theorem serve_of_not_requested {c : Fin 4} {s : State}
    (inlet : s.outputs[inletOf c].requested = false)
    (exhaust : s.outputs[exhaustOf c].requested = false) :
    serveExhaust c (serveInlet c s) = s := by
  have still : serveInlet c s = s := by
    rw [serveInlet, inlet]
    rfl
  rw [still, serveExhaust, exhaust]
  rfl

/-- R100, R180: of a held part nothing is requested, so the gap's expiry only stops the timer. -/
theorem exec_changeoverGapExpiry_of_held {s : State} (c : Fin 4) (law : ResetLaw s)
    (heldS : held s = true) : exec (.changeoverGapExpiry c) s =
      .next (s.setChannel c { s.channels[c] with gapTimer := none }) := by
  obtain ⟨-, -, -, quiet⟩ := law.2 heldS
  have idle (o : Fin 13) : s.outputs[o].requested = false := (quiet o).1
  refine congrArg Host.Outcome.next ?_
  split
  · exact serve_of_not_requested (idle _) (idle _)
  · next stopped =>
    rw [Option.not_isSome_iff_eq_none] at stopped
    rw [← stopped]
    exact (State.setChannel_self s c).symm

/-- R180: the commands of the pins, of a part that is held. -/
theorem exec_selectFall_of_held {s : State} (heldS : held s = true) : exec .selectFall s =
    .next { s with link := { s.link with
      select := .unserved, dataOut := Vector.replicate 10 0xFFFF, dataRest := 0xFFFF } } := by
  have idle : linkServes s = false := by simp [linkServes, heldS]
  refine congrArg Host.Outcome.next ?_
  rw [beginTransaction, if_neg (by rw [idle]; decide)]
  rfl

/-! ### Transactions that are not taken -/

/-- Every command that ends a transaction is a rise of SELECT with an act. -/
def EndsTransaction (i : Instr) : Prop :=
  (Link.encode i).isSome = true ∨ (∃ h, i = .frameError h) ∨ i = .emptyTransaction
    ∨ i = .initTransaction

theorem exec_of_endsTransaction {i : Instr} (h : EndsTransaction i) :
    ∃ act, ∀ s, exec i s = .next (transact act s) := by
  obtain encoded | ⟨header, rfl⟩ | rfl | rfl := h
  · cases i
    case nop | lookup | lookupNext | amend | enrol | retire | learn | cancelLearn | liftCommand |
        exercise | goActive | goStandby | softReset | ackFaults | setAttention | unknownRequest =>
      exact ⟨_, fun _ => rfl⟩
    all_goals cases encoded
  · exact ⟨_, fun _ => rfl⟩
  · exact ⟨id, fun _ => rfl⟩
  · exact ⟨id, fun s => congrArg Host.Outcome.next (ite_self _).symm⟩

/-- R166: SELECT rises on a transaction that the link does not serve. -/
theorem transact_of_untaken {act : State → State} {s : State} (low : s.link.select ≠ .high)
    (untaken : s.link.select = .unserved ∨ linkServes s = false) :
    transact act s = closeTransaction s := by
  have opened : openTransaction s = s := by
    unfold openTransaction
    split
    · next high => exact absurd high low
    · rfl
    · rfl
  unfold transact
  dsimp only
  rw [opened, if_neg]
  rw [Bool.and_eq_true]
  rintro ⟨serving, serves⟩
  obtain unserved | idle := untaken
  · rw [unserved] at serving
    cases serving
  · rw [idle] at serves
    cases serves

/-- A transaction that finds SELECT high begins with its fall. -/
theorem transact_of_high {act : State → State} {s : State} (high : s.link.select = .high) :
    transact act s = transact act (beginTransaction s) := by
  have low : openTransaction (beginTransaction s) = beginTransaction s := by
    cases serves : linkServes s <;> simp [openTransaction, beginTransaction, serves]
  have opened : openTransaction s = beginTransaction s := by rw [openTransaction, high]
  unfold transact
  rw [opened, low]

theorem linkServes_eq_false_iff (s : State) :
    linkServes s = false ↔ ¬Running s ∨ s.device.state = .init := by
  rw [← Bool.not_eq_true, linkServes_iff, not_and_or, not_not]

/-- Settles O2: of a held part only the pins, SELECT and the gap from the reset move, and a transaction
that is not served only ends. -/
theorem heldOrUnservedCommandsAreNotTaken : Obligations.HeldOrUnservedCommandsAreNotTaken := by
  refine ⟨fun i s heldS block => ?_, fun straps c s heldS => ?_, fun i s ends => ?_⟩
  · cases i
    case initTimerExpiry | scanCompletion | sampleSet | wheelEdge | shortCircuitTrip |
        blankingTimerExpiry | raiseTimerExpiry | loweringTimerExpiry | supplyTimerExpiry |
        exerciseTimerExpiry | holdTimerExpiry | stepTimerExpiry | testTimerExpiry |
        testSpacingExpiry | interventionMinExpiry | rampStepExpiry | jamTimerExpiry |
        markTimerExpiry | characterComplete | gapTimerExpiry | agingExpiry | learnTimerExpiry |
        startBitTaken => exact congrArg Host.Outcome.next (whileRunning_of_held heldS)
    all_goals cases block
  · refine ⟨congrArg Host.Outcome.next (whileRunning_of_held heldS),
      congrArg Host.Outcome.next (whileRunning_of_held heldS),
      congrArg Host.Outcome.next (if_pos heldS), congrArg Host.Outcome.next (if_pos heldS),
      exec_selectFall_of_held heldS, fun law => exec_changeoverGapExpiry_of_held c law heldS,
      fun low => congrArg Host.Outcome.next (if_pos low),
      fun low => congrArg Host.Outcome.next (if_pos low),
      fun supplied => congrArg Host.Outcome.next (if_neg (Bool.eq_false_iff.mp supplied)),
      fun released => congrArg Host.Outcome.next (if_neg (Bool.eq_false_iff.mp released)),
      fun supplyLow resetLow => ⟨?_, ?_⟩⟩
    · exact congrArg Host.Outcome.next ((if_pos supplyLow).trans
        (if_pos (held_of_cause (s := { s with device := { s.device with supplyFail := false } })
          (.inr resetLow))))
    · exact congrArg Host.Outcome.next ((if_pos resetLow).trans
        (if_pos (held_of_cause (s := { s with device := { s.device with resetLow := false } })
          (.inl supplyLow))))
  · obtain ⟨act, exec_eq⟩ := exec_of_endsTransaction ends
    refine ⟨fun untaken => ?_, fun high => ⟨_, rfl, ?_⟩⟩
    · rw [exec_eq]
      refine congrArg Host.Outcome.next (transact_of_untaken (fun high => ?_) ?_)
      · rw [high] at untaken
        simp at untaken
      · rw [linkServes_eq_false_iff]
        exact untaken.imp_right And.right
    · rw [exec_eq, exec_eq, transact_of_high high]

end Sys2Proof.Machine
end

section
/-! The transaction parser (O3, O4): what a header's fields read, and which words are a frame error. -/

namespace Sys2Proof.Link

open Sys2Proof.Laws

/-! ### The fields of a header -/

theorem headerTable_header (k : BitVec 6) (t : BitVec 3) (i : BitVec 5) (g : BitVec 2) :
    headerTable (header k t i g) = t := by
  simp only [headerTable, header]
  ext j hj
  simp only [BitVec.getElem_extractLsb', BitVec.getLsbD_append]
  have above : ¬(7 + j < 2) ∧ ¬(7 + j - 2 < 5) ∧ 7 + j - 2 - 5 < 3 := by omega
  simp only [above, if_false, if_true]
  rw [show 7 + j - 2 - 5 = j by omega, BitVec.getLsbD_eq_getElem hj]

theorem headerIndex_header (k : BitVec 6) (t : BitVec 3) (i : BitVec 5) (g : BitVec 2) :
    headerIndex (header k t i g) = i := by
  simp only [headerIndex, header]
  ext j hj
  simp only [BitVec.getElem_extractLsb', BitVec.getLsbD_append]
  have above : ¬(2 + j < 2) ∧ 2 + j - 2 < 5 := by omega
  simp only [above, if_false, if_true]
  rw [show 2 + j - 2 = j by omega, BitVec.getLsbD_eq_getElem hj]

theorem headerGroup_header (k : BitVec 6) (t : BitVec 3) (i : BitVec 5) (g : BitVec 2) :
    headerGroup (header k t i g) = g := by
  simp only [headerGroup, header]
  ext j hj
  simp only [BitVec.getElem_extractLsb', BitVec.getLsbD_append]
  have low : 0 + j < 2 := by omega
  simp only [low, if_true]
  rw [Nat.zero_add, BitVec.getLsbD_eq_getElem hj]

/-! ### Frame errors -/

/-- R165, with the header in hand. -/
theorem isFrameError_cons_iff (h : Word) (rest : List Word) (x : Fin 16) :
    isFrameError (h :: rest) x = true ↔ x ≠ 0 ∨ (h :: rest).length < wordsNeeded (headerKind h)
      ∨ (∃ w ∈ (h :: rest).drop (wordsNeeded (headerKind h)), w ≠ 0) ∨ 16 < (h :: rest).length := by
  simp only [isFrameError, Bool.or_eq_true, bne_iff_ne, decide_eq_true_eq, List.any_eq_true, or_assoc]

theorem isFrameError_nil_iff (x : Fin 16) : isFrameError [] x = true ↔ x ≠ 0 := by
  simp only [isFrameError, bne_iff_ne]

/-- A request is neither a frame error nor an empty transaction. -/
theorem requestOf_ne (h a1 a2 : Word) :
    (∀ header, requestOf h a1 a2 ≠ .frameError header) ∧ requestOf h a1 a2 ≠ .emptyTransaction := by
  unfold requestOf
  split <;> exact ⟨fun _ => Instr.noConfusion, Instr.noConfusion⟩

theorem parse_of_frameError {ws : List Word} {x : Fin 16} (h : isFrameError ws x = true) :
    parse ws x = .frameError ws.head? := if_pos h

theorem parse_cons_of_framed {h : Word} {rest : List Word} {x : Fin 16}
    (framed : ¬isFrameError (h :: rest) x = true) :
    parse (h :: rest) x = requestOf h (rest.getD 0 0) (rest.getD 1 0) := if_neg framed

theorem parse_nil_of_framed {x : Fin 16} (framed : ¬isFrameError [] x = true) :
    parse [] x = .emptyTransaction := if_neg framed

theorem parse_eq_frameError_iff (ws : List Word) (x : Fin 16) (header : Option Word) :
    parse ws x = .frameError header ↔ isFrameError ws x = true ∧ header = ws.head? := by
  by_cases wrong : isFrameError ws x = true
  · rw [parse_of_frameError wrong, Instr.frameError.injEq, eq_comm]
    exact ⟨fun h => ⟨wrong, h⟩, And.right⟩
  · refine ⟨fun h => ?_, fun h => absurd h.1 wrong⟩
    cases ws with
    | nil =>
      rw [parse_nil_of_framed wrong] at h
      cases h
    | cons w rest =>
      rw [parse_cons_of_framed wrong] at h
      exact absurd h ((requestOf_ne _ _ _).1 _)

theorem parse_eq_emptyTransaction_iff (ws : List Word) (x : Fin 16) :
    parse ws x = .emptyTransaction ↔ ws = [] ∧ x = 0 := by
  cases ws with
  | nil =>
    by_cases wrong : isFrameError [] x = true
    · rw [parse_of_frameError wrong]
      exact ⟨Instr.noConfusion, fun h => absurd h.2 ((isFrameError_nil_iff x).mp wrong)⟩
    · rw [parse_nil_of_framed wrong]
      rw [isFrameError_nil_iff, not_not] at wrong
      exact ⟨fun _ => ⟨rfl, wrong⟩, fun _ => rfl⟩
  | cons w rest =>
    refine ⟨fun h => ?_, fun h => nomatch h.1⟩
    by_cases wrong : isFrameError (w :: rest) x = true
    · rw [parse_of_frameError wrong] at h
      cases h
    · rw [parse_cons_of_framed wrong] at h
      exact absurd h (requestOf_ne _ _ _).2

/-- The kind code is the header's top six bits. -/
theorem headerKind_toNat (h : Word) : (headerKind h).toNat = (h >>> 10).toNat := by
  rw [headerKind, BitVec.extractLsb'_toNat, BitVec.toNat_ushiftRight]
  refine Nat.mod_eq_of_lt ?_
  have bound := h.isLt
  rw [Nat.shiftRight_eq_div_pow]
  omega

/-! ### Padded requests -/

/-- Section 11.5: a request with its own number of words may be padded with zeros. -/
theorem parse_padded {h : Word} {rest : List Word} {k : Nat}
    (whole : (h :: rest).length = wordsNeeded (headerKind h))
    (short : (h :: rest).length + k ≤ 16) :
    parse (h :: rest ++ List.replicate k 0) 0 = requestOf h (rest.getD 0 0) (rest.getD 1 0) := by
  have pad (n : Nat) : (rest ++ List.replicate k 0).getD n 0 = rest.getD n (0 : Word) := by
    simp only [List.getD_eq_getElem?_getD, List.getElem?_append, List.getElem?_replicate]
    split
    · rfl
    · next beyond =>
      rw [List.getElem?_eq_none (by omega)]
      split <;> rfl
  have framed : ¬isFrameError (h :: (rest ++ List.replicate k 0)) 0 = true := by
    rw [isFrameError_cons_iff, ← whole]
    rintro (nonzero | missing | ⟨w, padding, nonzero⟩ | long)
    · exact nonzero rfl
    · simp at missing
    · rw [← List.cons_append, List.drop_left] at padding
      exact nonzero (List.eq_of_mem_replicate padding)
    · simp at long short
      omega
  rw [List.cons_append, parse_cons_of_framed framed, pad, pad]

/-- R167: an unlisted kind. -/
theorem requestOf_unlisted {h : Word} (a1 a2 : Word) (unlisted : 15 ≤ (headerKind h).toNat) :
    requestOf h a1 a2 = .unknownRequest (headerKind h) (headerIndex h) := by
  unfold requestOf
  split
  case h_16 => rfl
  all_goals omega

end Sys2Proof.Link

namespace Sys2Proof.Machine

open Sys2Proof.Laws Sys2Proof.Link

/-- Settles O3: request by request, each takes the words its kind needs. -/
theorem requestWordsParse : Obligations.RequestWordsParse := by
  intro i ws k formed encoded short
  cases i
  case unknownRequest kind index =>
    have unlisted : 15 ≤ kind.toNat := of_decide_eq_true formed
    obtain rfl := Option.some.inj encoded
    rw [parse_padded (by rw [headerKind_header, wordsNeeded_unlisted kind unlisted]; rfl) short,
      requestOf_unlisted _ _ (by rw [headerKind_header]; exact unlisted), headerKind_header,
      headerIndex_header]
  case nop | lookup | lookupNext | amend | enrol | retire | learn | cancelLearn | liftCommand |
      exercise | goActive | goStandby | softReset | ackFaults | setAttention =>
    obtain rfl := Option.some.inj encoded
    rw [parse_padded (by rw [headerKind_header]; rfl) short]
    simp [requestOf, headerKind_header, headerTable_header, headerIndex_header, headerGroup_header]
  all_goals cases encoded

/-- Settles O4, from the parser's own cases. -/
theorem frameErrorIffMalformed : Obligations.FrameErrorIffMalformed := by
  intro ws x need
  have need_eq (h : Word) : need h = wordsNeeded (headerKind h) := by
    simp only [wordsNeeded, headerKind_toNat]
    rfl
  refine ⟨?_, fun h parsed => ((parse_eq_frameError_iff ws x h).mp parsed).2,
    parse_eq_emptyTransaction_iff ws x⟩
  simp only [parse_eq_frameError_iff, exists_and_left, exists_eq, and_true]
  cases ws with
  | nil => simp [isFrameError_nil_iff]
  | cons h rest =>
    rw [isFrameError_cons_iff]
    refine or_congr_right ⟨fun wrong => ⟨h, rest, rfl, ?_⟩, fun ⟨h', rest', same, wrong⟩ => ?_⟩
    · rw [need_eq]
      exact wrong
    · obtain ⟨rfl, rfl⟩ := List.cons.inj same
      rw [need_eq] at wrong
      exact wrong

end Sys2Proof.Machine
end

section
/-! The resets, field by field (O5, O6, O8). -/

namespace Sys2Proof.Machine

/-! ### What both resets leave quiet -/

/-- R169, R170: nothing raises ATTENTION without an outstanding source. -/
theorem attentionPending_eq_zero {t : State} (fault : t.link.faultPending = false)
    (rollover : t.link.rolloverPending = false) (candidate : t.link.candidatePending = false)
    (axles : ∀ a : Fin 4, t.axles[a].present = true → t.axles[a].changeMark = false)
    (tyres : ∀ p : Fin 16, t.tyres[p].present = true → t.tyres[p].changeMark = false)
    (learns : ∀ p : Fin 16, t.tyres[p].learnOutstanding = false) : attentionPending t = 0 := by
  have noAxle : axleMarked t = false := by
    simpa [axleMarked] using axles
  have noTyre : tyreMarked t = false := by
    simpa [tyreMarked] using tyres
  have noLearn : learnOutstanding t = false := by
    simpa [learnOutstanding] using learns
  rw [attentionPending, fault, rollover, candidate, noAxle, noTyre, noLearn]
  rfl

/-- The DEVICE fields that a clear fault set gives (R176). -/
theorem valveOutputsLatched_of_clear {t : State} (faults : t.faults = clearFaults) :
    valveOutputsLatched t = 0 := by
  rw [valveOutputsLatched, faults]
  decide +kernel

theorem faultsPresent_of_clear {t : State} (faults : t.faults = clearFaults) :
    faultsPresent t = 0 := by
  rw [faultsPresent, faults]
  decide +kernel

theorem faultsLatched_of_clear {t : State} (faults : t.faults = clearFaults) :
    faultsLatched t = 0 := by
  rw [faultsLatched, faults]
  decide +kernel

/-- The field numbers of a record. -/
theorem range_32 : List.range 32 = [0, 1, 2, 3, 4, 5, 6, 7, 8, 9, 10, 11, 12, 13, 14, 15, 16, 17, 18, 19,
    20, 21, 22, 23, 24, 25, 26, 27, 28, 29, 30, 31] := rfl

/-! ### The state that a full reset leaves -/

/-- R180: the state after a full reset that ends at once. -/
def poweredOn (straps : BitVec 2) (s : State) : State :=
  startInit (sampleLayout straps (beginFullReset s))

section
variable (straps : BitVec 2) (s : State)

theorem poweredOn_axle (a : Fin 4) :
    (poweredOn straps s).axles[a] = freshAxle (axleExists straps a) := by
  simp [poweredOn, startInit, sampleLayout, freshAxles]

theorem poweredOn_wheel (w : Fin 8) : (poweredOn straps s).wheels[w] =
    freshWheel (axleExists straps (axleOfWheel w)) (channelOfWheel straps w) := by
  simp [poweredOn, startInit, sampleLayout, freshWheels]

theorem poweredOn_tyre (p : Fin 16) :
    (poweredOn straps s).tyres[p] = freshTyre (axleExists straps (axleOfTyre p)) := by
  simp [poweredOn, startInit, sampleLayout, freshTyres]

theorem poweredOn_channel (c : Fin 4) : (poweredOn straps s).channels[c] =
    freshChannel (channelExists straps c) (channelSide straps c) (groupFirst straps c)
      (groupLast straps c) := by
  simp [poweredOn, startInit, sampleLayout, beginFullReset, freshChannels, freshChannel]

theorem poweredOn_output (o : Fin 13) : (poweredOn straps s).outputs[o] = freshOutput := by
  simp [poweredOn, startInit, sampleLayout, beginFullReset]

theorem poweredOn_attention : attentionPending (poweredOn straps s) = 0 :=
  attentionPending_eq_zero rfl rfl rfl (fun a _ => by rw [poweredOn_axle]; rfl)
    (fun p _ => by rw [poweredOn_tyre]; rfl) fun p => by rw [poweredOn_tyre]; rfl

theorem poweredOn_internals : ResetInternals (poweredOn straps s) := by
  refine ⟨fun f _ => clearFaults_get f, rfl, rfl, fun c => ?_, fun a => ?_, rfl, rfl, fun w _ => ?_, rfl,
    rfl, rfl, fun a _ => ?_, fun c _ => ?_, poweredOn_output straps s, rfl, rfl, rfl, rfl, rfl, rfl,
    fun p _ => ?_, fun p => ?_, rfl, rfl, rfl, rfl, fun k => ?_, rfl⟩
  · simp [poweredOn, startInit, sampleLayout, beginFullReset, freshAnalog, freshInput]
  · simp [poweredOn, startInit, sampleLayout, beginFullReset, freshAnalog, freshInput]
  · rw [poweredOn_wheel]
    exact ⟨rfl, rfl, rfl, rfl, rfl, rfl⟩
  · rw [poweredOn_axle]
    exact ⟨rfl, rfl, rfl⟩
  · rw [poweredOn_channel]
    exact ⟨rfl, rfl, rfl, rfl, rfl, rfl, rfl⟩
  · rw [poweredOn_tyre]
    exact ⟨rfl, rfl⟩
  · rw [poweredOn_tyre]
    rfl
  · simp [poweredOn, startInit, sampleLayout, beginFullReset, freshLink, allOnes]

theorem poweredOn_deviceFields :
    (List.range 32).map (fieldWord (poweredOn straps s) .device) =
      [0, BitVec.ofNat 16 straps.toNat, 0, 0, 0, 1, 0, 63, 0, 0, 0, 0, 20, 0, 0, 0,
        450, 0, 4, 6, 205, 26, 0, 0, 0, 0, 0, 0, 0, 0, 600, 0] := by
  have present := faultsPresent_of_clear (t := poweredOn straps s) rfl
  have latched := faultsLatched_of_clear (t := poweredOn straps s) rfl
  have outputs := valveOutputsLatched_of_clear (t := poweredOn straps s) rfl
  simp only [range_32, List.map, fieldWord, deviceField, present, latched, outputs,
    poweredOn_attention]
  rfl

theorem poweredOn_rolloverFields :
    (List.range 32).map (fieldWord (poweredOn straps s) .rollover) =
      [0, 0x8000, 0, 450, 337, 0x8000, 0x8000, 0, 60, 450, 450, 300, 307, 0, 0, 0,
        0, 0, 0, 0, 0, 0, 0, 0, 0, 0, 0, 0, 0, 0, 0, 0] := rfl

theorem poweredOn_axleFields {a : Fin 4} (standing : axleExists straps a = true) :
    (List.range 32).map (fieldWord (poweredOn straps s) (.axle a)) =
      [1, 1, 0, 0, 0, 0, 0, 0, 180, 900, 2, 204, 0, 0, 0, 0, 0, 180, 600, 900,
        0x8000, 0x8000, 0x8000, 0x8000, 0x8000, 0x8000, 0x8000, 0x8000, 300, 900, 30, 80] := by
  simp only [range_32, List.map, fieldWord, axleField, poweredOn_axle, standing]
  rfl

theorem poweredOn_wheelFields {w : Fin 8} (standing : axleExists straps (axleOfWheel w) = true) :
    (List.range 32).map (fieldWord (poweredOn straps s) (.wheel w)) =
      [1, BitVec.ofNat 16 (channelOfWheel straps w).val, 1, 100, 3200, 0, 0, 0, 0, 0,
        0, 0, 0, 0, 0, 0, 0x8000, 0, 0, 0, 0, 0, 0, 0, 0, 0, 0, 0, 0, 0, 0, 0] := by
  simp only [range_32, List.map, fieldWord, poweredOn_wheel, standing]
  rfl

theorem poweredOn_tyreFields {p : Fin 16} (standing : axleExists straps (axleOfTyre p) = true) :
    (List.range 32).map (fieldWord (poweredOn straps s) (.tyre p)) =
      [1, BitVec.ofNat 16 p.val, 0, 0x8000, 0x8000, 0, 0, 0, 800, 0x8000, 0x8000,
        0x8000, 0, 0, 0, 0, 0, 0, 0, 0, 0, 0, 0, 0, 0, 0, 0, 0, 0, 0, 0, 0] := by
  simp only [range_32, List.map, fieldWord, poweredOn_tyre, standing]
  rfl

theorem poweredOn_channelFields {c : Fin 4} (standing : channelExists straps c = true) :
    (List.range 32).map (fieldWord (poweredOn straps s) (.channel c)) =
      [1, BitVec.ofNat 16 (channelSide straps c).code, BitVec.ofNat 16 (groupFirst straps c).val,
        BitVec.ofNat 16 (groupLast straps c).val, 0, 0, 3, 0, 410, 1024, 850, 0, 0, 410, 0,
        15, 0, 0, 0, 0x8000, 0, 0, 0, 0, 0, 0, 0x8000, 0, 0, 0, 0, 0] := by
  simp only [range_32, List.map, fieldWord, channelField, poweredOn_channel, poweredOn_output,
    standing]
  rfl

end

/-! ### The layout table of section 1.1 -/

theorem axleCount_eq (straps : BitVec 2) :
    axleCount straps = ([2, 3, 3, 4] : List Nat).getD straps.toNat 0 := by
  decide +revert

theorem channelCount_eq (straps : BitVec 2) :
    channelCount straps = ([2, 2, 3, 4] : List Nat).getD straps.toNat 0 := by
  decide +revert

theorem axleExists_iff (straps : BitVec 2) (a : Fin 4) :
    axleExists straps a = true ↔ a.val < ([2, 3, 3, 4] : List Nat).getD straps.toNat 0 := by
  rw [axleExists, decide_eq_true_eq, axleCount_eq]

theorem channelExists_iff (straps : BitVec 2) (c : Fin 4) :
    channelExists straps c = true ↔ c.val < ([2, 2, 3, 4] : List Nat).getD straps.toNat 0 := by
  rw [channelExists, decide_eq_true_eq, channelCount_eq]

theorem axleExists_ofWheel_iff (straps : BitVec 2) (w : Fin 8) :
    axleExists straps (axleOfWheel w) = true ↔
      w.val < 2 * ([2, 3, 3, 4] : List Nat).getD straps.toNat 0 := by
  rw [axleExists_iff]
  rw [Nat.mul_comm]
  exact Nat.div_lt_iff_lt_mul (by decide)

theorem axleExists_ofTyre_iff (straps : BitVec 2) (p : Fin 16) :
    axleExists straps (axleOfTyre p) = true ↔
      p.val < 4 * ([2, 3, 3, 4] : List Nat).getD straps.toNat 0 := by
  rw [axleExists_iff]
  rw [Nat.mul_comm]
  exact Nat.div_lt_iff_lt_mul (by decide)

theorem channelOfWheel_eq (straps : BitVec 2) (w : Fin 8)
    (standing : axleExists straps (axleOfWheel w) = true) : (channelOfWheel straps w).val =
      (([[0, 1, 0, 1], [0, 1, 0, 1, 0, 1], [0, 1, 0, 1, 2, 2],
        [0, 1, 0, 1, 2, 3, 2, 3]] : List (List Nat)).getD straps.toNat []).getD w.val 0 := by
  decide +revert

theorem channelLayout_eq (straps : BitVec 2) (c : Fin 4) (standing : channelExists straps c = true) :
    (channelSide straps c).code =
        (([[0, 1], [0, 1], [0, 1, 2], [0, 1, 0, 1]] : List (List Nat)).getD straps.toNat []).getD
          c.val 0
      ∧ (groupFirst straps c).val =
        (([[0, 0], [0, 0], [0, 0, 2], [0, 0, 2, 2]] : List (List Nat)).getD straps.toNat []).getD
          c.val 0
      ∧ (groupLast straps c).val =
        (([[1, 1], [2, 2], [1, 1, 2], [1, 1, 3, 3]] : List (List Nat)).getD straps.toNat []).getD
          c.val 0 := by
  decide +revert

/-- Settles O5, record by record. -/
theorem fullResetLeavesDefaults : Obligations.FullResetLeavesDefaults := by
  intro straps s running
  refine ⟨poweredOn straps s, exec_powerOn_of_running straps running, poweredOn_deviceFields straps s,
    poweredOn_rolloverFields straps s, fun a => ⟨?_, fun small => ?_⟩, fun w => ⟨?_, fun small => ?_⟩,
    fun p => ⟨?_, fun small => ?_⟩, fun c => ⟨?_, fun small => ?_⟩, rfl, rfl, rfl, rfl, rfl, rfl,
    fun c => ?_, poweredOn_internals straps s, ?_, rfl, rfl, rfl, rfl, rfl, rfl⟩
  · rw [poweredOn_axle]
    exact axleExists_iff straps a
  · exact poweredOn_axleFields straps s ((axleExists_iff straps a).mpr small)
  · rw [poweredOn_wheel]
    exact axleExists_ofWheel_iff straps w
  · have standing := (axleExists_ofWheel_iff straps w).mpr small
    rw [← channelOfWheel_eq straps w standing]
    exact poweredOn_wheelFields straps s standing
  · rw [poweredOn_tyre]
    exact axleExists_ofTyre_iff straps p
  · exact poweredOn_tyreFields straps s ((axleExists_ofTyre_iff straps p).mpr small)
  · rw [poweredOn_channel]
    exact channelExists_iff straps c
  · have standing := (channelExists_iff straps c).mpr small
    obtain ⟨side, first, last⟩ := channelLayout_eq straps c standing
    rw [← side, ← first, ← last]
    exact poweredOn_channelFields straps s standing
  · rw [poweredOn_channel]
    rfl
  · cases spacing : s.receiver.spacing <;>
      simp [poweredOn, startInit, sampleLayout, beginFullReset, freshReceiver, spacing, jamTime,
        characterTime, freshDevice]

/-! ### The causes of a reset -/

/-- R180: what holds of a part while a cause holds it. -/
theorem beginFullReset_quiet {s : State} (heldS : held (beginFullReset s) = true) :
    held (beginFullReset s) = true ∧ (beginFullReset s).device.state = .init
      ∧ (beginFullReset s).device.initTimer = none ∧ (beginFullReset s).analog.scanTimer = none
      ∧ (beginFullReset s).capture.windowTimer = none
      ∧ (beginFullReset s).supervisor.agingTimer = none
      ∧ (∀ o : Fin 13, (beginFullReset s).outputs[o].requested = false
        ∧ (beginFullReset s).outputs[o].energised = false)
      ∧ (∀ k : Fin 10, (beginFullReset s).link.dataOut[k] = 0xFFFF)
      ∧ (beginFullReset s).link.dataRest = 0xFFFF ∧ (beginFullReset s).link.select ≠ .serving
      ∧ attentionLow (beginFullReset s) = false ∧ (beginFullReset s).rollover.state = .off := by
  refine ⟨heldS, rfl, rfl, rfl, rfl, rfl, fun o => ?_, fun k => ?_, rfl, Select.abandon_ne_serving _, ?_,
    rfl⟩
  · simp [beginFullReset, freshOutput]
  · simp [beginFullReset, freshLink, allOnes]
  · simp [attentionLow, linkServes, heldS]

/-- The cause that held a full reset, gone: the reset as it began without it. -/
theorem beginFullReset_supplyFail {s : State} (supplied : s.device.supplyFail = false) :
    let u := beginFullReset { s with device := { s.device with supplyFail := true } }
    { u with device := { u.device with supplyFail := false } } = beginFullReset s := by
  simp [beginFullReset, freshDevice, supplied]

theorem beginFullReset_resetLow {s : State} (released : s.device.resetLow = false) :
    let u := beginFullReset { s with device := { s.device with resetLow := true } }
    { u with device := { u.device with resetLow := false } } = beginFullReset s := by
  simp [beginFullReset, freshDevice, released]

/-- Settles O6, cause by cause. -/
theorem resetCausesHoldAndRelease : Obligations.ResetCausesHoldAndRelease := by
  intro straps s quiet begun
  refine ⟨fun supplied => ⟨beginFullReset { s with device := { s.device with supplyFail := true } }, ?_,
      beginFullReset_quiet (held_of_cause (.inl rfl))⟩,
    fun released => ⟨beginFullReset { s with device := { s.device with resetLow := true } }, ?_,
      beginFullReset_quiet (held_of_cause (.inr rfl))⟩,
    fun heldS => ⟨_, congrArg Host.Outcome.next (if_pos heldS), beginFullReset_quiet heldS⟩,
    fun low released => ⟨_, exec_logicSupplyRestored_of_only_cause straps low released, ?_⟩,
    fun low supplied => ⟨_, exec_resetLineRelease_of_only_cause straps low supplied, ?_⟩,
    fun ⟨supplied, released⟩ => ⟨_, _, congrArg Host.Outcome.next (if_neg ?_),
      congrArg Host.Outcome.next (if_neg ?_), ?_, ?_⟩⟩
  · exact congrArg Host.Outcome.next (if_neg (by rw [supplied]; decide))
  · exact congrArg Host.Outcome.next (if_neg (by rw [released]; decide))
  · exact ⟨(held_eq_false_iff_running _).mpr ⟨rfl, released⟩, rfl, rfl, rfl, rfl, rfl, rfl, rfl⟩
  · exact ⟨(held_eq_false_iff_running _).mpr ⟨supplied, rfl⟩, rfl, rfl, rfl, rfl, rfl, rfl, rfl⟩
  · rw [supplied]
    decide
  · rw [released]
    decide
  · exact congrArg (fun u => Host.Outcome.next (endFullReset straps u)) (beginFullReset_supplyFail supplied)
  · exact congrArg (fun u => Host.Outcome.next (endFullReset straps u)) (beginFullReset_resetLow released)

/-! ### The state that a SOFT_RESET leaves -/

section
variable (s : State)

theorem restart_axle (a : Fin 4) : (restart s).axles[a] = s.axles[a].restart := by
  simp [restart, startInit]

theorem restart_wheel (w : Fin 8) : (restart s).wheels[w] = s.wheels[w].restart := by
  simp [restart, startInit]

theorem Axle.restart_present (x : Axle) : x.restart.present = x.present := by
  unfold Axle.restart
  split
  · next standing => exact standing.symm
  · rfl

theorem Wheel.restart_present (x : Wheel) : x.restart.present = x.present := by
  unfold Wheel.restart
  split
  · next standing => exact standing.symm
  · rfl

theorem Channel.restart_present (x : Channel) (gap : Nat) : (x.restart gap).present = x.present := by
  unfold Channel.restart
  split
  · next standing => exact standing.symm
  · rfl

/-- R163: of a tyre position a restart keeps the pairing and the nominal pressure, and ends a learning. -/
theorem Tyre.restart_of_present {x : Tyre} (standing : x.present = true) : x.restart = { freshTyre true with
    state := if x.state = .live ∨ x.state = .missing then .live else .unpaired
    id := if x.state = .live ∨ x.state = .missing then x.id else none
    nominal := x.nominal
    learnResult := if x.state = .learning then .cancelled else .noResult } := by
  rw [Tyre.restart, if_pos standing]
  cases state : x.state <;> rfl

theorem restart_attention : attentionPending (restart s) = 0 := by
  refine attentionPending_eq_zero rfl rfl rfl (fun a standing => ?_) (fun p standing => ?_) fun p => ?_
  · rw [restart_axle] at standing ⊢
    rw [Axle.restart_present] at standing
    rw [Axle.restart, if_pos standing]
    rfl
  · rw [restart_tyre] at standing ⊢
    rw [Tyre.restart_present] at standing
    rw [Tyre.restart_of_present standing]
    rfl
  · rw [restart_tyre]
    by_cases standing : s.tyres[p].present = true
    · rw [Tyre.restart_of_present standing]
      rfl
    · rw [Tyre.restart_of_absent (Bool.eq_false_iff.mpr standing)]

theorem restart_internals : ResetInternals (restart s) := by
  refine ⟨fun f _ => clearFaults_get f, rfl, rfl, fun c => ?_, fun a => ?_, rfl, rfl,
    fun w standing => ?_, rfl, rfl, rfl, fun a standing => ?_, fun c standing => ?_, fun o => ?_,
    rfl, rfl, rfl, rfl, rfl, rfl, fun p standing => ?_, fun p => ?_, rfl, rfl, rfl, rfl, fun k => ?_,
    rfl⟩
  · simp [restart, startInit, freshAnalog, freshInput]
  · simp [restart, startInit, freshAnalog, freshInput]
  · rw [restart_wheel] at standing ⊢
    rw [Wheel.restart_present] at standing
    rw [Wheel.restart, if_pos standing]
    exact ⟨rfl, rfl, rfl, rfl, rfl, rfl⟩
  · rw [restart_axle] at standing ⊢
    rw [Axle.restart_present] at standing
    rw [Axle.restart, if_pos standing]
    exact ⟨rfl, rfl, rfl⟩
  · rw [restart_channel] at standing ⊢
    rw [Channel.restart_present] at standing
    rw [Channel.restart, if_pos standing]
    exact ⟨rfl, rfl, rfl, rfl, rfl, rfl, rfl⟩
  · simp [restart, startInit, freshOutput]
  · rw [restart_tyre] at standing ⊢
    rw [Tyre.restart_present] at standing
    rw [Tyre.restart_of_present standing]
    exact ⟨rfl, rfl⟩
  · rw [restart_tyre]
    by_cases standing : s.tyres[p].present = true
    · rw [Tyre.restart_of_present standing]
      rfl
    · rw [Tyre.restart_of_absent (Bool.eq_false_iff.mpr standing)]
  · simp [restart, startInit, freshLink, allOnes]

/-! The restart columns of the field tables. -/

theorem restart_deviceFields (n : Fin 32) : fieldWord (restart s) .device n.val =
    if n.val ∈ [1, 4, 7, 12, 16, 17, 18, 19, 20, 21, 22, 30] then fieldWord s .device n.val
    else if n.val = 5 then 1 else 0 := by
  have present := faultsPresent_of_clear (t := restart s) rfl
  have latched := faultsLatched_of_clear (t := restart s) rfl
  have attention : (attentionPending (restart s)).setWidth 16 = (0 : Word) := by
    rw [restart_attention]
    rfl
  fin_cases n
  any_goals rfl
  · exact present
  · exact latched
  · exact attention

theorem restart_axleFields {a : Fin 4} (standing : s.axles[a].present = true) (n : Fin 32) :
    fieldWord (restart s) (.axle a) n.val =
      if n.val ∈ [0, 1, 2, 8, 9, 10, 11, 15] ∨ 16 ≤ n.val then fieldWord s (.axle a) n.val
      else if n.val = 14 then (if s.axles[a].liftable then 4 else 0) else 0 := by
  rw [fieldWord]
  simp only [axleField]
  rw [restart_axle, Axle.restart, if_pos standing]
  fin_cases n
  any_goals rfl
  · change _ = flag s.axles[a].present
    rw [standing]
    rfl
  · change quantity (LiftState.code (if s.axles[a].liftable then _ else _)) =
      if s.axles[a].liftable then (4 : Word) else 0
    cases s.axles[a].liftable <;> rfl

theorem restart_wheelFields {w : Fin 8} (standing : s.wheels[w].present = true) (n : Fin 32) :
    fieldWord (restart s) (.wheel w) n.val =
      if n.val ∈ [0, 1, 2, 3, 4] then fieldWord s (.wheel w) n.val
      else if n.val = 6 then (if s.wheels[w].enabled then 0 else 3)
      else if n.val = 16 then 0x8000 else 0 := by
  rw [fieldWord, restart_wheel, Wheel.restart, if_pos standing]
  fin_cases n
  any_goals rfl
  · change _ = flag s.wheels[w].present
    rw [standing]
    rfl
  · change quantity (SensorState.code (if s.wheels[w].enabled then _ else _)) =
      if s.wheels[w].enabled then (0 : Word) else 3
    cases s.wheels[w].enabled <;> rfl

theorem restart_tyreFields {p : Fin 16} (standing : s.tyres[p].present = true) (n : Fin 32) :
    fieldWord (restart s) (.tyre p) n.val =
      if n.val ∈ [0, 1, 8] then fieldWord s (.tyre p) n.val
      else if n.val = 2 then
        (if s.tyres[p].state = .live ∨ s.tyres[p].state = .missing then 2 else 0)
      else if n.val = 3 ∨ n.val = 4 then
        (if s.tyres[p].state = .live ∨ s.tyres[p].state = .missing then
          fieldWord s (.tyre p) n.val else 0x8000)
      else if 9 ≤ n.val ∧ n.val ≤ 11 then 0x8000
      else if n.val = 17 then (if s.tyres[p].state = .learning then 3 else 0) else 0 := by
  rw [fieldWord, restart_tyre, Tyre.restart_of_present standing]
  fin_cases n
  any_goals rfl
  · change _ = flag s.tyres[p].present
    rw [standing]
    rfl
  iterate 3
    · by_cases paired : s.tyres[p].state = .live ∨ s.tyres[p].state = .missing
      · simp only [tyreField, paired, if_true]
        rfl
      · simp only [tyreField, paired, if_false]
        rfl
  · by_cases learning : s.tyres[p].state = .learning
    · simp only [tyreField, learning, if_true]
      rfl
    · simp only [tyreField, learning, if_false]
      rfl

theorem restart_channelFields {c : Fin 4} (standing : s.channels[c].present = true) (n : Fin 32) :
    fieldWord (restart s) (.channel c) n.val =
      if n.val ∈ [0, 1, 2, 3, 8, 9, 10, 15, 24] then fieldWord s (.channel c) n.val
      else if n.val = 13 then fieldWord s (.channel c) 8
      else if n.val = 6 then 3
      else if n.val = 19 ∨ n.val = 26 then 0x8000 else 0 := by
  have output (o : Fin 13) : (restart s).outputs[o] = freshOutput := by
    simp [restart, startInit]
  rw [fieldWord]
  simp only [channelField]
  rw [restart_channel, Channel.restart, if_pos standing, output, output, output]
  fin_cases n
  any_goals rfl
  · change _ = flag s.channels[c].present
    rw [standing]
    rfl

theorem restart_rolloverFields (n : Fin 32) : fieldWord (restart s) .rollover n.val =
    if 8 ≤ n.val ∧ n.val ≤ 14 then fieldWord s .rollover n.val
    else if n.val = 3 then fieldWord s .rollover 10
    else if n.val = 4 then BitVec.ofNat 16 (s.rollover.aEmpty * 3 / 4)
    else if n.val = 1 ∨ n.val = 5 ∨ n.val = 6 then 0x8000 else 0 := by
  fin_cases n <;> rfl

end

/-- Settles O8, record by record. -/
theorem softResetKeepsConfiguration : Obligations.SoftResetKeepsConfiguration := by
  intro ix s served
  refine ⟨restart (closeTransaction s), exec_softReset_of_served ix served, rfl, rfl, rfl, rfl, rfl, rfl,
    rfl, rfl, rfl, rfl, rfl, restart_attention _, restart_internals _, fun c standing => ?_, ?_,
    fun a absent => ?_, fun w absent => ?_, fun p absent => ?_, fun c absent => ?_, rfl,
    restart_deviceFields _, fun a standing => restart_axleFields _ standing,
    fun w standing => restart_wheelFields _ standing, fun p standing => restart_tyreFields _ standing,
    fun c standing => restart_channelFields _ standing, restart_rolloverFields _⟩
  · rw [restart_channel]
    exact congrArg Channel.gapTimer (if_pos standing)
  · cases parity : s.device.parity <;> cases spacing : s.receiver.spacing <;>
      simp [restart, startInit, closeTransaction, freshReceiver, spacing, jamTime, characterTime,
        Device.restart, freshDevice, parity]
  · rw [restart_axle]
    exact Axle.restart_of_absent absent
  · rw [restart_wheel]
    exact Wheel.restart_of_absent absent
  · rw [restart_tyre]
    exact Tyre.restart_of_absent absent
  · rw [restart_channel]
    exact Channel.restart_of_absent absent _

end Sys2Proof.Machine
end

section
/-! The Valve Driver Stage exactly: what a request makes of an output, and what a valve action makes of a
channel's three solenoids (O19). -/

namespace Sys2Proof.Machine

/-! ### One output -/

/-- An output after a request is noted: a request off switches it off at once (R92). -/
def Output.noted (x : Output) (on : Bool) : Output :=
  if on then { x with requested := true }
  else if x.energised then freshOutput else { x with requested := false }

/-- An output that comes on, its blanking timer started (R94). -/
def Output.switchedOn (x : Output) (blank : Nat) : Output :=
  { x with energised := true, blanking := some blank, checked := false, lowCount := 0 }

/-- An output after a request: off at once if it is not wanted, on if it is wanted, may come on (R91) and is
free of the lockout and the gap (R92). -/
def Output.driven (x : Output) (want may : Bool) (blank : Nat) : Output :=
  if want && !x.energised && may then (x.noted want).switchedOn blank else x.noted want

theorem Output.noted_energised (x : Output) (on : Bool) :
    (x.noted on).energised = (on && x.energised) := by
  cases on <;> cases h : x.energised <;> simp [Output.noted, freshOutput, h]

theorem Output.noted_requested (x : Output) (on : Bool) : (x.noted on).requested = on := by
  cases on <;> cases h : x.energised <;> simp [Output.noted, freshOutput, h]

theorem Output.driven_requested (x : Output) (want may : Bool) (blank : Nat) :
    (x.driven want may blank).requested = want := by
  cases want <;> cases may <;> cases h : x.energised <;>
    simp [Output.driven, Output.noted, Output.switchedOn, freshOutput, h]

theorem Output.driven_energised (x : Output) (want may : Bool) (blank : Nat) :
    (x.driven want may blank).energised = (want && (x.energised || may)) := by
  cases want <;> cases may <;> cases h : x.energised <;>
    simp [Output.driven, Output.noted, Output.switchedOn, freshOutput, h]

/-- Noting a request and then serving it, where it may come on, drives the output. -/
theorem Output.driven_of_served (x : Output) {want free may : Bool} (blank : Nat)
    (same : want = true → free = may) :
    (if (x.noted want).requested && free && !(x.noted want).energised then
      (x.noted want).switchedOn blank else x.noted want) = x.driven want may blank := by
  cases want with
  | true =>
    rw [same rfl]
    cases may <;> cases on : x.energised <;> simp [Output.driven, Output.noted, on]
  | false => cases on : x.energised <;> simp [Output.driven, Output.noted, freshOutput, on]

/-- R92: an output that goes off is as fresh. -/
theorem Output.driven_of_off {x : Output} {want may : Bool} {blank : Nat} (was : x.energised = true)
    (off : (x.driven want may blank).energised = false) : x.driven want may blank = freshOutput := by
  rw [Output.driven_energised, was, Bool.true_or, Bool.and_true] at off
  subst off
  simp [Output.driven, Output.noted, was]

/-- R94: an output that comes on has its blanking timer started. -/
theorem Output.driven_of_on {x : Output} {want may : Bool} {blank : Nat} (was : x.energised = false)
    (on : (x.driven want may blank).energised = true) :
    x.driven want may blank = ⟨true, true, some blank, false, 0⟩ := by
  rw [Output.driven_energised, was, Bool.false_or, Bool.and_eq_true] at on
  obtain ⟨rfl, rfl⟩ := on
  simp [Output.driven, Output.noted, Output.switchedOn, was]

theorem deenergise_get_self (o : Fin 13) (s : State) : (deenergise o s).outputs[o] =
    if s.outputs[o].energised then { freshOutput with requested := s.outputs[o].requested }
    else s.outputs[o] := by
  unfold deenergise
  split
  · simp
  · rfl

theorem noteRequest_get_self (o : Fin 13) (on : Bool) (s : State) :
    (noteRequest o on s).outputs[o] = s.outputs[o].noted on := by
  cases on with
  | true => exact State.setOutput_get_self _ _ _
  | false =>
    refine (deenergise_get_self o (s.setOutput o { s.outputs[o] with requested := false })).trans ?_
    rw [State.setOutput_get_self]
    rfl

/-- R92: the gap that starts depends on the channels and the gap time alone. -/
theorem startGap_channels_congr (o : Fin 13) {s t : State} (device : t.device = s.device)
    (channels : t.channels = s.channels) : (startGap o t).channels = (startGap o s).channels := by
  unfold startGap State.setChannel
  rw [device]
  simp only [channels]
  split
  · rfl
  · split
    · rfl
    · exact channels

/-- R92: an output that goes off starts its gap. -/
theorem deenergise_channels (o : Fin 13) (s : State) : (deenergise o s).channels =
    if s.outputs[o].energised then (startGap o s).channels else s.channels := by
  unfold deenergise
  split
  · exact startGap_channels_congr o rfl rfl
  · rfl

/-- What a request for an output leaves of the channels: one that switches it off starts the gap (R92). -/
theorem noteRequest_channels (o : Fin 13) (on : Bool) (s : State) :
    (noteRequest o on s).channels =
      if !on && s.outputs[o].energised then (startGap o s).channels else s.channels := by
  cases on with
  | true => rfl
  | false =>
    refine (deenergise_channels o (s.setOutput o { s.outputs[o] with requested := false })).trans ?_
    rw [State.setOutput_get_self]
    exact if_congr Iff.rfl (startGap_channels_congr o rfl rfl) rfl

theorem noteRequest_inlet_channel (c : Fin 4) (on : Bool) (s : State) :
    (noteRequest (inletOf c) on s).channels[c] =
      if !on && s.outputs[inletOf c].energised then
        { s.channels[c] with gapTimer := some (s.device.changeoverGap * 1000), gapNote := .inlet }
      else s.channels[c] := by
  rw [noteRequest_channels, startGap_inletOf]
  split
  · exact State.setChannel_get_self _ _ _
  · rfl

theorem noteRequest_exhaust_channel (c : Fin 4) (on : Bool) (s : State) :
    (noteRequest (exhaustOf c) on s).channels[c] =
      if !on && s.outputs[exhaustOf c].energised then
        { s.channels[c] with gapTimer := some (s.device.changeoverGap * 1000), gapNote := .exhaust }
      else s.channels[c] := by
  rw [noteRequest_channels, startGap_exhaustOf]
  split
  · exact State.setChannel_get_self _ _ _
  · rfl

theorem noteRequest_backup_channel (c : Fin 4) (on : Bool) (s : State) :
    (noteRequest (backupOf c) on s).channels[c] = s.channels[c] := by
  rw [noteRequest_channels, startGap_backupOf, ite_self]

theorem energise_get_self (o : Fin 13) (s : State) : (energise o s).outputs[o] =
    if outputAllowed s o && !s.outputs[o].energised then
      s.outputs[o].switchedOn (s.device.blankingTime * 1000)
    else s.outputs[o] := by
  unfold energise
  split
  · exact State.setOutput_get_self _ _ _
  · rfl

/-- R92: an output that goes off is free of VALVE_OPEN. -/
theorem deenergise_closes {o : Fin 13} {s : State} (on : s.outputs[o].energised = true) :
    ((deenergise o s).faults.get (.valveOpen o)).present = false := by
  rw [deenergise, if_pos on, startGap_faults, (report_spec _ _ _).2.1]
  rfl

/-! ### What lets an output come on -/

/-- R91 depends on nothing that the drivers change. -/
theorem Drove.outputAllowed {s t : State} (h : Drove s t) (o : Fin 13) :
    outputAllowed t o = outputAllowed s o :=
  (h.gateKept h.device).allowed o

/-! ### A valve action -/

/-- A channel's requests noted: the first half of a valve action, which switches off what is not wanted. -/
def noteAction (c : Fin 4) (a : ValveAction) (s : State) : State :=
  noteRequest (backupOf c) (a != .allOff) (noteRequest (exhaustOf c) (a == .vent)
    (noteRequest (inletOf c) (a == .apply) (s.setChannel c { s.channels[c] with action := a })))

theorem requestAction_eq (c : Fin 4) (a : ValveAction) (s : State) : requestAction c a s =
    serveExhaust c (serveInlet c (serveBackup c (noteAction c a s))) := rfl

theorem noteAction_drove (c : Fin 4) (a : ValveAction) (s : State) : Drove s (noteAction c a s) :=
  (((setChannel_drove (x := { s.channels[c] with action := a }) ⟨rfl, id⟩).trans
    (noteRequest_drove (inletOf_ne_liftOutput c) _ _)).trans
    (noteRequest_drove (exhaustOf_ne_liftOutput c) _ _)).trans
    (noteRequest_drove (backupOf_ne_liftOutput c) _ _)

section
variable (c : Fin 4) (a : ValveAction) (s : State)

theorem noteAction_inlet : (noteAction c a s).outputs[inletOf c] =
    s.outputs[inletOf c].noted (a == .apply) := by
  rw [noteAction, noteRequest_other (backupOf_ne_inletOf c).symm,
    noteRequest_other (exhaustOf_ne_inletOf c).symm, noteRequest_get_self]
  rfl

theorem noteAction_exhaust : (noteAction c a s).outputs[exhaustOf c] =
    s.outputs[exhaustOf c].noted (a == .vent) := by
  rw [noteAction, noteRequest_other (backupOf_ne_exhaustOf c).symm, noteRequest_get_self,
    noteRequest_other (exhaustOf_ne_inletOf c)]
  rfl

theorem noteAction_backup : (noteAction c a s).outputs[backupOf c] =
    s.outputs[backupOf c].noted (a != .allOff) := by
  rw [noteAction, noteRequest_get_self, noteRequest_other (backupOf_ne_exhaustOf c),
    noteRequest_other (backupOf_ne_inletOf c)]
  rfl

theorem noteAction_other {o : Fin 13} (inlet : o ≠ inletOf c) (exhaust : o ≠ exhaustOf c)
    (backup : o ≠ backupOf c) : (noteAction c a s).outputs[o] = s.outputs[o] := by
  rw [noteAction, noteRequest_other backup, noteRequest_other exhaust, noteRequest_other inlet]
  rfl

end

/-- A channel after a valve action: the action written, and the gap of what went off started (R92). -/
def Channel.acted (x : Channel) (a : ValveAction) (inlet exhaust : Bool) (gap : Nat) : Channel :=
  { x with
    action := a
    gapTimer :=
      if (exhaust && a != .vent) || (inlet && a != .apply) then some gap else x.gapTimer
    gapNote :=
      if exhaust && a != .vent then .exhaust
      else if inlet && a != .apply then .inlet else x.gapNote }

theorem Channel.acted_gap (x : Channel) (a : ValveAction) (inlet exhaust : Bool) (gap : Nat) :
    ((x.acted a inlet exhaust gap).gapTimer, (x.acted a inlet exhaust gap).gapNote) =
      if exhaust = true ∧ a ≠ .vent then (some gap, .exhaust)
      else if inlet = true ∧ a ≠ .apply then (some gap, .inlet)
      else (x.gapTimer, x.gapNote) := by
  cases exhaust <;> cases inlet <;> cases a <;> rfl

theorem noteAction_channel (c : Fin 4) (a : ValveAction) (s : State) :
    (noteAction c a s).channels[c] = s.channels[c].acted a s.outputs[inletOf c].energised
      s.outputs[exhaustOf c].energised (s.device.changeoverGap * 1000) := by
  have gap : (noteRequest (inletOf c) (a == .apply)
      (s.setChannel c { s.channels[c] with action := a })).device.changeoverGap
        = s.device.changeoverGap := by
    rw [(noteRequest_valveOnly _ _ _).device]
    rfl
  have exhaust : (noteRequest (inletOf c) (a == .apply)
      (s.setChannel c { s.channels[c] with action := a })).outputs[exhaustOf c]
        = s.outputs[exhaustOf c] := noteRequest_other (exhaustOf_ne_inletOf c) _ _
  have noted : (noteRequest (inletOf c) (a == .apply)
      (s.setChannel c { s.channels[c] with action := a })).channels[c] =
        if !(a == .apply) && s.outputs[inletOf c].energised then
          { s.channels[c] with
            action := a, gapTimer := some (s.device.changeoverGap * 1000), gapNote := .inlet }
        else { s.channels[c] with action := a } := by
    rw [noteRequest_inlet_channel, State.setChannel_get_self]
    rfl
  rw [noteAction, noteRequest_backup_channel, noteRequest_exhaust_channel, exhaust, gap, noted]
  cases s.outputs[exhaustOf c].energised <;> cases s.outputs[inletOf c].energised <;> cases a <;> rfl

/-! Serving the requests: each of the three looks at the others' outputs as the notes left them. -/

theorem serveBackup_get_self (c : Fin 4) (s : State) : (serveBackup c s).outputs[backupOf c] =
    if s.outputs[backupOf c].requested && outputAllowed s (backupOf c)
        && !s.outputs[backupOf c].energised then
      s.outputs[backupOf c].switchedOn (s.device.blankingTime * 1000)
    else s.outputs[backupOf c] := by
  unfold serveBackup
  cases s.outputs[backupOf c].requested
  · rfl
  · exact energise_get_self _ _

theorem serveInlet_get_self (c : Fin 4) (s : State) : (serveInlet c s).outputs[inletOf c] =
    if s.outputs[inletOf c].requested && (!s.outputs[exhaustOf c].energised
        && gapFreesInlet s.channels[c] && outputAllowed s (inletOf c))
        && !s.outputs[inletOf c].energised then
      s.outputs[inletOf c].switchedOn (s.device.blankingTime * 1000)
    else s.outputs[inletOf c] := by
  unfold serveInlet
  cases s.outputs[inletOf c].requested <;> cases s.outputs[exhaustOf c].energised <;>
    cases gapFreesInlet s.channels[c]
  case true.false.true => exact energise_get_self _ _
  all_goals rfl

theorem serveExhaust_get_self (c : Fin 4) (s : State) : (serveExhaust c s).outputs[exhaustOf c] =
    if s.outputs[exhaustOf c].requested && (!s.outputs[inletOf c].energised
        && gapFreesExhaust s.channels[c] && outputAllowed s (exhaustOf c))
        && !s.outputs[exhaustOf c].energised then
      s.outputs[exhaustOf c].switchedOn (s.device.blankingTime * 1000)
    else s.outputs[exhaustOf c] := by
  unfold serveExhaust
  cases s.outputs[exhaustOf c].requested <;> cases s.outputs[inletOf c].energised <;>
    cases gapFreesExhaust s.channels[c]
  case true.false.true => exact energise_get_self _ _
  all_goals rfl

theorem serveBackup_other {c : Fin 4} {o : Fin 13} (h : o ≠ backupOf c) (s : State) :
    (serveBackup c s).outputs[o] = s.outputs[o] := by
  unfold serveBackup
  split
  · exact energise_other h s
  · rfl

theorem serveInlet_other {c : Fin 4} {o : Fin 13} (h : o ≠ inletOf c) (s : State) :
    (serveInlet c s).outputs[o] = s.outputs[o] := by
  unfold serveInlet
  split
  · exact energise_other h s
  · rfl

theorem serveExhaust_other {c : Fin 4} {o : Fin 13} (h : o ≠ exhaustOf c) (s : State) :
    (serveExhaust c s).outputs[o] = s.outputs[o] := by
  unfold serveExhaust
  split
  · exact energise_other h s
  · rfl

section
variable (c : Fin 4) (a : ValveAction) (s : State)

/-- The channel after a valve action. -/
theorem requestAction_channel : (requestAction c a s).channels[c] =
    s.channels[c].acted a s.outputs[inletOf c].energised s.outputs[exhaustOf c].energised
      (s.device.changeoverGap * 1000) := by
  rw [← noteAction_channel, requestAction_eq]
  exact congrArg (·[c]) (serveAll_servedOnly c _).channels

theorem requestAction_channel_ne {d : Fin 4} (h : d ≠ c) :
    (requestAction c a s).channels[d] = s.channels[d] :=
  ((requestAction_gapOnly c a s).other d h).trans (State.setChannel_get_ne _ _ _ _ h)

theorem requestAction_other {o : Fin 13} (inlet : o ≠ inletOf c) (exhaust : o ≠ exhaustOf c)
    (backup : o ≠ backupOf c) : (requestAction c a s).outputs[o] = s.outputs[o] := by
  rw [requestAction_eq, serveExhaust_other exhaust, serveInlet_other inlet, serveBackup_other backup,
    noteAction_other c a s inlet exhaust backup]

theorem requestAction_backup : (requestAction c a s).outputs[backupOf c] =
    s.outputs[backupOf c].driven (a != .allOff) (outputAllowed s (backupOf c))
      (s.device.blankingTime * 1000) := by
  rw [requestAction_eq, serveExhaust_other (backupOf_ne_exhaustOf c),
    serveInlet_other (backupOf_ne_inletOf c), serveBackup_get_self, noteAction_backup,
    (noteAction_drove c a s).outputAllowed, (noteAction_drove c a s).device]
  exact Output.driven_of_served _ _ fun _ => rfl

/-- R92: the gap that an exhaust's going off starts holds the inlet back. -/
theorem gapFreesInlet_acted (x : Channel) (inlet exhaust : Bool) (gap : Nat) :
    gapFreesInlet (x.acted .apply inlet exhaust gap) = (!exhaust && gapFreesInlet x) := by
  cases inlet <;> cases exhaust <;> rfl

theorem gapFreesExhaust_acted (x : Channel) (inlet exhaust : Bool) (gap : Nat) :
    gapFreesExhaust (x.acted .vent inlet exhaust gap) = (!inlet && gapFreesExhaust x) := by
  cases inlet <;> cases exhaust <;> rfl

theorem requestAction_inlet : (requestAction c a s).outputs[inletOf c] =
    s.outputs[inletOf c].driven (a == .apply)
      (!s.outputs[exhaustOf c].energised && gapFreesInlet s.channels[c]
        && outputAllowed s (inletOf c)) (s.device.blankingTime * 1000) := by
  have backed := serveBackup_drove c (noteAction c a s)
  have noted := (noteAction_drove c a s).trans backed
  have channel : (serveBackup c (noteAction c a s)).channels[c] = _ :=
    (congrArg (·[c]) (serveBackup_servedOnly c _).channels).trans (noteAction_channel c a s)
  rw [requestAction_eq, serveExhaust_other (exhaustOf_ne_inletOf c).symm, serveInlet_get_self, channel,
    serveBackup_other (backupOf_ne_inletOf c).symm, serveBackup_other (backupOf_ne_exhaustOf c).symm,
    noteAction_inlet, noteAction_exhaust, noted.outputAllowed, noted.device]
  refine Output.driven_of_served _ _ fun want => ?_
  obtain rfl : a = .apply := by simpa using want
  rw [gapFreesInlet_acted, Output.noted_energised]
  rfl

theorem requestAction_exhaust : (requestAction c a s).outputs[exhaustOf c] =
    s.outputs[exhaustOf c].driven (a == .vent)
      (!s.outputs[inletOf c].energised && gapFreesExhaust s.channels[c]
        && outputAllowed s (exhaustOf c)) (s.device.blankingTime * 1000) := by
  have backed := (serveBackup_drove c (noteAction c a s)).trans (serveInlet_drove c _)
  have noted := (noteAction_drove c a s).trans backed
  have channel : (serveInlet c (serveBackup c (noteAction c a s))).channels[c] = _ :=
    (congrArg (·[c]) ((serveBackup_servedOnly c _).trans (serveInlet_servedOnly c _)).channels).trans
      (noteAction_channel c a s)
  rw [requestAction_eq, serveExhaust_get_self, channel, serveInlet_other (exhaustOf_ne_inletOf c),
    serveBackup_other (backupOf_ne_exhaustOf c).symm, noteAction_exhaust, noted.outputAllowed,
    noted.device]
  refine Output.driven_of_served _ _ fun want => ?_
  obtain rfl : a = .vent := by simpa using want
  have idle : (serveInlet c (serveBackup c (noteAction c .vent s))).outputs[inletOf c].energised
      = false := by
    rw [serveInlet_get_self, serveBackup_other (backupOf_ne_inletOf c).symm, noteAction_inlet,
      Output.noted_requested]
    exact Output.noted_energised s.outputs[inletOf c] false
  rw [gapFreesExhaust_acted, idle]
  rfl

end

/-- R91, for an output of an existing or a missing channel. -/
theorem outputAllowed_of_channel_iff {c : Fin 4} {o : Fin 13}
    (own : o = inletOf c ∨ o = exhaustOf c ∨ o = backupOf c) (s : State) :
    outputAllowed s o = true ↔ (s.device.state = .active ∨ s.device.state = .waitRelease)
      ∧ s.device.failsafe = false ∧ s.faults.supplyLow.present = false
      ∧ s.channels[c].present = true ∧ s.faults.valveShort[o].latched = false := by
  have stands : outputExists s o = s.channels[c].present := by
    obtain rfl | rfl | rfl := own
    all_goals fin_cases c <;> rfl
  simp only [outputAllowed, outputsEnabled, stands, Bool.and_eq_true, inControl_iff, Bool.not_eq_true',
    supplyLow, and_assoc]

/-- R92: what a valve action leaves of the faults of an output that it switches off. -/
theorem noteRequest_closes {o : Fin 13} {s : State} (on : s.outputs[o].energised = true) :
    ((noteRequest o false s).faults.get (.valveOpen o)).present = false := by
  refine deenergise_closes (s := s.setOutput o { s.outputs[o] with requested := false }) ?_
  rw [State.setOutput_get_self]
  exact on

theorem Drove.absent {s t : State} (h : Drove s t) {f : FaultId}
    (absent : (s.faults.get f).present = false) : (t.faults.get f).present = false :=
  Bool.eq_false_iff.mpr fun present => Bool.eq_false_iff.mp absent (h.present f present)

theorem serveAll_drove (c : Fin 4) (s : State) :
    Drove s (serveExhaust c (serveInlet c (serveBackup c s))) :=
  ((serveBackup_drove _ _).trans (serveInlet_drove _ _)).trans (serveExhaust_drove _ _)

/-- R92, R94: an output that a valve action switches off has its VALVE_OPEN condition reported absent. -/
theorem requestAction_closes {c : Fin 4} {a : ValveAction} {o : Fin 13} {s : State}
    (own : o = inletOf c ∨ o = exhaustOf c ∨ o = backupOf c) (on : s.outputs[o].energised = true)
    (off : (requestAction c a s).outputs[o].energised = false) :
    ((requestAction c a s).faults.get (.valveOpen o)).present = false := by
  have unwanted {x : Output} {want may : Bool} {blank : Nat} (xOn : x.energised = true)
      (xOff : (x.driven want may blank).energised = false) : want = false := by
    rw [Output.driven_energised, xOn, Bool.true_or, Bool.and_true] at xOff
    exact xOff
  rw [requestAction_eq]
  refine (serveAll_drove c _).absent ?_
  unfold noteAction
  obtain rfl | rfl | rfl := own
  · rw [requestAction_inlet] at off
    refine ((noteRequest_drove (exhaustOf_ne_liftOutput c) _ _).trans
      (noteRequest_drove (backupOf_ne_liftOutput c) _ _)).absent ?_
    rw [unwanted on off]
    exact noteRequest_closes (s := s.setChannel c { s.channels[c] with action := a }) on
  · rw [requestAction_exhaust] at off
    refine (noteRequest_drove (backupOf_ne_liftOutput c) _ _).absent ?_
    rw [unwanted on off]
    refine noteRequest_closes ?_
    rw [noteRequest_other (exhaustOf_ne_inletOf c)]
    exact on
  · rw [requestAction_backup] at off
    rw [unwanted on off]
    refine noteRequest_closes ?_
    rw [noteRequest_other (backupOf_ne_exhaustOf c), noteRequest_other (backupOf_ne_inletOf c)]
    exact on

/-- Settles O19: each of the three outputs is driven by the request, and the gap follows what went off. -/
theorem valveActionDrivesSolenoids : Obligations.ValveActionDrivesSolenoids := by
  intro c action s t x on allowed
  have channel := requestAction_channel c action s
  have inlet := requestAction_inlet c action s
  have exhaust := requestAction_exhaust c action s
  have backup := requestAction_backup c action s
  have drove := requestAction_drove c action s
  have allow {o : Fin 13} (own : o = inletOf c ∨ o = exhaustOf c ∨ o = backupOf c) :
      outputAllowed s o = true ↔ allowed o := outputAllowed_of_channel_iff own s
  refine ⟨congrArg Channel.action channel, ?_, ?_, ?_, ?_, ?_, ?_, fun o own => ⟨fun was off => ⟨?_,
    requestAction_closes own was off⟩, fun was now => ?_⟩, ?_, ?_, fun d other =>
    requestAction_channel_ne c action s other, fun o i e b => requestAction_other c action s i e b,
    fun f _ => drove.latched f, drove.device, drove.axles, drove.rollover, drove.sameLink⟩
  · rw [inlet, Output.driven_requested, beq_iff_eq]
  · rw [exhaust, Output.driven_requested, beq_iff_eq]
  · rw [backup, Output.driven_requested, bne_iff_ne]
  · rw [inlet, Output.driven_energised]
    simp only [Bool.and_eq_true, Bool.or_eq_true, beq_iff_eq,
      Bool.not_eq_true', allow (.inl rfl), gapFreesInlet]
    exact and_congr_right' (or_congr_right and_comm)
  · rw [exhaust, Output.driven_energised]
    simp only [Bool.and_eq_true, Bool.or_eq_true, beq_iff_eq,
      Bool.not_eq_true', allow (.inr (.inl rfl)), gapFreesExhaust]
    exact and_congr_right' (or_congr_right and_comm)
  · rw [backup, Output.driven_energised]
    simp only [Bool.and_eq_true, Bool.or_eq_true, bne_iff_ne,
      allow (.inr (.inr rfl))]
    exact Iff.rfl
  · obtain rfl | rfl | rfl := own
    · rw [inlet] at off ⊢
      exact Output.driven_of_off was off
    · rw [exhaust] at off ⊢
      exact Output.driven_of_off was off
    · rw [backup] at off ⊢
      exact Output.driven_of_off was off
  · obtain rfl | rfl | rfl := own
    · rw [inlet] at now ⊢
      exact Output.driven_of_on was now
    · rw [exhaust] at now ⊢
      exact Output.driven_of_on was now
    · rw [backup] at now ⊢
      exact Output.driven_of_on was now
  · rw [channel]
    exact Channel.acted_gap _ _ _ _ _
  · rw [channel]
    rfl

end Sys2Proof.Machine
end

section
/-! Falling back and settling, exactly (O21, O7, O10, O23): what each leaves of a channel, of its outputs and
of its conditions. -/

namespace Sys2Proof.Machine

/-! ### Falling back -/

/-- A channel that falls back, before its valve action is written (R84). -/
def Channel.fallen (x : Channel) (reason : FallbackReason) : Channel :=
  ({ x.endExercise .fallback with state := .fallback, reason := reason, supplyTimer := none } :
    Channel).arbitrate

/-- An output is one of a channel's three. -/
def OutputOf (c : Fin 4) (o : Fin 13) : Prop := o = inletOf c ∨ o = exhaustOf c ∨ o = backupOf c

theorem outputOf_unique {c d : Fin 4} {o : Fin 13} (hc : OutputOf c o) (hd : OutputOf d o) : c = d := by
  obtain rfl | rfl | rfl := hc
  · obtain h | h | h := hd
    · exact inletOf_inj h
    · exact absurd h (inletOf_ne_exhaustOf _ _)
    · exact absurd h.symm (backupOf_ne_inletOf' _ _)
  · obtain h | h | h := hd
    · exact absurd h.symm (inletOf_ne_exhaustOf _ _)
    · exact exhaustOf_inj h
    · exact absurd h.symm (backupOf_ne_exhaustOf' _ _)
  · obtain h | h | h := hd
    · exact absurd h (backupOf_ne_inletOf' _ _)
    · exact absurd h (backupOf_ne_exhaustOf' _ _)
    · exact Fin.ext (by simpa [backupOf] using h)

theorem liftOutput_not_outputOf (c : Fin 4) : ¬OutputOf c liftOutput := by
  rintro (h | h | h)
  · exact inletOf_ne_liftOutput c h.symm
  · exact exhaustOf_ne_liftOutput c h.symm
  · exact backupOf_ne_liftOutput c h.symm

section
variable (c : Fin 4) (s : State)

/-- A channel's three solenoids asked off. -/
theorem requestAction_allOff_own {o : Fin 13} (own : OutputOf c o) :
    (requestAction c .allOff s).outputs[o] = s.outputs[o].noted false := by
  obtain rfl | rfl | rfl := own
  · exact requestAction_inlet c .allOff s
  · exact requestAction_exhaust c .allOff s
  · exact requestAction_backup c .allOff s

theorem enterFallback_eq : enterFallback c s = requestAction c .allOff (report (.supplyWait c) false
    (s.setChannel c (s.channels[c].fallen (fallbackReason s c)))) := rfl

theorem enterFallback_channel : (enterFallback c s).channels[c] =
    (s.channels[c].fallen (fallbackReason s c)).acted .allOff s.outputs[inletOf c].energised
      s.outputs[exhaustOf c].energised (s.device.changeoverGap * 1000) := by
  refine (requestAction_channel c .allOff _).trans ?_
  rw [report_channels, State.setChannel_get_self]
  rfl

theorem enterFallback_channel_ne {d : Fin 4} (h : d ≠ c) :
    (enterFallback c s).channels[d] = s.channels[d] :=
  (requestAction_channel_ne c .allOff _ h).trans (State.setChannel_get_ne _ _ _ _ h)

theorem enterFallback_own {o : Fin 13} (own : OutputOf c o) :
    (enterFallback c s).outputs[o] = s.outputs[o].noted false :=
  requestAction_allOff_own c _ own

theorem enterFallback_other {o : Fin 13} (other : ¬OutputOf c o) :
    (enterFallback c s).outputs[o] = s.outputs[o] :=
  requestAction_other c .allOff _ (fun h => other (.inl h)) (fun h => other (.inr (.inl h)))
    fun h => other (.inr (.inr h))

/-- R84: a channel that falls back no longer waits for supply. -/
theorem enterFallback_notWaiting :
    ((enterFallback c s).faults.get (.supplyWait c)).present = false := by
  refine (requestAction_drove c .allOff _).absent ?_
  rw [(report_spec _ _ _).2.1]
  rfl

end

/-! ### Following the fallback reason -/

section
variable {c : Fin 4} {s : State}

theorem followReason_of_absent (absent : s.channels[c].present = false) : followReason c s = s := by
  rw [followReason, absent]
  rfl

theorem followReason_of_off (off : s.channels[c].state = .off) : followReason c s = s := by
  unfold followReason
  rw [off]
  exact ite_self s

theorem followReason_of_noReason (none : fallbackReason s c = .noReason) : followReason c s = s := by
  rw [followReason, none, bne_self_eq_false, Bool.and_false]
  rfl

theorem followReason_of_fallback (standing : s.channels[c].present = true)
    (reason : fallbackReason s c ≠ .noReason) (fallback : s.channels[c].state = .fallback) :
    followReason c s = s.setChannel c { s.channels[c] with reason := fallbackReason s c } := by
  rw [followReason, standing, fallback, if_pos (by simpa using reason)]

theorem followReason_of_running (standing : s.channels[c].present = true)
    (reason : fallbackReason s c ≠ .noReason) (notOff : s.channels[c].state ≠ .off)
    (notFallback : s.channels[c].state ≠ .fallback) : followReason c s = enterFallback c s := by
  rw [followReason, standing, if_pos (by simpa using reason)]
  cases state : s.channels[c].state
  case off => exact absurd state notOff
  case fallback => exact absurd state notFallback
  all_goals rfl

end

theorem followReason_cases (c : Fin 4) (s : State) : followReason c s = s
    ∨ followReason c s = s.setChannel c { s.channels[c] with reason := fallbackReason s c }
    ∨ followReason c s = enterFallback c s := by
  unfold followReason
  split
  · split
    case h_1 | h_2 | h_3 => exact .inr (.inr rfl)
    case h_4 => exact .inr (.inl rfl)
    case h_5 => exact .inl rfl
  · exact .inl rfl

/-- A channel's following leaves the other channels alone. -/
theorem followReason_channel_ne {c d : Fin 4} (h : d ≠ c) (s : State) :
    (followReason c s).channels[d] = s.channels[d] := by
  obtain same | same | same := followReason_cases c s
  · rw [same]
  · rw [same, State.setChannel_get_ne _ _ _ _ h]
  · rw [same, enterFallback_channel_ne c s h]

/-- A channel's following leaves the outputs of the others alone. -/
theorem followReason_other {c : Fin 4} {o : Fin 13} (other : ¬OutputOf c o) (s : State) :
    (followReason c s).outputs[o] = s.outputs[o] := by
  obtain same | same | same := followReason_cases c s
  · rw [same]
  · rw [same]
    rfl
  · rw [same, enterFallback_other c s other]

/-- R84: falling back switches outputs off only. -/
theorem enterFallback_energised {c : Fin 4} {o : Fin 13} {s : State}
    (on : (enterFallback c s).outputs[o].energised = true) : s.outputs[o].energised = true := by
  by_cases own : OutputOf c o
  · rw [enterFallback_own c s own, Output.noted_energised] at on
    cases on
  · rwa [enterFallback_other c s own] at on

/-- R83: following switches outputs off only. -/
theorem followReason_energised {c : Fin 4} {o : Fin 13} {s : State}
    (on : (followReason c s).outputs[o].energised = true) : s.outputs[o].energised = true := by
  obtain same | same | same := followReason_cases c s
  · rwa [same] at on
  · rw [same] at on
    exact on
  · rw [same] at on
    exact enterFallback_energised on

/-! ### The fallback reason (R83) -/

theorem faulty_iff (s : State) (f : FaultId) :
    faulty s f = true ↔ (s.faults.get f).present = true ∨ (s.faults.get f).latched = true := by
  rw [faulty, Bool.or_eq_true]

theorem channelValveFault_iff (s : State) (d : Fin 4) : channelValveFault s d = true ↔
    faulty s (.valveOpen (inletOf d)) = true ∨ faulty s (.valveShort (inletOf d)) = true
      ∨ faulty s (.valveOpen (exhaustOf d)) = true ∨ faulty s (.valveShort (exhaustOf d)) = true
      ∨ faulty s (.valveOpen (backupOf d)) = true ∨ faulty s (.valveShort (backupOf d)) = true := by
  simp only [channelValveFault, outputFaulty, Bool.or_eq_true, or_assoc]

theorem anyValveFault_iff (s : State) : anyValveFault s = true ↔
    ∃ d : Fin 4, s.channels[d].present = true ∧ channelValveFault s d = true := by
  simp [anyValveFault]

/-- Settles O21: the reason row by row, and a running channel's fall. -/
theorem fallbackReasonIsTheFirstThatHolds : Obligations.FallbackReasonIsTheFirstThatHolds := by
  intro c s bad valve
  refine ⟨?_, fun standing reason => ⟨followReason_of_off,
    followReason_of_fallback standing reason, fun notOff notFallback => ?_⟩⟩
  · have faults (f : FaultId) : faulty s f = true ↔ bad f := faulty_iff s f
    have valves (d : Fin 4) : channelValveFault s d = true ↔ valve d := by
      rw [channelValveFault_iff]
      simp only [faults]
      rfl
    have control : (!inControl s) = true ↔ s.device.state ≠ .active ∧ s.device.state ≠ .waitRelease := by
      rw [Bool.not_eq_true', ← Bool.not_eq_true, inControl_iff, not_or]
    simp only [fallbackReason, Bool.or_eq_true, Bool.and_eq_true, control, faults, valves,
      anyValveFault_iff, supplyLow, or_assoc]
  · have fell := followReason_of_running standing reason notOff notFallback
    have channel := enterFallback_channel c s
    have off {o : Fin 13} (own : OutputOf c o) : (enterFallback c s).outputs[o].energised = false := by
      rw [enterFallback_own c s own, Output.noted_energised]
      rfl
    rw [fell, channel]
    exact ⟨rfl, rfl, rfl, rfl, rfl, rfl, rfl, off (.inl rfl), off (.inr (.inl rfl)),
      off (.inr (.inr rfl)), enterFallback_notWaiting c s⟩

/-! ### Switching off what may no longer be on (R91) -/

/-- Of the channels, only changeover gaps may differ. -/
def GapsOnly (s t : State) : Prop := ∀ c : Fin 4, t.channels[c] =
  { s.channels[c] with gapTimer := t.channels[c].gapTimer, gapNote := t.channels[c].gapNote }

theorem GapsOnly.refl (s : State) : GapsOnly s s := fun _ => rfl

theorem GapsOnly.trans {s t u : State} (a : GapsOnly s t) (b : GapsOnly t u) : GapsOnly s u :=
  fun c => by rw [b c, a c]

theorem GapsOnly.setChannel {c : Fin 4} {timer : Timer} {note : GapNote} (s : State) :
    GapsOnly s (s.setChannel c { s.channels[c] with gapTimer := timer, gapNote := note }) := fun d => by
  by_cases same : d = c
  · subst same
    rw [State.setChannel_get_self]
  · rw [State.setChannel_get_ne _ _ _ _ same]

theorem startGap_gapsOnly (o : Fin 13) (s : State) : GapsOnly s (startGap o s) := by
  unfold startGap
  split
  · next inlet => exact .setChannel (c := ⟨o.val, inlet⟩) s
  · split
    · exact .setChannel (c := ⟨o.val - 4, _⟩) s
    · exact .refl s

theorem deenergise_gapsOnly (o : Fin 13) (s : State) : GapsOnly s (deenergise o s) := by
  intro c
  have channels := deenergise_channels o s
  split at channels
  · rw [channels]
    exact startGap_gapsOnly o s c
  · rw [channels]

/-- One pass of the switching off. -/
def dropOne (o : Fin 13) (s : State) : State := if outputAllowed s o then s else deenergise o s

theorem dropDisallowed_eq (s : State) : dropDisallowed s = forEach 13 dropOne s := rfl

theorem dropOne_drove (o : Fin 13) (s : State) : Drove s (dropOne o s) := by
  unfold dropOne
  split
  · exact .refl s
  · exact deenergise_drove o s

theorem dropOne_other {o o' : Fin 13} (h : o' ≠ o) (s : State) :
    (dropOne o s).outputs[o'] = s.outputs[o'] := by
  unfold dropOne
  split
  · rfl
  · exact deenergise_other h s

theorem dropDisallowed_gapsOnly (s : State) : GapsOnly s (dropDisallowed s) :=
  forEach_rel GapsOnly .refl .trans (fun o t => by
    split
    · exact .refl t
    · exact deenergise_gapsOnly o t) s

theorem dropDisallowed_output (s : State) (o : Fin 13) : (dropDisallowed s).outputs[o] =
    if s.outputs[o].energised && !outputAllowed s o then
      { freshOutput with requested := s.outputs[o].requested }
    else s.outputs[o] := by
  obtain ⟨u, reached, unmoved, -, last⟩ := forEach_at Drove .refl .trans dropOne_drove
    (fun t => t.outputs[o]) o (fun i t ne => dropOne_other ne.symm t) s
  rw [dropDisallowed_eq, last]
  have allowed := reached.outputAllowed o
  have output := deenergise_get_self o u
  rw [unmoved] at output
  unfold dropOne
  rw [allowed]
  cases outputAllowed s o with
  | true =>
    rw [Bool.not_true, Bool.and_false]
    exact unmoved
  | false =>
    rw [Bool.not_false, Bool.and_true]
    exact output

theorem dropDisallowed_energised (s : State) (o : Fin 13) :
    (dropDisallowed s).outputs[o].energised = (s.outputs[o].energised && outputAllowed s o) := by
  rw [dropDisallowed_output]
  generalize s.outputs[o] = x
  cases on : x.energised <;> cases outputAllowed s o <;> simp [on, freshOutput]

/-- With every output off nothing is switched off. -/
theorem dropDisallowed_of_off {s : State} (off : ∀ o : Fin 13, s.outputs[o].energised = false) :
    dropDisallowed s = s := by
  refine forEach_keeps (· = s) (fun o t same => ?_) s rfl
  subst same
  split
  · rfl
  · rw [deenergise, off o]
    rfl

/-! ### Settling -/

/-- A settling, seen from one channel: the switching off, the other channels' following, which leaves it
alone, and its own. -/
theorem settle_at (c : Fin 4) (s : State) : ∃ u, Drove s u ∧ GapsOnly s (dropDisallowed s)
    ∧ u.channels[c] = (dropDisallowed s).channels[c]
    ∧ (∀ o, OutputOf c o → u.outputs[o] = (dropDisallowed s).outputs[o])
    ∧ (settle s).channels[c] = (followReason c u).channels[c]
    ∧ (∀ o, OutputOf c o → (settle s).outputs[o] = (followReason c u).outputs[o])
    ∧ Drove (followReason c u) (settle s) := by
  obtain ⟨u, reached, unmoved, left, last⟩ := forEach_at Drove .refl .trans followReason_drove
    (fun t => (t.channels[c], fun o : { o // OutputOf c o } => t.outputs[o.val])) c
    (fun d t ne => Prod.ext (followReason_channel_ne ne.symm t) (funext fun o =>
      followReason_other (fun other => ne (outputOf_unique other o.property)) t)) (dropDisallowed s)
  obtain ⟨channel, outputs⟩ := Prod.mk.inj unmoved
  obtain ⟨lastChannel, lastOutputs⟩ := Prod.mk.inj last
  exact ⟨u, (dropDisallowed_drove s).trans reached, dropDisallowed_gapsOnly s, channel,
    fun o own => congrFun outputs ⟨o, own⟩, lastChannel, fun o own => congrFun lastOutputs ⟨o, own⟩, left⟩

/-- R91: settling switches outputs off only, and every output that may not be on. -/
theorem settle_energised {o : Fin 13} {s : State} (on : (settle s).outputs[o].energised = true) :
    s.outputs[o].energised = true ∧ outputAllowed s o = true := by
  have later : (settle s).outputs[o].energised = true →
      (dropDisallowed s).outputs[o].energised = true :=
    forEach_keeps (f := followReason)
      (fun t => t.outputs[o].energised = true → (dropDisallowed s).outputs[o].energised = true)
      (fun c t ih on => ih (followReason_energised on)) (dropDisallowed s) fun h => h
  have dropped := later on
  rw [dropDisallowed_energised, Bool.and_eq_true] at dropped
  exact dropped

/-- R83: what settling leaves of a channel that has a reason, whatever the drivers do meanwhile. -/
theorem settle_falls {c : Fin 4} {s : State} (standing : s.channels[c].present = true)
    (notOff : s.channels[c].state ≠ .off)
    (reason : ∀ u, Drove s u → fallbackReason u c ≠ .noReason) :
    (settle s).channels[c].state = .fallback
      ∧ (∃ u, Drove s u ∧ (settle s).channels[c].reason = fallbackReason u c)
      ∧ (s.channels[c].state ≠ .fallback → ∀ o, OutputOf c o →
        (settle s).outputs[o].energised = false) := by
  obtain ⟨u, drove, gaps, channel, -, last, outputs, -⟩ := settle_at c s
  have same := channel.trans (gaps c)
  have standingU : u.channels[c].present = true := by
    rw [same]
    exact standing
  have stateU : u.channels[c].state = s.channels[c].state := by rw [same]
  by_cases fallback : s.channels[c].state = .fallback
  · rw [last, followReason_of_fallback standingU (reason u drove) (stateU.trans fallback),
      State.setChannel_get_self]
    exact ⟨stateU.trans fallback, ⟨u, drove, rfl⟩, fun h => absurd fallback h⟩
  · have fell := followReason_of_running standingU (reason u drove) (by rwa [stateU])
      (by rwa [stateU])
    rw [last, fell, enterFallback_channel]
    refine ⟨rfl, ⟨u, drove, rfl⟩, fun _ o own => ?_⟩
    rw [outputs o own, fell, enterFallback_own c u own, Output.noted_energised]
    rfl

end Sys2Proof.Machine
end

section
/-! The commands of the drivers and of the lift axle's timers (O7, O10, O23, O36). -/

namespace Sys2Proof.Machine

/-! ### Reasons that the drivers' own work does not change -/

theorem Drove.inControl_eq {s t : State} (h : Drove s t) : inControl t = inControl s := by
  rw [inControl, h.device]
  rfl

/-- R83: the first four rows read nothing that the drivers change. -/
theorem Drove.fallbackReason_eq {s t : State} (h : Drove s t) {c : Fin 4}
    (notFault : fallbackReason s c ≠ .fault) (some : fallbackReason s c ≠ .noReason) :
    fallbackReason t c = fallbackReason s c := by
  have low : supplyLow t = supplyLow s := (h.gateKept h.device).supply
  have demand : faulty t .demand = faulty s .demand := by
    unfold faulty
    rw [h.others .demand (fun _ => FaultId.noConfusion) fun _ => FaultId.noConfusion]
  have control := h.inControl_eq
  unfold fallbackReason at notFault some ⊢
  rw [control, h.device, low, demand]
  split
  · rfl
  · split
    · rfl
    · split
      · rfl
      · split
        · rfl
        · next a b c d =>
          rw [if_neg a, if_neg b, if_neg c, if_neg d] at notFault some
          split at notFault
          · exact absurd rfl notFault
          · next e =>
            rw [if_neg e] at some
            exact absurd rfl some

theorem Drove.fallbackReason_ne {s t : State} (h : Drove s t) {c : Fin 4}
    (notFault : fallbackReason s c ≠ .fault) (some : fallbackReason s c ≠ .noReason) :
    fallbackReason t c ≠ .noReason := by
  rw [h.fallbackReason_eq notFault some]
  exact some

/-- R83 with a reason of its first four rows: what settling leaves of the channel. -/
theorem settle_falls_with {c : Fin 4} {s : State} (standing : s.channels[c].present = true)
    (notOff : s.channels[c].state ≠ .off) (notFault : fallbackReason s c ≠ .fault)
    (some : fallbackReason s c ≠ .noReason) :
    (settle s).channels[c].state = .fallback
      ∧ (settle s).channels[c].reason = fallbackReason s c := by
  obtain ⟨state, ⟨u, drove, reason⟩, -⟩ :=
    settle_falls standing notOff fun u drove => drove.fallbackReason_ne notFault some
  exact ⟨state, reason.trans (drove.fallbackReason_eq notFault some)⟩

/-- R82, R91: out of control every output goes off. -/
theorem outputAllowed_of_notEnabled {s : State} (off : outputsEnabled s = false) (o : Fin 13) :
    outputAllowed s o = false := by
  rw [outputAllowed, off]
  rfl

theorem settle_off {s : State} (off : outputsEnabled s = false) (o : Fin 13) :
    (settle s).outputs[o].energised = false :=
  Bool.eq_false_iff.mpr fun on => by
    have allowed := (settle_energised on).2
    rw [outputAllowed_of_notEnabled off] at allowed
    cases allowed

/-- R82, R83: a channel that has fallen back stays there at a settling. -/
theorem settle_keeps_fallback {c : Fin 4} {s : State} (fallback : s.channels[c].state = .fallback) :
    (settle s).channels[c].state = .fallback := by
  obtain ⟨u, -, gaps, channel, -, last, -, -⟩ := settle_at c s
  have stateU : u.channels[c].state = .fallback := by
    rw [channel, gaps c]
    exact fallback
  rw [last]
  obtain same | same | same := followReason_cases c u
  · rw [same, stateU]
  · rw [same, State.setChannel_get_self]
    exact stateU
  · rw [same, enterFallback_channel]
    rfl

/-! ### The forced lowering -/

theorem startGap_liftOutput (s : State) : startGap liftOutput s = s := rfl

theorem requestLift_channels (on : Bool) (s : State) : (requestLift on s).channels = s.channels := by
  have noted : (noteRequest liftOutput on s).channels = s.channels := by
    rw [noteRequest_channels, startGap_liftOutput, ite_self]
  unfold requestLift
  dsimp only
  split
  · rw [energise_channels, noted]
  · exact noted

theorem startLowering_channels (a : Fin 4) (s : State) : (startLowering a s).channels = s.channels := by
  unfold startLowering
  rw [requestLift_channels]
  rfl

theorem startLowering_other {o : Fin 13} (h : o ≠ liftOutput) (a : Fin 4) (s : State) :
    (startLowering a s).outputs[o] = s.outputs[o] := by
  unfold startLowering
  rw [requestLift_other h]
  rfl

theorem forceLowering_channels (s : State) : (forceLowering s).channels = s.channels :=
  forceLowering_keeps (P := fun t => t.channels = s.channels) rfl fun a => startLowering_channels a s

theorem forceLowering_of_none {s : State} (none : liftAxle s = none) : forceLowering s = s := by
  rw [forceLowering, none]

theorem forceLowering_axle_ne {s : State} {a : Fin 4} (h : liftAxle s ≠ some a) :
    (forceLowering s).axles[a] = s.axles[a] := by
  unfold forceLowering
  split
  · rfl
  · next b found =>
    have other : a ≠ b := fun same => h (by rw [found, same])
    split
    case h_1 | h_2 => exact startLowering_axle_ne other s
    case h_3 | h_4 | h_5 => rfl

/-- R64: a settling leaves what the forced lowering demand has done. -/
theorem ForcedLowering.settle {s t : State} (h : ForcedLowering s t) :
    ForcedLowering s (settle t) := by
  have drove := settle_drove t
  intro a found
  have forced := h a found
  rw [drove.axles, drove.lift, drove.liftRequest]
  split
  · next lowers =>
    rw [if_pos lowers] at forced
    obtain ⟨axle, lift, requested, off⟩ := forced
    exact ⟨axle, lift, requested, Bool.eq_false_iff.mpr fun on =>
      absurd (settle_energised on).1 (Bool.eq_false_iff.mp off)⟩
  · next stays =>
    rwa [if_neg stays] at forced

/-- R174: the device state changes otherwise than out of ACTIVE. -/
theorem setDeviceState_of_not_active {d : DeviceState} {s : State} (h : s.device.state ≠ .active) :
    setDeviceState d s = settle { s with device := { s.device with state := d } } := by
  refine congrArg settle (if_neg ?_)
  rw [Bool.and_eq_true, beq_iff_eq]
  exact fun both => h both.1

/-! ### FAILSAFE -/

/-- Settles O10: what FAILSAFE's rows of R83 and R91 and the forced lowering leave. -/
theorem failsafeLineDropsOutputs : Obligations.FailsafeLineDropsOutputs := by
  intro s running
  refine ⟨⟨_, congrArg Host.Outcome.next (whileRunning_of_running running), ?_⟩,
    ⟨_, congrArg Host.Outcome.next (whileRunning_of_running running), ?_⟩⟩
  · have forced := forceLowering_forced { s with device := { s.device with failsafe := true } }
    have lowered := forceLowering_liftDrove { s with device := { s.device with failsafe := true } }
    have channels := forceLowering_channels { s with device := { s.device with failsafe := true } }
    have axles (a : Fin 4) (h : liftAxle s ≠ some a) :
        (forceLowering { s with device := { s.device with failsafe := true } }).axles[a] = s.axles[a] :=
      forceLowering_axle_ne h
    have noLift (none : liftAxle s = none) :
        (forceLowering { s with device := { s.device with failsafe := true } }).lift = s.lift := by
      rw [forceLowering_of_none (s := { s with device := { s.device with failsafe := true } }) none]
    generalize forceLowering { s with device := { s.device with failsafe := true } } = u at *
    have drove := settle_drove u
    have failsafe : u.device.failsafe = true := by rw [lowered.device]
    have state : u.device.state = s.device.state := by rw [lowered.device]
    have reason (c : Fin 4) : fallbackReason u c =
        if s.device.state = .active ∨ s.device.state = .waitRelease then .failsafe else .notActive := by
      unfold fallbackReason
      rw [failsafe]
      by_cases control : s.device.state = .active ∨ s.device.state = .waitRelease
      · rw [if_pos control, (inControl_iff u).mpr (by rwa [state])]
        rfl
      · rw [if_neg control, Bool.eq_false_iff.mpr ((inControl_iff u).not.mpr (by rwa [state]))]
        rfl
    refine ⟨drove.device.trans lowered.device, settle_off (by simp [outputsEnabled, failsafe]),
      fun c standing notOff => ?_, forced.settle, fun a h => ?_, fun none => ?_, fun f _ => ?_,
      drove.analog.trans lowered.analog, drove.capture.trans lowered.capture,
      drove.loadUnit.trans lowered.loadUnit, drove.wheels.trans lowered.wheels,
      drove.tyres.trans lowered.tyres, drove.rollover.trans lowered.rollover,
      drove.receiver.trans lowered.receiver, drove.supervisor.trans lowered.supervisor,
      drove.sameLink.trans lowered.sameLink⟩
    · rw [← reason c]
      refine settle_falls_with (by rwa [channels]) (by rwa [channels]) ?_ ?_
      · rw [reason]
        split <;> decide
      · rw [reason]
        split <;> decide
    · rw [drove.axles, axles a h]
    · rw [drove.lift, noLift none]
    · rw [drove.latched, lowered.latched]
  · have drove := settle_drove { s with device := { s.device with failsafe := false } }
    exact ⟨drove.device, fun o on => (settle_energised on).1,
      fun c _ fallback => settle_keeps_fallback fallback, fun f _ => drove.latched f, drove.analog,
      drove.capture, drove.loadUnit, drove.lift, drove.axles, drove.wheels, drove.tyres,
      drove.rollover, drove.receiver, drove.supervisor, drove.sameLink⟩

/-! ### Switching off outputs that are off -/

/-- The faults that are no VALVE_OPEN of a channel's own stand at its valve actions. -/
theorem deenergise_faults {o : Fin 13} {f : FaultId} (other : f ≠ .valveOpen o) (s : State) :
    (deenergise o s).faults.get f = s.faults.get f := by
  unfold deenergise
  split
  · rw [startGap_faults, (report_spec _ _ _).2.2.2.1 f other]
    rfl
  · rfl

theorem noteRequest_faults {o : Fin 13} {f : FaultId} (other : f ≠ .valveOpen o) (on : Bool)
    (s : State) : (noteRequest o on s).faults.get f = s.faults.get f := by
  cases on with
  | true => rfl
  | false => exact deenergise_faults other (s.setOutput o { s.outputs[o] with requested := false })

theorem serveAll_faults (c : Fin 4) (s : State) :
    (serveExhaust c (serveInlet c (serveBackup c s))).faults = s.faults := by
  have backup : (serveBackup c s).faults = s.faults := by
    unfold serveBackup
    split
    · exact energise_faults _ _
    · rfl
  have inlet (t : State) : (serveInlet c t).faults = t.faults := by
    unfold serveInlet
    split
    · exact energise_faults _ _
    · rfl
  have exhaust (t : State) : (serveExhaust c t).faults = t.faults := by
    unfold serveExhaust
    split
    · exact energise_faults _ _
    · rfl
  rw [exhaust, inlet, backup]

theorem requestAction_faults {c : Fin 4} {f : FaultId}
    (other : ∀ o, OutputOf c o → f ≠ .valveOpen o) (a : ValveAction) (s : State) :
    (requestAction c a s).faults.get f = s.faults.get f := by
  rw [requestAction_eq, serveAll_faults, noteAction, noteRequest_faults (other _ (.inr (.inr rfl))),
    noteRequest_faults (other _ (.inr (.inl rfl))), noteRequest_faults (other _ (.inl rfl))]
  rfl

/-- A request for an output that is off reports nothing. -/
theorem noteRequest_faults_of_off {o : Fin 13} {s : State} (on : Bool)
    (off : s.outputs[o].energised = false) : (noteRequest o on s).faults = s.faults := by
  cases on with
  | true => rfl
  | false =>
    have same : noteRequest o false s = s.setOutput o { s.outputs[o] with requested := false } := by
      refine if_neg ?_
      rw [State.setOutput_get_self, off]
      exact Bool.false_ne_true
    rw [same]
    rfl

/-- A valve action on a channel with its outputs off reports nothing. -/
theorem requestAction_faults_of_off {c : Fin 4} {s : State}
    (off : ∀ o, OutputOf c o → s.outputs[o].energised = false) (a : ValveAction) :
    (requestAction c a s).faults = s.faults := by
  rw [requestAction_eq, serveAll_faults]
  unfold noteAction
  have outputs : (s.setChannel c { s.channels[c] with action := a }).outputs = s.outputs := rfl
  have faults : (s.setChannel c { s.channels[c] with action := a }).faults = s.faults := rfl
  generalize s.setChannel c { s.channels[c] with action := a } = t at outputs faults ⊢
  have idle {o : Fin 13} (own : OutputOf c o) : t.outputs[o].energised = false := by
    have same := off o own
    rwa [← outputs] at same
  rw [noteRequest_faults_of_off, noteRequest_faults_of_off, noteRequest_faults_of_off, faults]
  · exact idle (.inl rfl)
  · rw [noteRequest_other (exhaustOf_ne_inletOf c)]
    exact idle (.inr (.inl rfl))
  · rw [noteRequest_other (backupOf_ne_exhaustOf c), noteRequest_other (backupOf_ne_inletOf c)]
    exact idle (.inr (.inr rfl))

/-- R84: a fall reports of the faults the channel's own wait and its own valves alone. -/
theorem enterFallback_faults {c : Fin 4} {f : FaultId} (wait : f ≠ .supplyWait c)
    (other : ∀ o, OutputOf c o → f ≠ .valveOpen o) (s : State) :
    (enterFallback c s).faults.get f = s.faults.get f := by
  rw [enterFallback_eq, requestAction_faults other, (report_spec _ _ _).2.2.2.1 f wait]
  rfl

theorem enterFallback_wait (c : Fin 4) (s : State) : (enterFallback c s).faults.get (.supplyWait c) =
    ⟨false, (s.faults.get (.supplyWait c)).latched⟩ := by
  have latched := (enterFallback_drove c s).latched (.supplyWait c)
  have present := enterFallback_notWaiting c s
  rw [← latched, ← present]

theorem enterFallback_faults_of_off {c : Fin 4} {s : State}
    (off : ∀ o, OutputOf c o → s.outputs[o].energised = false) {f : FaultId}
    (wait : f ≠ .supplyWait c) : (enterFallback c s).faults.get f = s.faults.get f := by
  rw [enterFallback_eq]
  have outputs : (s.setChannel c (s.channels[c].fallen (fallbackReason s c))).outputs = s.outputs := rfl
  have faults : (s.setChannel c (s.channels[c].fallen (fallbackReason s c))).faults = s.faults := rfl
  generalize s.setChannel c (s.channels[c].fallen (fallbackReason s c)) = t at outputs faults ⊢
  have idle (o : Fin 13) (own : OutputOf c o) :
      (report (.supplyWait c) false t).outputs[o].energised = false := by
    have same := off o own
    rw [← outputs] at same
    exact same
  have still := requestAction_faults_of_off idle .allOff
  have others := (report_spec (.supplyWait c) false t).2.2.2.1 f wait
  rw [still, others, faults]

/-! ### The end of INIT -/

theorem leaveOff_of_off {c : Fin 4} {s : State} (standing : s.channels[c].present = true)
    (off : s.channels[c].state = .off) : leaveOff c s = enterFallback c s := by
  refine if_pos ?_
  rw [standing, off]
  rfl

theorem leaveOff_of_not {c : Fin 4} {s : State}
    (not : ¬(s.channels[c].present = true ∧ s.channels[c].state = .off)) : leaveOff c s = s := by
  refine if_neg fun both => not ?_
  simpa using both

theorem leaveOff_cases (c : Fin 4) (s : State) :
    leaveOff c s = s ∨ leaveOff c s = enterFallback c s := by
  unfold leaveOff
  split
  · exact .inr rfl
  · exact .inl rfl

theorem leaveOff_energised {c : Fin 4} {o : Fin 13} {s : State}
    (on : (leaveOff c s).outputs[o].energised = true) : s.outputs[o].energised = true := by
  obtain same | same := leaveOff_cases c s
  · rwa [same] at on
  · rw [same] at on
    exact enterFallback_energised on

/-- What the leaving of OFF reads and writes of one channel: its record, its outputs and its wait. -/
def channelPart (c : Fin 4) (s : State) : Channel × ({ o // OutputOf c o } → Output) × FaultMark :=
  (s.channels[c], fun o => s.outputs[o.val], s.faults.get (.supplyWait c))

/-- Two states have a channel's part in common. -/
structure SamePart (c : Fin 4) (s t : State) : Prop where
  channel : s.channels[c] = t.channels[c]
  outputs : ∀ o, OutputOf c o → s.outputs[o] = t.outputs[o]
  wait : s.faults.get (.supplyWait c) = t.faults.get (.supplyWait c)

theorem SamePart.of_eq {c : Fin 4} {s t : State} (h : channelPart c s = channelPart c t) :
    SamePart c s t := by
  unfold channelPart at h
  obtain ⟨channel, rest⟩ := Prod.mk.inj h
  obtain ⟨outputs, wait⟩ := Prod.mk.inj rest
  exact ⟨channel, fun o own => congrFun outputs ⟨o, own⟩, wait⟩

theorem leaveOff_channelPart_ne {c d : Fin 4} (h : d ≠ c) (s : State) :
    channelPart c (leaveOff d s) = channelPart c s := by
  obtain same | same := leaveOff_cases d s
  · rw [same]
  · rw [same]
    refine Prod.ext (enterFallback_channel_ne d s (Ne.symm h)) (Prod.ext (funext fun o => ?_) ?_)
    · exact enterFallback_other d s fun own => h (outputOf_unique own o.property)
    · exact enterFallback_faults (fun same => h (FaultId.supplyWait.inj same).symm)
        (fun _ _ => FaultId.noConfusion) s

/-- The end of INIT, seen from one channel. -/
theorem leaveOff_at (c : Fin 4) (s : State) : ∃ u, Drove s u ∧ SamePart c u s
    ∧ SamePart c (forEach 4 leaveOff s) (leaveOff c u) := by
  obtain ⟨u, reached, unmoved, -, last⟩ := forEach_at Drove .refl .trans leaveOff_drove
    (channelPart c) c (fun d t ne => leaveOff_channelPart_ne ne t) s
  exact ⟨u, reached, .of_eq unmoved, .of_eq last⟩

theorem leaveOff_energised_all {o : Fin 13} {s : State}
    (on : (forEach 4 leaveOff s).outputs[o].energised = true) : s.outputs[o].energised = true :=
  forEach_keeps (f := leaveOff) (fun t => t.outputs[o].energised = true → s.outputs[o].energised = true)
    (fun _ _ ih on => ih (leaveOff_energised on)) s (fun h => h) on

/-- R82: out of control the reason is NOT_ACTIVE. -/
theorem fallbackReason_of_notInControl {s : State} (out : inControl s = false) (c : Fin 4) :
    fallbackReason s c = .notActive := by
  rw [fallbackReason, out]
  rfl

/-- A state of INIT: nothing energised, and every channel OFF or in FALLBACK. -/
structure InitState (s : State) : Prop where
  off : ∀ o : Fin 13, s.outputs[o].energised = false
  channels : ∀ c : Fin 4, s.channels[c].present = true →
    s.channels[c].state = .off ∨ s.channels[c].state = .fallback

theorem followReason_initState {c : Fin 4} {s : State} (h : InitState s) :
    InitState (followReason c s) ∧ (followReason c s).outputs = s.outputs
      ∧ (followReason c s).faults = s.faults := by
  by_cases standing : s.channels[c].present = true
  · obtain off | fallback := h.channels c standing
    · rw [followReason_of_off off]
      exact ⟨h, rfl, rfl⟩
    · by_cases reason : fallbackReason s c = .noReason
      · rw [followReason_of_noReason reason]
        exact ⟨h, rfl, rfl⟩
      · rw [followReason_of_fallback standing reason fallback]
        refine ⟨⟨h.off, fun d present => ?_⟩, rfl, rfl⟩
        by_cases same : d = c
        · subst same
          rw [State.setChannel_get_self]
          exact .inr fallback
        · rw [State.setChannel_get_ne _ _ _ _ same] at present ⊢
          exact h.channels d present
  · rw [followReason_of_absent (Bool.eq_false_iff.mpr standing)]
    exact ⟨h, rfl, rfl⟩

/-- In INIT a settling writes the reasons of the channels in FALLBACK and nothing else. -/
theorem settle_initState {s : State} (h : InitState s) (out : inControl s = false) :
    (settle s).outputs = s.outputs ∧ (settle s).faults = s.faults
      ∧ ∀ c : Fin 4, (settle s).channels[c] =
        if s.channels[c].present = true ∧ s.channels[c].state ≠ .off then
          { s.channels[c] with reason := .notActive }
        else s.channels[c] := by
  have dropped := dropDisallowed_of_off h.off
  have kept : InitState (settle s) ∧ (settle s).outputs = s.outputs ∧ (settle s).faults = s.faults := by
    unfold settle
    rw [dropped]
    exact forEach_keeps (f := followReason)
      (fun t => InitState t ∧ t.outputs = s.outputs ∧ t.faults = s.faults)
      (fun c t ⟨init, outputs, faults⟩ => by
        obtain ⟨initT, outputsT, faultsT⟩ := followReason_initState (c := c) init
        exact ⟨initT, outputsT.trans outputs, faultsT.trans faults⟩) s ⟨h, rfl, rfl⟩
  refine ⟨kept.2.1, kept.2.2, fun c => ?_⟩
  obtain ⟨u, drove, -, channel, -, last, -, -⟩ := settle_at c s
  rw [dropped] at channel
  have control : inControl u = false := drove.inControl_eq.trans out
  have reason := fallbackReason_of_notInControl control c
  rw [last]
  split
  · next running =>
    obtain ⟨standing, notOff⟩ := running
    have fallback := (h.channels c standing).resolve_left notOff
    rw [followReason_of_fallback (by rwa [channel]) (by rw [reason]; decide) (by rwa [channel]),
      State.setChannel_get_self, channel, reason]
  · next idle =>
    by_cases standing : s.channels[c].present = true
    · have off : s.channels[c].state = .off := not_not.mp fun notOff => idle ⟨standing, notOff⟩
      rw [followReason_of_off (by rwa [channel]), channel]
    · rw [followReason_of_absent (by rw [channel]; exact Bool.eq_false_iff.mpr standing), channel]

theorem settle_channel_of_off {c : Fin 4} {s : State} (off : s.channels[c].state = .off) :
    (settle s).channels[c] = (dropDisallowed s).channels[c] := by
  obtain ⟨u, -, gaps, channel, -, last, -, -⟩ := settle_at c s
  rw [last, followReason_of_off, channel]
  rw [channel, gaps c]
  exact off

theorem settle_present (c : Fin 4) (s : State) :
    (settle s).channels[c].present = s.channels[c].present :=
  ((settle_drove s).channels c).present_eq

/-- R82: with the part out of control a settling and the leaving of OFF put every existing channel in
FALLBACK. -/
theorem leaveOff_settle_falls {c : Fin 4} {s : State} (out : inControl s = false)
    (standing : s.channels[c].present = true) :
    (forEach 4 leaveOff (settle s)).channels[c].state = .fallback
      ∧ (forEach 4 leaveOff (settle s)).channels[c].reason = .notActive
      ∧ (s.channels[c].state = .off →
        (forEach 4 leaveOff (settle s)).channels[c].action = .allOff) := by
  obtain ⟨u, drove, part, last⟩ := leaveOff_at c (settle s)
  have channelU := part.channel
  have channel := last.channel
  have reasonS := fallbackReason_of_notInControl out c
  by_cases off : s.channels[c].state = .off
  · have standingU : u.channels[c].present = true := by rw [channelU, settle_present, standing]
    have offU : u.channels[c].state = .off := by
      rw [channelU, settle_channel_of_off off, dropDisallowed_gapsOnly s c]
      exact off
    have control : inControl u = false := ((settle_drove s).trans drove).inControl_eq.trans out
    rw [channel, leaveOff_of_off standingU offU, enterFallback_channel,
      fallbackReason_of_notInControl control]
    exact ⟨rfl, rfl, fun _ => rfl⟩
  · obtain ⟨fallback, reason⟩ := settle_falls_with standing off (by rw [reasonS]; decide)
      (by rw [reasonS]; decide)
    rw [channel, leaveOff_of_not fun both => ?_, channelU]
    · exact ⟨fallback, reason.trans reasonS, fun h => absurd h off⟩
    · rw [channelU, fallback] at both
      cases both.2

/-- A channel that falls back out of OFF ends no exercise. -/
theorem Channel.fallen_of_off {x : Channel} (off : x.state = .off) (reason : FallbackReason) :
    x.fallen reason = ({ x with
      state := .fallback, reason := reason, supplyTimer := none, exerciseTimer := none
      exerciseAction := none } : Channel).arbitrate := by
  rw [fallen, endExercise, if_neg (by rw [off]; decide)]

theorem Output.noted_of_off {x : Output} (off : x.energised = false) (on : Bool) :
    x.noted on = { x with requested := on } := by
  cases on
  · rw [noted, off]
    rfl
  · rfl

/-- The end of INIT, in a state of INIT: the whole of what it leaves of a channel, its outputs and its
wait. -/
theorem leaveOff_settle_initState {s : State} (h : InitState s) (out : inControl s = false) (c : Fin 4) :
    (forEach 4 leaveOff (settle s)).channels[c] =
        (if s.channels[c].present = true ∧ s.channels[c].state = .off then
          ({ s.channels[c] with
            state := .fallback, reason := .notActive, action := .allOff, supplyTimer := none
            exerciseTimer := none, exerciseAction := none } : Channel).arbitrate
        else if s.channels[c].present then { s.channels[c] with reason := .notActive }
        else s.channels[c])
      ∧ (∀ o, OutputOf c o → (forEach 4 leaveOff (settle s)).outputs[o] =
        if s.channels[c].present = true ∧ s.channels[c].state = .off then
          { s.outputs[o] with requested := false }
        else s.outputs[o])
      ∧ (forEach 4 leaveOff (settle s)).faults.get (.supplyWait c) =
        if s.channels[c].present = true ∧ s.channels[c].state = .off then
          ⟨false, (s.faults.get (.supplyWait c)).latched⟩
        else s.faults.get (.supplyWait c) := by
  obtain ⟨outputs, faults, channels⟩ := settle_initState h out
  obtain ⟨u, drove, part, last⟩ := leaveOff_at c (settle s)
  have channelU := part.channel
  have outputsU (o) (own : OutputOf c o) : u.outputs[o] = s.outputs[o] := by
    rw [← outputs]
    exact part.outputs o own
  have waitU : u.faults.get (.supplyWait c) = s.faults.get (.supplyWait c) := by
    rw [← faults]
    exact part.wait
  obtain ⟨channel, output, wait⟩ := last
  rw [channels c] at channelU
  have control : inControl u = false := ((settle_drove s).trans drove).inControl_eq.trans out
  by_cases leaves : s.channels[c].present = true ∧ s.channels[c].state = .off
  · rw [if_neg fun running => running.2 leaves.2] at channelU
    rw [channel, wait, if_pos leaves, if_pos leaves,
      leaveOff_of_off (by rw [channelU]; exact leaves.1) (by rw [channelU]; exact leaves.2)]
    refine ⟨?_, fun o own => ?_, by rw [enterFallback_wait, waitU]⟩
    · rw [enterFallback_channel, outputsU _ (.inl rfl), outputsU _ (.inr (.inl rfl)), h.off, h.off,
        fallbackReason_of_notInControl control, channelU, Channel.fallen_of_off leaves.2]
      rfl
    · rw [if_pos leaves, output o own, leaveOff_of_off (by rw [channelU]; exact leaves.1)
        (by rw [channelU]; exact leaves.2), enterFallback_own c u own, outputsU o own,
        Output.noted_of_off (h.off o)]
  · have stays : leaveOff c u = u := leaveOff_of_not fun both => leaves (by
      rw [channelU] at both
      split at both
      · exact both
      · exact both)
    rw [channel, wait, stays, if_neg leaves, if_neg leaves, channelU]
    refine ⟨?_, fun o own => ?_, waitU⟩
    · by_cases standing : s.channels[c].present = true
      · rw [if_pos ⟨standing, fun off => leaves ⟨standing, off⟩⟩, if_pos standing]
      · rw [if_neg fun running => standing running.1, if_neg standing]
    · rw [if_neg leaves, output o own, stays, outputsU o own]

theorem leaveOff_quiet {s : State} (off : ∀ o : Fin 13, s.outputs[o].energised = false) :
    (forEach 4 leaveOff s).outputs[liftOutput] = s.outputs[liftOutput]
      ∧ ∀ o : Fin 13, (forEach 4 leaveOff s).faults.valveOpen[o] = s.faults.valveOpen[o] := by
  have kept := forEach_keeps (f := leaveOff) (fun t => (∀ o : Fin 13, t.outputs[o].energised = false)
      ∧ t.outputs[liftOutput] = s.outputs[liftOutput]
      ∧ ∀ o : Fin 13, t.faults.get (.valveOpen o) = s.faults.get (.valveOpen o))
    (fun c t ⟨offT, lift, open'⟩ => by
      obtain same | same := leaveOff_cases c t
      · rw [same]
        exact ⟨offT, lift, open'⟩
      · rw [same]
        exact ⟨fun o => Bool.eq_false_iff.mpr fun on =>
            absurd (enterFallback_energised on) (Bool.eq_false_iff.mp (offT o)),
          (enterFallback_other c t (liftOutput_not_outputOf c)).trans lift, fun o =>
          (enterFallback_faults_of_off (fun o _ => offT o) FaultId.noConfusion).trans (open' o)⟩)
    s ⟨off, rfl, fun _ => rfl⟩
  exact ⟨kept.2.1, kept.2.2⟩

/-- Settles O7: settling out of control, and the leaving of OFF. -/
theorem initTimerExpiryEntersStandby : Obligations.InitTimerExpiryEntersStandby := by
  intro s running init timer
  have next : exec .initTimerExpiry s = .next (forEach 4 leaveOff (settle { s with
      device := { s.device with state := .standby, initTimer := none } })) := by
    refine congrArg Host.Outcome.next ((whileRunning_of_running running).trans ((if_pos timer).trans ?_))
    refine congrArg (forEach 4 leaveOff) (setDeviceState_of_not_active ?_)
    exact fun active => absurd (init.symm.trans active) DeviceState.noConfusion
  have out : inControl { s with device := { s.device with state := .standby, initTimer := none } }
      = false := rfl
  have enabled : outputsEnabled { s with
      device := { s.device with state := .standby, initTimer := none } } = false := rfl
  have drove := (settle_drove { s with device := { s.device with state := .standby, initTimer := none } }).trans
    (forEach_drove leaveOff_drove _)
  have initState (h : InitState s) :
      InitState { s with device := { s.device with state := .standby, initTimer := none } } :=
    ⟨h.off, h.channels⟩
  refine ⟨_, next, drove.device, fun o => Bool.eq_false_iff.mpr fun on => ?_,
    fun c standing => ?_, fun c standing off => ?_, fun f _ => drove.latched f,
    fun f _ open' wait => drove.others f open' wait, fun off channels => ?_, ?_, drove.analog,
    drove.capture, drove.loadUnit, drove.lift, drove.axles, drove.wheels, drove.tyres,
    drove.rollover, drove.receiver, drove.supervisor, drove.sameLink⟩
  · exact absurd (leaveOff_energised_all on) (Bool.eq_false_iff.mp (settle_off enabled o))
  · obtain ⟨fallback, reason, -⟩ := leaveOff_settle_falls out standing
    exact ⟨fallback, reason⟩
  · exact (leaveOff_settle_falls out standing).2.2 off
  · have init' := initState ⟨off, channels⟩
    obtain ⟨outputs, faults, -⟩ := settle_initState init' out
    have part := leaveOff_settle_initState init' out
    obtain ⟨lift, open'⟩ := leaveOff_quiet (s := settle { s with
      device := { s.device with state := .standby, initTimer := none } }) (by rw [outputs]; exact off)
    refine ⟨fun c => (part c).1, fun c o own => (part c).2.1 o own, ?_, fun o => ?_,
      fun c => (part c).2.2⟩
    · rw [lift, outputs]
    · rw [open', faults]
  · have raised : attentionRaised (forEach 4 leaveOff (settle { s with
        device := { s.device with state := .standby, initTimer := none } })) = attentionRaised s := by
      unfold attentionRaised attentionPending axleMarked tyreMarked learnOutstanding
      rw [drove.device, drove.sameLink, drove.axles, drove.tyres]
    have serves : linkServes (forEach 4 leaveOff (settle { s with
        device := { s.device with state := .standby, initTimer := none } })) = true := by
      rw [linkServes_iff]
      unfold Running
      rw [drove.device]
      exact ⟨running, DeviceState.noConfusion⟩
    rw [attentionLow, raised, serves, Bool.true_and]

end Sys2Proof.Machine
end

section
/-! The commands of the Valve Driver Stage's, the channels' and the lift axle's timers (O23, O36). -/

namespace Sys2Proof.Machine

/-! ### What settling does to an output -/

theorem followReason_output (c : Fin 4) (o : Fin 13) (s : State) :
    (followReason c s).outputs[o] = s.outputs[o]
      ∨ (followReason c s).outputs[o] = s.outputs[o].noted false := by
  obtain same | same | same := followReason_cases c s
  · exact .inl (by rw [same])
  · exact .inl (by rw [same]; rfl)
  · rw [same]
    by_cases own : OutputOf c o
    · exact .inr (enterFallback_own c s own)
    · exact .inl (enterFallback_other c s own)

theorem Output.noted_false_checked {x : Output} (checked : (x.noted false).checked = true) :
    x.checked = true := by
  cases on : x.energised
  · rwa [noted_of_off on] at checked
  · rw [noted, on] at checked
    cases checked

/-- R94: a settling makes no output checked. -/
theorem settle_checked {o : Fin 13} {s : State} (checked : (settle s).outputs[o].checked = true) :
    s.outputs[o].checked = true := by
  have later : (settle s).outputs[o].checked = true → (dropDisallowed s).outputs[o].checked = true :=
    forEach_keeps (f := followReason)
      (fun t => t.outputs[o].checked = true → (dropDisallowed s).outputs[o].checked = true)
      (fun c t ih on => ih (by
        obtain same | same := followReason_output c o t
        · rwa [same] at on
        · rw [same] at on
          exact Output.noted_false_checked on)) (dropDisallowed s) fun h => h
  have dropped := later checked
  rw [dropDisallowed_output] at dropped
  split at dropped
  · cases dropped
  · exact dropped

/-- R83: a channel with a valve fault has a reason. -/
theorem fallbackReason_ne_of_valve {c : Fin 4} {o : Fin 13} {s : State} (own : OutputOf c o)
    (fault : outputFaulty s o = true) : fallbackReason s c ≠ .noReason := by
  have valve : channelValveFault s c = true := by
    unfold channelValveFault
    obtain rfl | rfl | rfl := own <;> simp [fault]
  unfold fallbackReason
  rw [valve, Bool.or_true, Bool.true_or]
  split
  · exact FallbackReason.noConfusion
  · split
    · exact FallbackReason.noConfusion
    · split
      · exact FallbackReason.noConfusion
      · split <;> exact FallbackReason.noConfusion

theorem outputFaulty_of_latched {o : Fin 13} {s : State}
    (latched : s.faults.valveOpen[o].latched = true ∨ s.faults.valveShort[o].latched = true) :
    outputFaulty s o = true := by
  unfold outputFaulty faulty
  simp only [Bool.or_eq_true]
  exact latched.imp .inr .inr

/-! ### The changeover gap's expiry -/

theorem energise_eq_outputs (o : Fin 13) (s : State) :
    energise o s = { s with outputs := (energise o s).outputs } := by
  unfold energise
  split <;> rfl

theorem serveInlet_eq_outputs (c : Fin 4) (s : State) :
    serveInlet c s = { s with outputs := (serveInlet c s).outputs } := by
  unfold serveInlet
  split
  · exact energise_eq_outputs _ _
  · rfl

theorem serveExhaust_eq_outputs (c : Fin 4) (s : State) :
    serveExhaust c s = { s with outputs := (serveExhaust c s).outputs } := by
  unfold serveExhaust
  split
  · exact energise_eq_outputs _ _
  · rfl

/-- R92: what the gap's expiry serves of an inlet or an exhaust, by R91's conditions. -/
theorem exec_changeoverGapExpiry_outputs {c : Fin 4} {s : State} (free : s.channels[c].gapTimer = none)
    (p : Fin 13) :
    let inlet : Prop := s.outputs[inletOf c].requested = true
      ∧ s.outputs[exhaustOf c].energised = false ∧ outputAllowed s (inletOf c) = true
    let exhaust : Prop := s.outputs[exhaustOf c].requested = true
      ∧ s.outputs[inletOf c].energised = false ∧ ¬inlet ∧ outputAllowed s (exhaustOf c) = true
    (serveExhaust c (serveInlet c s)).outputs[p] =
      if s.outputs[p].energised = false ∧ (p = inletOf c ∧ inlet ∨ p = exhaustOf c ∧ exhaust) then
        ⟨s.outputs[p].requested, true, some (s.device.blankingTime * 1000), false, 0⟩
      else s.outputs[p] := by
  intro inlet exhaust
  have freesInlet : gapFreesInlet s.channels[c] = true := by rw [gapFreesInlet, free]; rfl
  have freesExhaust : gapFreesExhaust s.channels[c] = true := by rw [gapFreesExhaust, free]; rfl
  have drove := serveInlet_drove c s
  have inletServed := serveInlet_get_self c s
  rw [freesInlet, Bool.and_true] at inletServed
  by_cases isInlet : p = inletOf c
  · subst isInlet
    rw [serveExhaust_other (exhaustOf_ne_inletOf c).symm, inletServed]
    refine if_congr ?_ rfl rfl
    simp only [Bool.and_eq_true, Bool.not_eq_true', true_and, (exhaustOf_ne_inletOf c).symm,
      false_and, or_false]
    tauto
  · by_cases isExhaust : p = exhaustOf c
    · subst isExhaust
      have channel : (serveInlet c s).channels[c] = s.channels[c] :=
        congrArg (·[c]) (serveInlet_servedOnly c s).channels
      have inletAfter : (serveInlet c s).outputs[inletOf c].energised = false ↔
          s.outputs[inletOf c].energised = false ∧ ¬inlet := by
        rw [inletServed]
        split
        · next served =>
          simp only [Bool.and_eq_true, Bool.not_eq_true'] at served
          refine ⟨fun h => ?_, fun h => absurd ?_ h.2⟩
          · cases h
          · exact ⟨served.1.1, served.1.2.1, served.1.2.2⟩
        · next unserved =>
          simp only [Bool.and_eq_true, Bool.not_eq_true'] at unserved
          exact ⟨fun h => ⟨h, fun i => unserved ⟨⟨i.1, i.2.1, i.2.2⟩, h⟩⟩, And.left⟩
      rw [serveExhaust_get_self, channel, freesExhaust, drove.outputAllowed, drove.device,
        serveInlet_other (exhaustOf_ne_inletOf c)]
      refine if_congr ?_ rfl rfl
      simp only [Bool.and_eq_true, Bool.not_eq_true', inletAfter, isInlet, false_and, false_or,
        true_and]
      tauto
    · rw [serveExhaust_other isExhaust, serveInlet_other isInlet, if_neg]
      simp only [isInlet, isExhaust, false_and, or_self, and_false, not_false_eq_true]

/-- R92: the gap's expiry stops the timer and serves what is held. -/
theorem exec_changeoverGapExpiry_of_running_gap {c : Fin 4} {s : State}
    (timer : s.channels[c].gapTimer.isSome = true) : exec (.changeoverGapExpiry c) s =
      .next (serveExhaust c (serveInlet c (s.setChannel c { s.channels[c] with gapTimer := none }))) :=
  congrArg Host.Outcome.next (if_pos timer)

/-! ### A short circuit -/

theorem exec_shortCircuitTrip_of_on {o : Fin 13} {s : State} (running : Running s)
    (on : s.outputs[o].energised = true) : exec (.shortCircuitTrip o) s =
      .next (settle (report (.valveShort o) true (deenergise o s))) :=
  congrArg Host.Outcome.next ((whileRunning_of_running running).trans (if_pos on))

/-- Settles O23: the gap's expiry, the blanking timer's, and a short circuit. -/
theorem driverTimersAndShortCircuit : Obligations.DriverTimersAndShortCircuit := by
  intro c o s
  refine ⟨fun timer => ⟨_, exec_changeoverGapExpiry_of_running_gap timer, ?_, fun d => ?_, fun p => ?_⟩,
    fun running blanking => ?_,
    fun running on unmasked => ⟨_, exec_shortCircuitTrip_of_on running on, ?_⟩⟩
  · rw [serveExhaust_eq_outputs, serveInlet_eq_outputs]
    rfl
  · have channels := ((serveInlet_servedOnly c (s.setChannel c { s.channels[c] with gapTimer := none })).trans
      (serveExhaust_servedOnly c _)).channels
    rw [channels]
    split
    · next same =>
      subst same
      exact State.setChannel_get_self _ _ _
    · next other => exact State.setChannel_get_ne _ _ _ _ other
  · have free : (s.setChannel c { s.channels[c] with gapTimer := none }).channels[c].gapTimer = none := by
      rw [State.setChannel_get_self]
    have allowed {q : Fin 13} (own : OutputOf c q) :
        outputAllowed (s.setChannel c { s.channels[c] with gapTimer := none }) q = true ↔
          (s.device.state = .active ∨ s.device.state = .waitRelease) ∧ s.device.failsafe = false
            ∧ s.faults.supplyLow.present = false ∧ s.channels[c].present = true
            ∧ s.faults.valveShort[q].latched = false := by
      rw [outputAllowed_of_channel_iff own, State.setChannel_get_self]
      rfl
    have outputs := exec_changeoverGapExpiry_outputs free p
    simp only [allowed (.inl rfl), allowed (.inr (.inl rfl))] at outputs
    exact outputs
  · exact congrArg Host.Outcome.next ((whileRunning_of_running running).trans (if_pos blanking))
  · have off := (deenergise_self o s).1
    have fresh := deenergise_get_self o s
    rw [if_pos on] at fresh
    have first := deenergise_drove o s
    obtain ⟨frame, present, latched, -, raised⟩ := report_spec (.valveShort o) true (deenergise o s)
    have masked : masked (deenergise o s) (.valveShort o) = false := by
      unfold masked
      rw [first.device]
      exact unmasked
    have gaps := deenergise_gapsOnly o s
    have short : (deenergise o s).faults.get (.valveShort o) = s.faults.get (.valveShort o) :=
      deenergise_faults FaultId.noConfusion s
    rw [masked] at present latched raised
    rw [short] at latched raised
    have outputs := report_outputs (.valveShort o) true (deenergise o s)
    have channels := report_channels (.valveShort o) true (deenergise o s)
    have link := first.sameLink
    generalize report (.valveShort o) true (deenergise o s) = u at *
    have drove := settle_drove u
    have marks : (settle u).faults.get (.valveShort o) = u.faults.get (.valveShort o) :=
      drove.others _ (fun _ => FaultId.noConfusion) fun _ => FaultId.noConfusion
    refine ⟨Bool.eq_false_iff.mpr fun now => ?_, Bool.eq_false_iff.mpr fun now => ?_, ?_,
      fun absent unlatched => ?_, fun d own standing notOff => ?_,
      drove.device.trans (frame.device.trans first.device),
      drove.axles.trans (frame.axles.trans first.axles),
      drove.wheels.trans (frame.wheels.trans first.wheels),
      drove.rollover.trans (frame.rollover.trans first.rollover),
      drove.receiver.trans (frame.receiver.trans first.receiver),
      drove.supervisor.trans (frame.supervisor.trans first.supervisor)⟩
    · have was := (settle_energised now).1
      rw [outputs, off] at was
      cases was
    · have was := settle_checked now
      rw [outputs, fresh] at was
      cases was
    · rw [marks, present]
      rfl
    · have absent' : (s.faults.get (.valveShort o)).present = false := absent
      have unlatched' : (s.faults.get (.valveShort o)).latched = false := unlatched
      rw [marks, latched, drove.sameLink, raised, absent', unlatched']
      exact ⟨rfl, Bool.or_true _⟩
    · have channel : u.channels[d] = _ := (congrArg (·[d]) channels).trans (gaps d)
      refine (settle_falls (by rw [channel]; exact standing) (by rw [channel]; exact notOff)
        fun v later => fallbackReason_ne_of_valve own ?_).1
      have same : v.faults.get (.valveShort o) = u.faults.get (.valveShort o) :=
        later.others _ (fun _ => FaultId.noConfusion) fun _ => FaultId.noConfusion
      have faulty : faulty v (.valveShort o) = true := by
        rw [faulty, same, present]
        rfl
      rw [outputFaulty, faulty, Bool.or_true]

/-! ### The lift axle's and the channels' timers -/

/-- R62: a raising or raised axle that is sent to LOWERING, and what of it the other blocks see. -/
theorem startLowering_axles {a : Fin 4} {s : State} (up : s.axles[a].liftState ≠ .lowering) :
    (startLowering a s).axles = s.axles.set a { s.axles[a] with
      liftState := .lowering, changeMark := true } := by
  unfold startLowering
  rw [(requestLift_valveOnly _ _).axles]
  refine congrArg (s.axles.set a) ?_
  have differ : s.axles[a].watchedDiffer { s.axles[a] with liftState := .lowering } = true := by
    simp only [Axle.watchedDiffer, Bool.or_eq_true, bne_iff_ne]
    exact .inl up
  rw [differ, Bool.or_true]

theorem startLowering_lift (a : Fin 4) (s : State) : (startLowering a s).lift =
    { s.lift with raiseTimer := none, loweringTimer := some 6000000 } := by
  unfold startLowering
  rw [(requestLift_valveOnly _ _).lift]
  rfl

theorem exec_raiseTimerExpiry_of_raising {a : Fin 4} {s : State} (running : Running s)
    (timer : s.lift.raiseTimer.isSome = true) (found : liftAxle s = some a)
    (raising : s.axles[a].liftState = .raising) : exec .raiseTimerExpiry s = .next (report .lift true
      (startLowering a { s with lift := { s.lift with raiseTimer := none } })) := by
  refine congrArg Host.Outcome.next ((whileRunning_of_running running).trans ((if_pos timer).trans ?_))
  rw [found]
  exact if_pos raising

theorem exec_loweringTimerExpiry_of_lowering {a : Fin 4} {s : State} (running : Running s)
    (timer : s.lift.loweringTimer.isSome = true) (found : liftAxle s = some a)
    (lowering : s.axles[a].liftState = .lowering) : exec .loweringTimerExpiry s =
      .next (if bellowsFaulty s a then
        putAxle a { s.axles[a] with liftState := .down }
          { s with lift := { s.lift with loweringTimer := none } }
      else report .lift true (putAxle a { s.axles[a] with liftState := .down }
          { s with lift := { s.lift with loweringTimer := none } })) := by
  refine congrArg Host.Outcome.next ((whileRunning_of_running running).trans ((if_pos timer).trans ?_))
  rw [found]
  exact if_pos lowering

theorem exec_supplyTimerExpiry_of_waiting {c : Fin 4} {s : State} (running : Running s)
    (timer : s.channels[c].supplyTimer.isSome = true) (waits : s.channels[c].state = .supplyWait) :
    exec (.supplyTimerExpiry c) s =
      .next (report (.supplyWait c) true (s.setChannel c { s.channels[c] with supplyTimer := none })) :=
  congrArg Host.Outcome.next ((whileRunning_of_running running).trans ((if_pos timer).trans (if_pos waits)))

theorem exec_exerciseTimerExpiry_of_exercise {c : Fin 4} {s : State} (running : Running s)
    (timer : s.channels[c].exerciseTimer.isSome = true) (exercise : s.channels[c].state = .exercise) :
    exec (.exerciseTimerExpiry c) s = .next (finishExercise c .expired s) :=
  congrArg Host.Outcome.next
    ((whileRunning_of_running running).trans ((if_pos timer).trans (if_pos exercise)))

/-- R99: the channel that an exercise's end leaves. -/
theorem finishExercise_channel (c : Fin 4) (how : ExerciseEnd) (s : State) :
    (finishExercise c how s).channels[c] =
      (({ s.channels[c].endExercise how with state := .electronic } : Channel).arbitrate).acted .hold
        s.outputs[inletOf c].energised s.outputs[exhaustOf c].energised
        (s.device.changeoverGap * 1000) := by
  refine (requestAction_channel c .hold _).trans ?_
  rw [State.setChannel_get_self]
  rfl

theorem finishExercise_channel_ne {c d : Fin 4} (h : d ≠ c) (how : ExerciseEnd) (s : State) :
    (finishExercise c how s).channels[d] = s.channels[d] :=
  (requestAction_channel_ne c .hold _ h).trans (State.setChannel_get_ne _ _ _ _ h)

/-- Settles O36, timer by timer. -/
theorem liftAndChannelTimersExpire : Obligations.LiftAndChannelTimersExpire := by
  intro a c s running mask frame
  refine ⟨fun timer found raising => ⟨_, exec_raiseTimerExpiry_of_raising running timer found raising, ?_⟩,
    fun timer found lowering => ⟨_, exec_loweringTimerExpiry_of_lowering running timer found lowering, ?_⟩,
    fun timer waits => ⟨_, exec_supplyTimerExpiry_of_waiting running timer waits, ?_⟩,
    fun timer exercise => ⟨_, exec_exerciseTimerExpiry_of_exercise running timer exercise, ?_⟩⟩
  · have axles : (startLowering a { s with lift := { s.lift with raiseTimer := none } }).axles = _ :=
      startLowering_axles (s := { s with lift := { s.lift with raiseTimer := none } })
        (fun h => LiftState.noConfusion (raising.symm.trans h))
    have lift := startLowering_lift a { s with lift := { s.lift with raiseTimer := none } }
    obtain ⟨-, -, -, requested, off⟩ :=
      startLowering_self a { s with lift := { s.lift with raiseTimer := none } }
    have channels := startLowering_channels a { s with lift := { s.lift with raiseTimer := none } }
    have drove := startLowering_liftDrove a { s with lift := { s.lift with raiseTimer := none } }
    have others (o : Fin 13) (h : o ≠ liftOutput) :=
      startLowering_other h a { s with lift := { s.lift with raiseTimer := none } }
    generalize startLowering a { s with lift := { s.lift with raiseTimer := none } } = u at *
    obtain ⟨frame', present, latched, -, -⟩ := report_spec .lift true u
    have mark : u.faults.get .lift = s.faults.get .lift :=
      drove.others _ (fun _ => FaultId.noConfusion) fun _ => FaultId.noConfusion
    have masked : masked u .lift = mask.getLsbD 8 := by
      rw [Machine.masked, drove.device]
      rfl
    rw [masked] at present latched
    refine ⟨axles, lift, requested, off, present, fun unmasked absent => ?_, others, channels,
      frame'.device.trans drove.device, frame'.analog.trans drove.analog,
      frame'.wheels.trans drove.wheels, frame'.tyres.trans drove.tyres,
      frame'.rollover.trans drove.rollover, frame'.receiver.trans drove.receiver,
      frame'.supervisor.trans drove.supervisor, fun d _ => congrArg (·[d]) channels⟩
    have absent' : (s.faults.get .lift).present = false := absent
    rw [unmasked, mark, absent'] at latched
    exact latched.trans (Bool.or_true _)
  · have differ : s.axles[a].watchedDiffer { s.axles[a] with liftState := .down } = true := by
      simp only [Axle.watchedDiffer, Bool.or_eq_true, bne_iff_ne]
      exact .inl fun h => LiftState.noConfusion (lowering.symm.trans h)
    have axles : (putAxle a { s.axles[a] with liftState := .down }
        { s with lift := { s.lift with loweringTimer := none } }).axles = s.axles.set a
          { s.axles[a] with liftState := .down, changeMark := true } := by
      refine congrArg (s.axles.set a) ?_
      have same : ({ s with lift := { s.lift with loweringTimer := none } } : State).axles[a]
          = s.axles[a] := rfl
      rw [same, differ, Bool.or_true]
    have faulty : bellowsFaulty s a = true ↔
        s.faults.bellows[a].present = true ∨ s.faults.bellows[a].latched = true :=
      faulty_iff s (.bellows a)
    split
    · next fault =>
      refine ⟨axles, rfl, ?_, rfl, rfl, rfl, rfl, rfl, rfl, rfl, rfl, rfl, fun _ _ => rfl⟩
      rw [if_pos (faulty.mp fault)]
      rfl
    · next sound =>
      refine ⟨axles, rfl, ?_, rfl, rfl, rfl, rfl, rfl, rfl, rfl, rfl, rfl, fun _ _ => rfl⟩
      rw [if_neg (faulty.not.mp sound)]
      exact (report_spec .lift true _).2.1
  · obtain ⟨-, present, latched, -, -⟩ := report_spec (.supplyWait c) true
      (s.setChannel c { s.channels[c] with supplyTimer := none })
    refine ⟨State.setChannel_get_self _ _ _, present, fun unmasked absent => ?_, rfl, rfl, rfl, rfl, rfl,
      rfl, rfl, rfl, rfl, rfl, fun d other => State.setChannel_get_ne _ _ _ _ other⟩
    have absent' : (s.faults.get (.supplyWait c)).present = false := absent
    have unmasked' : masked (s.setChannel c { s.channels[c] with supplyTimer := none }) (.supplyWait c)
        = false := unmasked
    rw [unmasked', State.setChannel_faults, absent'] at latched
    exact latched.trans (Bool.or_true _)
  · have drove := finishExercise_drove c .expired s
    have channel := finishExercise_channel c .expired s
    have inlet := requestAction_inlet c .hold (s.setChannel c
      ({ s.channels[c].endExercise .expired with state := .electronic } : Channel).arbitrate)
    have exhaust := requestAction_exhaust c .hold (s.setChannel c
      ({ s.channels[c].endExercise .expired with state := .electronic } : Channel).arbitrate)
    have backup := requestAction_backup c .hold (s.setChannel c
      ({ s.channels[c].endExercise .expired with state := .electronic } : Channel).arbitrate)
    refine ⟨by rw [channel]; rfl, by rw [channel]; rfl, ?_, by rw [channel]; rfl, by rw [channel]; rfl,
      ?_, ?_, ?_, ?_, ?_, drove.axles, drove.lift, drove.device, drove.analog, drove.wheels, drove.tyres,
      drove.rollover, drove.receiver, drove.supervisor, fun d other =>
      finishExercise_channel_ne other .expired s⟩
    · rw [channel]
      exact if_pos exercise
    · exact (congrArg Output.requested inlet).trans (Output.driven_requested _ _ _ _)
    · exact (congrArg Output.energised inlet).trans (Output.driven_energised _ _ _ _)
    · exact (congrArg Output.requested exhaust).trans (Output.driven_requested _ _ _ _)
    · exact (congrArg Output.energised exhaust).trans (Output.driven_energised _ _ _ _)
    · exact (congrArg Output.requested backup).trans (Output.driven_requested _ _ _ _)

end Sys2Proof.Machine
end

section
/-! The Channel Controllers and the Valve Driver Stage at a scan completion (O20, O22). -/

namespace Sys2Proof.Machine

/-! ### The pressure loop -/

/-- R86, row by row. -/
theorem loopAction_eq (c p b : Nat) : loopAction c p b =
    if c = 0 then (if b < p then .vent else .hold)
    else if p + b < c then .apply
    else if c + b < p then .vent
    else .hold := by
  unfold loopAction
  by_cases zero : c = 0
  · by_cases high : b < p
    · simp [zero, high]
    · simp [zero, high, Nat.le_of_not_lt high]
  · simp [zero]

theorem loopAction_ne_allOff (c p b : Nat) : loopAction c p b ≠ .allOff := by
  rw [loopAction_eq]
  repeat' split
  all_goals exact ValveAction.noConfusion

/-- R88: the supply check, by the action in force. -/
theorem supplyPasses_eq (s : State) (inForce : ValveAction) : supplyPasses s inForce =
    (s.faults.reservoir.present || s.faults.reservoir.latched
      || decide ((if inForce = .apply then s.device.supplyOn - 50 else s.device.supplyOn)
        ≤ s.device.reservoir)) := by
  cases inForce <;> rfl

/-- R86, R88: the loop carries out the action it chooses, unless an apply fails the supply check. -/
theorem runLoop_eq (c : Fin 4) (s : State) : runLoop c s =
    if s.channels[c].loop = .apply ∧ supplyPasses s s.channels[c].action = false then
      requestAction c .hold (s.setChannel c { s.channels[c] with
        state := .supplyWait, supplyTimer := some 3000000 })
    else requestAction c s.channels[c].loop s := by
  unfold runLoop
  cases s.channels[c].loop with
  | apply =>
    cases supplyPasses s s.channels[c].action
    · rfl
    · rfl
  | hold | vent | allOff => exact (if_neg fun h => ValveAction.noConfusion h.1).symm

/-- R89: while it waits, an apply is carried out as a hold. -/
theorem runWaitingLoop_eq (c : Fin 4) (s : State) : runWaitingLoop c s =
    requestAction c (if s.channels[c].loop = .apply then .hold else s.channels[c].loop) s := by
  unfold runWaitingLoop
  cases s.channels[c].loop <;> rfl

/-- Two causes of one effect, the first of them ranked first. -/
theorem ite_ite_eq_ite_or {α β : Type} (b : Bool) (p : Prop) [Decidable p] (f : α → β) (x y : α) (z : β) :
    (if b = true then f x else if p then f y else z)
      = if b = true ∨ p then f (if b = true then x else y) else z := by
  cases b <;> simp

/-- R99: an exercise that ends. -/
theorem finishExercise_of_exercise {c : Fin 4} {s : State} (exercise : s.channels[c].state = .exercise)
    (how : ExerciseEnd) : finishExercise c how s = requestAction c .hold (s.setChannel c
      ({ s.channels[c] with
        state := .electronic, exerciseTimer := none, exerciseAction := none, lastEnd := how } :
        Channel).arbitrate) := by
  rw [finishExercise, Channel.endExercise, if_pos exercise]

/-- A state whose channel `c`, reservoir and settings give the loop of another state. -/
structure SameLoop (c : Fin 4) (s u : State) : Prop where
  loop : u.channels[c].loop = s.channels[c].loop
  action : u.channels[c].action = s.channels[c].action
  device : u.device = s.device
  reservoir : u.faults.reservoir = s.faults.reservoir

/-- Settles O20: state by state of the Channel Controller. -/
theorem pressureLoopAtScan : Obligations.PressureLoopAtScan := by
  intro c s standing x reserve loop passes electronic
  have loop_eq : x.loop = loop := loopAction_eq _ _ _
  have passes_eq : supplyPasses s x.action = passes := supplyPasses_eq s x.action
  have runs {u : State} (same : SameLoop c s u) : runLoop c u = electronic u := by
    have check : supplyPasses u u.channels[c].action = passes := by
      rw [supplyPasses_eq, same.reservoir, same.action, same.device, ← supplyPasses_eq, passes_eq]
    rw [runLoop_eq, same.loop, check, loop_eq]
  unfold channelScan
  rw [if_pos standing]
  cases state : s.channels[c].state with
  | off => rfl
  | electronic => exact runs ⟨rfl, rfl, rfl, rfl⟩
  | supplyWait =>
    simp only [x]
    refine if_congr ?_ (runs ⟨?_, ?_, rfl, rfl⟩) ?_
    · rw [Bool.or_eq_true, decide_eq_true_eq]
      rfl
    · rw [report_channels, State.setChannel_get_self]
      rfl
    · rw [report_channels, State.setChannel_get_self]
    · rw [runWaitingLoop_eq, loop_eq]
  | exercise =>
    simp only [x]
    rw [ite_ite_eq_ite_or s.device.braking (0 < s.device.referenceSpeed)
      (fun how => finishExercise c how s), finishExercise_of_exercise state]
  | fallback =>
    simp only [x]
    refine if_congr Iff.rfl (runs ⟨?_, ?_, rfl, rfl⟩) rfl
    · rw [State.setChannel_get_self]
      rfl
    · rw [State.setChannel_get_self]

end Sys2Proof.Machine
end

section
/-! The Valve Driver Stage's coil checks, the braking edges and WAIT_RELEASE at a scan completion (O22). -/

namespace Sys2Proof.Machine

/-! ### What settling leaves of an output that stays on -/

/-- R91: an output that is still on after a settling is as it was, and so is its VALVE_OPEN condition. -/
theorem settle_of_on {o : Fin 13} {s : State} (on : (settle s).outputs[o].energised = true) :
    (settle s).outputs[o] = s.outputs[o]
      ∧ (settle s).faults.get (.valveOpen o) = s.faults.get (.valveOpen o) := by
  have later := forEach_keeps (f := followReason)
    (fun t => t.outputs[o].energised = true →
      t.outputs[o] = s.outputs[o] ∧ t.faults.get (.valveOpen o) = s.faults.get (.valveOpen o))
    (fun c t ih onT => by
      obtain same | same | same := followReason_cases c t
      · rw [same] at onT ⊢
        exact ih onT
      · rw [same] at onT ⊢
        exact ih onT
      · rw [same] at onT ⊢
        have own : ¬OutputOf c o := fun own => by
          rw [enterFallback_own c t own, Output.noted_energised] at onT
          cases onT
        rw [enterFallback_other c t own] at onT ⊢
        have fault : (enterFallback c t).faults.get (.valveOpen o) = t.faults.get (.valveOpen o) := by
          refine enterFallback_faults FaultId.noConfusion (fun p ownP same => own ?_) t
          rwa [FaultId.valveOpen.inj same]
        rw [fault]
        exact ih onT)
    (dropDisallowed s)
    (forEach_keeps (f := dropOne)
      (fun t => t.outputs[o].energised = true →
        t.outputs[o] = s.outputs[o] ∧ t.faults.get (.valveOpen o) = s.faults.get (.valveOpen o))
      (fun p t ih onT => by
        unfold dropOne at onT ⊢
        split at onT
        · next allowed =>
          rw [if_pos allowed]
          exact ih onT
        · next denied =>
          rw [if_neg denied]
          have other : o ≠ p := by
            rintro rfl
            rw [(deenergise_self o t).1] at onT
            cases onT
          rw [deenergise_other other] at onT ⊢
          rw [deenergise_faults fun same => other (FaultId.valveOpen.inj same)]
          exact ih onT)
      s fun _ => ⟨rfl, rfl⟩)
  exact later on

/-! ### The coil checks -/

theorem FaultsOnly.refl (s : State) : FaultsOnly s s := ⟨.refl s, rfl, rfl⟩

theorem FaultsOnly.trans {s t u : State} (a : FaultsOnly s t) (b : FaultsOnly t u) : FaultsOnly s u :=
  ⟨a.toValveOnly.trans b.toValveOnly, b.channels.trans a.channels, b.outputs.trans a.outputs⟩

/-- The mark that a report leaves. -/
theorem report_mark (f : FaultId) (condition : Bool) (s : State) : (report f condition s).faults.get f =
    ⟨condition && !masked s f, (s.faults.get f).latched
      || (condition && !masked s f && !(s.faults.get f).present && f.isLatched)⟩ :=
  FaultSet.get_set_self _ _ _

theorem report_other {f g : FaultId} (h : g ≠ f) (condition : Bool) (s : State) :
    (report f condition s).faults.get g = s.faults.get g :=
  (report_spec f condition s).2.2.2.1 g h

/-- R94: the coil checks of all the outputs, after their samples. -/
def reportShorts (s : State) : State := forEach 13 (fun o s => report (.valveShort o) false s) s

/-- See `reportShorts`. -/
def reportOpen (o : Fin 13) (s : State) : State :=
  if s.outputs[o].checked then report (.valveOpen o) (s.outputs[o].lowCount == 3) s else s

/-- See `reportShorts`. -/
def sampleOutputs (low : BitVec 13) (s : State) : State :=
  { s with outputs := Vector.ofFn fun o => s.outputs[o].sampled (low.getLsbD o.val) }

theorem valveDriverScan_eq (low : BitVec 13) (s : State) : valveDriverScan low s =
    settle (forEach 13 reportOpen (reportShorts (sampleOutputs low s))) := rfl

theorem sampleOutputs_get (low : BitVec 13) (s : State) (o : Fin 13) :
    (sampleOutputs low s).outputs[o] = s.outputs[o].sampled (low.getLsbD o.val) := by
  simp [sampleOutputs]

theorem reportShorts_faultsOnly (s : State) : FaultsOnly s (reportShorts s) :=
  forEach_rel FaultsOnly .refl .trans (fun o t => (report_spec (.valveShort o) false t).1) s

theorem reportShorts_short (s : State) (o : Fin 13) :
    (reportShorts s).faults.get (.valveShort o) =
      ⟨false, (s.faults.get (.valveShort o)).latched⟩ := by
  obtain ⟨u, -, unmoved, -, last⟩ := forEach_at FaultsOnly .refl .trans
    (fun o t => (report_spec (.valveShort o) false t).1) (fun t => t.faults.get (.valveShort o)) o
    (fun p t ne => report_other (fun same => ne (FaultId.valveShort.inj same).symm) false t) s
  refine last.trans ?_
  rw [report_mark, unmoved, Bool.false_and, Bool.false_and, Bool.false_and, Bool.or_false]

theorem reportShorts_other {f : FaultId} (h : ∀ o, f ≠ .valveShort o) (s : State) :
    (reportShorts s).faults.get f = s.faults.get f :=
  forEach_keeps (f := fun o s => report (.valveShort o) false s)
    (fun t => t.faults.get f = s.faults.get f) (fun o t same => (report_other (h o) false t).trans same)
    s rfl

theorem reportOpen_faultsOnly (o : Fin 13) (s : State) : FaultsOnly s (reportOpen o s) := by
  unfold reportOpen
  split
  · exact (report_spec _ _ _).1
  · exact .refl s

theorem reportOpen_other {o : Fin 13} {f : FaultId} (h : f ≠ .valveOpen o) (s : State) :
    (reportOpen o s).faults.get f = s.faults.get f := by
  unfold reportOpen
  split
  · exact report_other h _ _
  · rfl

/-- R94: the third low reading of a checked output makes VALVE_OPEN present, unless it is masked. -/
theorem reportOpen_open (s : State) (o : Fin 13) :
    let present : Bool := s.outputs[o].checked && s.outputs[o].lowCount == 3
      && !masked s (.valveOpen o)
    (forEach 13 reportOpen s).faults.get (.valveOpen o) =
      ⟨if s.outputs[o].checked then present else (s.faults.get (.valveOpen o)).present,
        (s.faults.get (.valveOpen o)).latched || (present && !(s.faults.get (.valveOpen o)).present)⟩ := by
  obtain ⟨u, reached, unmoved, -, last⟩ := forEach_at FaultsOnly .refl .trans reportOpen_faultsOnly
    (fun t => t.faults.get (.valveOpen o)) o
    (fun p t ne => reportOpen_other (fun same => ne (FaultId.valveOpen.inj same).symm) t) s
  refine last.trans ?_
  have masked : masked u (.valveOpen o) = masked s (.valveOpen o) := by
    unfold Machine.masked
    rw [reached.device]
  unfold reportOpen
  rw [reached.outputs]
  cases checked : s.outputs[o].checked with
  | false =>
    simp only [Bool.false_eq_true, if_false, Bool.false_and, Bool.or_false]
    exact unmoved
  | true =>
    simp only [if_true, Bool.true_and]
    rw [report_mark, unmoved, masked]
    simp only [FaultId.isLatched, Bool.and_true]

theorem Output.sampled_eq (x : Output) (low : Bool) : x.sampled low = { x with
    lowCount := if x.checked then (if low then min 3 (x.lowCount + 1) else 0) else x.lowCount } := by
  unfold Output.sampled
  split <;> rfl

/-- What the coil checks leave of the fault set, before the channels follow. -/
theorem coilChecks_faults (low : BitVec 13) (s : State) (o : Fin 13) :
    let u := forEach 13 reportOpen (reportShorts (sampleOutputs low s))
    let x := s.outputs[o]
    let present : Bool := decide (x.checked = true
      ∧ (if low.getLsbD o.val then min 3 (x.lowCount + 1) else 0) = 3)
        && !s.device.faultMask.getLsbD 0
    u.faults.get (.valveShort o) = ⟨false, (s.faults.get (.valveShort o)).latched⟩
      ∧ (u.faults.get (.valveOpen o)).latched = ((s.faults.get (.valveOpen o)).latched
        || (present && !(s.faults.get (.valveOpen o)).present))
      ∧ (x.checked = true → (u.faults.get (.valveOpen o)).present = present) := by
  intro u x present
  have shorts := reportShorts_faultsOnly (sampleOutputs low s)
  have output : (reportShorts (sampleOutputs low s)).outputs[o] = x.sampled (low.getLsbD o.val) := by
    rw [shorts.outputs]
    exact sampleOutputs_get low s o
  have kept : (reportShorts (sampleOutputs low s)).faults.get (.valveOpen o)
      = s.faults.get (.valveOpen o) := reportShorts_other (fun _ => FaultId.noConfusion) _
  have mask : masked (reportShorts (sampleOutputs low s)) (.valveOpen o)
      = s.device.faultMask.getLsbD 0 := by
    unfold masked
    rw [shorts.device]
    rfl
  have opened := reportOpen_open (reportShorts (sampleOutputs low s)) o
  have present_eq : ((x.sampled (low.getLsbD o.val)).checked
      && (x.sampled (low.getLsbD o.val)).lowCount == 3 && !s.device.faultMask.getLsbD 0) = present := by
    rw [Output.sampled_eq]
    cases checked : x.checked <;> simp [present, checked, Bool.beq_eq_decide_eq]
  rw [output, kept, mask, present_eq] at opened
  refine ⟨?_, ?_, fun checked => ?_⟩
  · have stands : u.faults.get (.valveShort o)
        = (reportShorts (sampleOutputs low s)).faults.get (.valveShort o) :=
      forEach_keeps (f := reportOpen) (fun t => t.faults.get (.valveShort o)
        = (reportShorts (sampleOutputs low s)).faults.get (.valveShort o))
        (fun p t same => (reportOpen_other FaultId.noConfusion t).trans same) _ rfl
    rw [stands]
    exact reportShorts_short _ o
  · rw [opened]
  · rw [opened, Output.sampled_eq]
    exact if_pos checked

/-! ### The edges of the braking flag -/

/-- Nothing but the channels may differ. -/
def ChannelsOnly (s t : State) : Prop := t = { s with channels := t.channels }

theorem ChannelsOnly.refl (s : State) : ChannelsOnly s s := rfl

theorem ChannelsOnly.trans {s t u : State} (a : ChannelsOnly s t) (b : ChannelsOnly t u) :
    ChannelsOnly s u :=
  (show u = { t with channels := u.channels } from b).trans
    (congrArg (fun x : State => { x with channels := u.channels }) a)

/-- A pass that rewrites each channel by itself and by what the pass does not write. -/
theorem forEach_setChannel (g : State → Channel → Channel) {f : Fin 4 → State → State}
    (stable : ∀ s t x, ChannelsOnly s t → g t x = g s x)
    (pass : ∀ c s, f c s = s.setChannel c (g s s.channels[c])) (s : State) :
    ChannelsOnly s (forEach 4 f s)
      ∧ ∀ c : Fin 4, (forEach 4 f s).channels[c] = g s s.channels[c] := by
  have only (c : Fin 4) (t : State) : ChannelsOnly t (f c t) := by
    rw [pass]
    rfl
  refine ⟨forEach_rel ChannelsOnly .refl .trans only s, fun c => ?_⟩
  obtain ⟨u, reached, unmoved, -, last⟩ := forEach_at ChannelsOnly .refl .trans only
    (fun t => t.channels[c]) c (fun d t ne => by
      rw [pass]
      exact State.setChannel_get_ne _ _ _ _ ne.symm) s
  rw [last, pass, State.setChannel_get_self, unmoved, stable s u _ reached]

/-- R112: a channel at a scan completion, by the braking flag before and at it. -/
def Channel.braked (before : Bool) (d : Device) (x : Channel) : Channel :=
  if x.present = true ∧ before = false ∧ d.braking = true then { x with releaseCount := 0 }
  else if x.present = true ∧ before = true ∧ d.braking = false ∧ x.rolloverRequest = 0 then
    x.antiLockOff.arbitrate
  else x

theorem antiLockScan_spec (before : Bool) (s : State) : ChannelsOnly s (antiLockScan before s)
    ∧ ∀ c : Fin 4, (antiLockScan before s).channels[c] = s.channels[c].braked before s.device := by
  refine forEach_setChannel (fun s => Channel.braked before s.device)
    (fun s t x only => by rw [only]) (fun c t => ?_) s
  unfold Channel.braked
  by_cases starts : t.channels[c].present = true ∧ before = false ∧ t.device.braking = true
  · rw [if_pos starts, if_pos starts.1, if_pos (by rw [starts.2.1, starts.2.2]; rfl)]
  rw [if_neg starts]
  by_cases ends : t.channels[c].present = true ∧ before = true ∧ t.device.braking = false
      ∧ t.channels[c].rolloverRequest = 0
  · rw [if_pos ends, if_pos ends.1, if_neg (by rw [ends.2.1]; exact Bool.false_ne_true),
      if_pos (by rw [ends.2.1, ends.2.2.1, ends.2.2.2]; rfl)]
    exact arbitrate_setChannel c _ t
  rw [if_neg ends, State.setChannel_self]
  split
  · next standing =>
    rw [if_neg, if_neg]
    · intro h
      rw [Bool.and_eq_true, Bool.and_eq_true, Bool.not_eq_true', beq_iff_eq] at h
      exact ends ⟨standing, h.1.1, h.1.2, h.2⟩
    · intro h
      rw [Bool.and_eq_true, Bool.not_eq_true'] at h
      exact starts ⟨standing, h⟩
  · rfl

/-! ### WAIT_RELEASE -/

theorem releaseConditions_iff (s : State) : releaseConditions s = true ↔
    (∀ c : Fin 4, s.channels[c].present = true →
      s.channels[c].commanded = 0 ∧ s.channels[c].state ≠ .exercise)
      ∧ s.rollover.state ≠ .alert ∧ s.rollover.state ≠ .test ∧ s.rollover.state ≠ .intervene
      ∧ s.rollover.state ≠ .recover := by
  have calm : (!s.rollover.state.alarmed) = true ↔ s.rollover.state ≠ .alert ∧ s.rollover.state ≠ .test
      ∧ s.rollover.state ≠ .intervene ∧ s.rollover.state ≠ .recover := by
    rw [Bool.not_eq_true', ← Bool.not_eq_true, RolloverState.alarmed_iff]
    simp only [not_or, ne_eq]
  have channel (c : Fin 4) : (!s.channels[c].present
      || (s.channels[c].commanded == 0 && s.channels[c].state != .exercise)) = true ↔
        (s.channels[c].present = true →
          s.channels[c].commanded = 0 ∧ s.channels[c].state ≠ .exercise) := by
    cases s.channels[c].present <;> simp
  rw [releaseConditions, Bool.and_eq_true, calm, List.all_eq_true]
  simp only [channel, List.mem_finRange, forall_const]

/-- R175, R82: what entering STANDBY leaves, out of control. -/
theorem settle_standby {s : State} (out : inControl s = false) :
    (∀ o : Fin 13, (settle s).outputs[o].energised = false)
      ∧ ∀ c : Fin 4, s.channels[c].present = true → s.channels[c].state ≠ .off →
        (settle s).channels[c].state = .fallback ∧ (settle s).channels[c].reason = .notActive := by
  have reason (c : Fin 4) := fallbackReason_of_notInControl out c
  refine ⟨settle_off (by rw [outputsEnabled, out]; rfl), fun c standing notOff => ?_⟩
  obtain ⟨state, why⟩ := settle_falls_with standing notOff (by rw [reason]; decide)
    (by rw [reason]; decide)
  exact ⟨state, why.trans (reason c)⟩

/-- Settles O22: the coil checks, the edges of the braking flag, and WAIT_RELEASE. -/
theorem coilChecksBrakingEdgesAndWaitRelease : Obligations.CoilChecksBrakingEdgesAndWaitRelease := by
  refine ⟨fun low s => ?_, fun before s => ⟨(antiLockScan_spec before s).2,
    (antiLockScan_spec before s).1, ?_⟩⟩
  · have checks := coilChecks_faults low s
    have frame := (reportShorts_faultsOnly (sampleOutputs low s)).trans
      (forEach_rel FaultsOnly .refl .trans reportOpen_faultsOnly _)
    have channels : (forEach 13 reportOpen (reportShorts (sampleOutputs low s))).channels = s.channels :=
      frame.channels
    have outputs (o : Fin 13) : (forEach 13 reportOpen (reportShorts (sampleOutputs low s))).outputs[o]
        = s.outputs[o].sampled (low.getLsbD o.val) := by
      rw [frame.outputs]
      exact sampleOutputs_get low s o
    rw [valveDriverScan_eq]
    generalize forEach 13 reportOpen (reportShorts (sampleOutputs low s)) = u at *
    have drove := settle_drove u
    refine ⟨fun o => ?_, fun c standing running => ?_, drove.device.trans frame.device,
      drove.axles.trans frame.axles, drove.wheels.trans frame.wheels,
      drove.rollover.trans frame.rollover⟩
    · obtain ⟨short, latched, present⟩ := checks o
      refine ⟨?_, ?_, fun on => ?_, fun on checked => ?_⟩
      · exact (drove.others (.valveShort o) (fun _ => FaultId.noConfusion)
          fun _ => FaultId.noConfusion).trans short
      · exact (drove.latched (.valveOpen o)).trans latched
      · rw [(settle_of_on on).1, outputs, Output.sampled_eq]
      · exact (congrArg FaultMark.present (settle_of_on on).2).trans (present checked)
    · rintro ⟨o, own, latched⟩
      have latchedU : u.faults.valveOpen[o].latched = true :=
        (drove.latched (.valveOpen o)).symm.trans latched
      have notOff : u.channels[c].state ≠ .off := by
        rw [channels]
        rintro off
        rw [off] at running
        simp at running
      have notFallback : u.channels[c].state ≠ .fallback := by
        rw [channels]
        rintro fallback
        rw [fallback] at running
        simp at running
      obtain ⟨state, -, off⟩ := settle_falls (c := c) (s := u) (by rw [channels]; exact standing) notOff
        fun v later => fallbackReason_ne_of_valve own
          (outputFaulty_of_latched (.inl ((later.latched (.valveOpen o)).trans latchedU)))
      exact ⟨state, off notFallback _ (.inl rfl), off notFallback _ (.inr (.inl rfl)),
        off notFallback _ (.inr (.inr rfl))⟩
  · intro released t
    have conditions : releaseConditions s = true ↔ released := releaseConditions_iff s
    split
    · next leaves =>
      obtain ⟨waits, release⟩ := leaves
      have scanned : t = settle { s with device := { s.device with state := .standby } } := by
        refine (if_pos ?_).trans (setDeviceState_of_not_active ?_)
        · rw [waits, conditions.mpr release]
          rfl
        · rw [waits]
          decide
      have settled := settle_standby (s := { s with device := { s.device with state := .standby } }) rfl
      rw [scanned]
      exact ⟨(settle_drove _).device, settled.1, settled.2⟩
    · next stays =>
      refine if_neg fun both => stays ?_
      rw [Bool.and_eq_true, beq_iff_eq, conditions] at both
      exact both

end Sys2Proof.Machine
end

section
/-! What the blocks that take a scan completion leave of what the Analog Scan Unit has published, and the
Pressure Target Unit (O17). -/

namespace Sys2Proof.Machine

/-! ### The Pressure Target Unit -/

theorem pressureTargetScan_spec (s : State) : ChannelsOnly s (pressureTargetScan s)
    ∧ ∀ c : Fin 4, (pressureTargetScan s).channels[c] =
      if s.channels[c].present then
        (s.channels[c].targeted s.device.demand s.device.braking).arbitrate
      else s.channels[c] := by
  refine forEach_setChannel (fun s x =>
    if x.present then (x.targeted s.device.demand s.device.braking).arbitrate else x)
    (fun s t x only => by rw [only]) (fun c t => ?_) s
  split
  · next standing => exact arbitrate_setChannel c _ t
  · exact (State.setChannel_self t c).symm

/-- Settles O17: the gain and the target channel by channel. -/
theorem serviceTargetsAtScan : Obligations.ServiceTargetsAtScan := by
  intro s t
  obtain ⟨only, channels⟩ := pressureTargetScan_spec s
  refine ⟨fun c absent => (channels c).trans (if_neg (Bool.eq_false_iff.mp absent)),
    fun c standing => ?_, only⟩
  have targeted : t.channels[c]
      = (s.channels[c].targeted s.device.demand s.device.braking).arbitrate :=
    (channels c).trans (if_pos standing)
  rw [targeted]
  refine ⟨rfl, rfl, rfl, ?_, rfl, rfl⟩
  refine if_congr ?_ rfl rfl
  rw [Bool.and_eq_true]

/-! ### What the blocks leave of the published set -/

/-- The instances that the Analog Scan Unit alone reports. -/
def FaultId.isInput : FaultId → Bool
  | .supplyLow | .demand | .reservoir | .delivered _ | .bellows _ => true
  | .valveOpen _ | .valveShort _ | .speed _ | .supplyWait _ | .lift | .jam | .linkFrame => false

/-- R51: the frozen value of an axle after the Load Unit has taken its filter's step. -/
def thawed (s : State) (a : Fin 4) : Option Nat :=
  if bellowsFaulty s a then some (s.axles[a].frozen.getD s.axles[a].bellowsRaw) else none

/-- A block that only takes the published set: the readings, their conditions and absent axles stand, no
mark of an axle is cleared, and a mark that is latched raises the FAULT source (R177). -/
structure Taken (s t : State) : Prop where
  analog : t.analog = s.analog
  device : t.device = { s.device with state := t.device.state, fTot := t.device.fTot }
  inputs : ∀ f, f.isInput = true → t.faults.get f = s.faults.get f
  delivered : ∀ c : Fin 4, t.channels[c].delivered = s.channels[c].delivered
  present : ∀ c : Fin 4, t.channels[c].present = s.channels[c].present
  axlePresent : ∀ a : Fin 4, t.axles[a].present = s.axles[a].present
  bellowsRaw : ∀ a : Fin 4, t.axles[a].bellowsRaw = s.axles[a].bellowsRaw
  bellowsFault : ∀ a : Fin 4, t.axles[a].bellowsFault = s.axles[a].bellowsFault
  changeMark : ∀ a : Fin 4, s.axles[a].changeMark = true → t.axles[a].changeMark = true
  frozen : ∀ a : Fin 4, t.axles[a].frozen = s.axles[a].frozen ∨ t.axles[a].frozen = thawed s a
  absent : ∀ a : Fin 4, s.axles[a].present = false → t.axles[a] = s.axles[a]
  pending : s.link.faultPending = true → t.link.faultPending = true
  raised : ∀ f, (t.faults.get f).latched = true →
    (s.faults.get f).latched = true ∨ t.link.faultPending = true

theorem Taken.refl (s : State) : Taken s s where
  analog := rfl
  device := rfl
  inputs _ _ := rfl
  delivered _ := rfl
  present _ := rfl
  axlePresent _ := rfl
  bellowsRaw _ := rfl
  bellowsFault _ := rfl
  changeMark _ := id
  frozen _ := .inl rfl
  absent _ _ := rfl
  pending := id
  raised _ := .inl

theorem Taken.bellowsFaulty_eq {s t : State} (h : Taken s t) (a : Fin 4) :
    bellowsFaulty t a = bellowsFaulty s a := by
  unfold bellowsFaulty faulty
  rw [h.inputs (.bellows a) rfl]

/-- R51: freezing twice is freezing once. -/
theorem Taken.thawed_eq {s t : State} (h : Taken s t) (a : Fin 4) : thawed t a = thawed s a := by
  have same := h.frozen a
  unfold thawed at same ⊢
  rw [h.bellowsFaulty_eq, h.bellowsRaw]
  split
  · next faulty =>
    rw [if_pos faulty] at same
    obtain same | same := same
    · rw [same]
    · rw [same, Option.getD_some]
  · rfl

theorem Taken.trans {s t u : State} (h : Taken s t) (k : Taken t u) : Taken s u where
  analog := k.analog.trans h.analog
  device := by rw [k.device, h.device]
  inputs f input := (k.inputs f input).trans (h.inputs f input)
  delivered c := (k.delivered c).trans (h.delivered c)
  present c := (k.present c).trans (h.present c)
  axlePresent a := (k.axlePresent a).trans (h.axlePresent a)
  bellowsRaw a := (k.bellowsRaw a).trans (h.bellowsRaw a)
  bellowsFault a := (k.bellowsFault a).trans (h.bellowsFault a)
  changeMark a := k.changeMark a ∘ h.changeMark a
  frozen a := by
    obtain same | same := k.frozen a
    · rw [same]
      exact h.frozen a
    · rw [same, h.thawed_eq]
      exact .inr rfl
  absent a none := (k.absent a ((h.axlePresent a).trans none)).trans (h.absent a none)
  pending := k.pending ∘ h.pending
  raised f latched := by
    obtain before | now := k.raised f latched
    · exact (h.raised f before).imp_right k.pending
    · exact .inr now

theorem forEach_taken {n : Nat} {f : Fin n → State → State} (step : ∀ i s, Taken s (f i s))
    (s : State) : Taken s (forEach n f s) :=
  forEach_rel Taken .refl .trans step s

theorem Drove.taken {s t : State} (h : Drove s t) : Taken s t where
  analog := h.analog
  device := by rw [h.device]
  inputs f input := h.others f (by rintro o rfl; cases input) (by rintro c rfl; cases input)
  delivered c := by rw [(h.channels c).static]
  present c := (h.channels c).present_eq
  axlePresent a := by rw [h.axles]
  bellowsRaw a := by rw [h.axles]
  bellowsFault a := by rw [h.axles]
  changeMark a := by rw [h.axles]; exact id
  frozen a := .inl (by rw [h.axles])
  absent a _ := by rw [h.axles]
  pending := by rw [h.sameLink]; exact id
  raised f latched := .inl ((h.latched f).symm.trans latched)

/-- R177: a report raises the FAULT source with the mark. -/
theorem report_raised (f g : FaultId) (b : Bool) (s : State)
    (latched : ((report f b s).faults.get g).latched = true) :
    (s.faults.get g).latched = true ∨ (report f b s).link.faultPending = true := by
  obtain ⟨-, -, latches, others, pending⟩ := report_spec f b s
  by_cases same : g = f
  · subst same
    cases before : (s.faults.get g).latched with
    | true => exact .inl rfl
    | false =>
      rw [latches, before, Bool.false_or] at latched
      rw [pending, latched, before]
      exact .inr (by simp)
  · rw [others g same] at latched
    exact .inl latched

theorem report_pending (f : FaultId) (b : Bool) (s : State) (h : s.link.faultPending = true) :
    (report f b s).link.faultPending = true := by
  rw [(report_spec f b s).2.2.2.2, h, Bool.true_or]

theorem report_taken {f : FaultId} (other : f.isInput = false) (b : Bool) (s : State) :
    Taken s (report f b s) :=
  { Taken.refl s with
    device := rfl
    inputs := fun g input => report_other (by rintro rfl; rw [input] at other; cases other) b s
    pending := report_pending f b s
    raised := fun g => report_raised f g b s }

/-- A change of the channels that leaves what was published of them. -/
theorem ChannelsOnly.taken {s t : State} (h : ChannelsOnly s t)
    (delivered : ∀ c : Fin 4, t.channels[c].delivered = s.channels[c].delivered)
    (present : ∀ c : Fin 4, t.channels[c].present = s.channels[c].present) : Taken s t where
  analog := by rw [h]
  device := by rw [h]
  inputs f _ := by rw [h]
  delivered := delivered
  present := present
  axlePresent a := by rw [h]
  bellowsRaw a := by rw [h]
  bellowsFault a := by rw [h]
  changeMark a := by rw [h]; exact id
  frozen a := .inl (by rw [h])
  absent a _ := by rw [h]
  pending := by rw [h]; exact id
  raised f := by rw [h]; exact .inl

/-- What holds of a rewritten axle and of the others. -/
theorem setAxle_forall {P : Fin 4 → Axle → Prop} {a : Fin 4} {x : Axle} {s : State} (self : P a x)
    (other : ∀ b, b ≠ a → P b s.axles[b]) (b : Fin 4) : P b (s.setAxle a x).axles[b] := by
  by_cases same : b = a
  · subst same
    rw [State.setAxle_get_self]
    exact self
  · rw [State.setAxle_get_ne _ _ _ _ same]
    exact other b same

/-- A change of an existing axle that leaves what was published of it. -/
theorem setAxle_taken {a : Fin 4} {x : Axle} {s : State} (standing : s.axles[a].present = true)
    (present : x.present = s.axles[a].present) (raw : x.bellowsRaw = s.axles[a].bellowsRaw)
    (fault : x.bellowsFault = s.axles[a].bellowsFault)
    (mark : s.axles[a].changeMark = true → x.changeMark = true)
    (frozen : x.frozen = s.axles[a].frozen ∨ x.frozen = thawed s a) : Taken s (s.setAxle a x) :=
  { Taken.refl s with
    device := rfl
    axlePresent := setAxle_forall (P := fun b y => y.present = s.axles[b].present) present
      fun _ _ => rfl
    bellowsRaw := setAxle_forall (P := fun b y => y.bellowsRaw = s.axles[b].bellowsRaw) raw
      fun _ _ => rfl
    bellowsFault := setAxle_forall (P := fun b y => y.bellowsFault = s.axles[b].bellowsFault) fault
      fun _ _ => rfl
    changeMark := setAxle_forall (P := fun b y => s.axles[b].changeMark = true → y.changeMark = true)
      mark fun _ _ => id
    frozen := setAxle_forall (P := fun b y => y.frozen = s.axles[b].frozen ∨ y.frozen = thawed s b)
      frozen fun _ _ => .inl rfl
    absent := setAxle_forall (P := fun b y => s.axles[b].present = false → y = s.axles[b])
      (fun none => absurd standing (Bool.eq_false_iff.mp none)) fun _ _ _ => rfl }

/-! ### Block by block -/

theorem putAxle_lift_taken {a : Fin 4} (l : LiftState) {s : State}
    (standing : s.axles[a].present = true) :
    Taken s (putAxle a { s.axles[a] with liftState := l } s) :=
  setAxle_taken standing rfl rfl rfl (fun mark => by rw [mark]; rfl) (.inl rfl)

/-- The Lift Controller's own state is not published. -/
theorem lift_taken (l : LiftController) (s : State) : Taken s { s with lift := l } :=
  { Taken.refl s with device := rfl }

theorem outputs_taken (o : Vector Output 13) (s : State) : Taken s { s with outputs := o } :=
  { Taken.refl s with device := rfl }

theorem requestLift_taken (on : Bool) (s : State) : Taken s (requestLift on s) := by
  have noted (on : Bool) (t : State) : Taken t (noteRequest liftOutput on t) := by
    unfold noteRequest
    dsimp only
    split
    · exact outputs_taken _ t
    · exact (outputs_taken _ t).trans (deenergise_drove _ _).taken
  unfold requestLift
  dsimp only
  split
  · exact (noted _ _).trans (energise_drove _ _).taken
  · exact noted _ _

theorem startLowering_taken {a : Fin 4} {s : State} (standing : s.axles[a].present = true) :
    Taken s (startLowering a s) := by
  unfold startLowering
  exact ((putAxle_lift_taken .lowering standing).trans (lift_taken _ _)).trans (requestLift_taken _ _)

theorem forceLowering_taken (s : State) : Taken s (forceLowering s) := by
  unfold forceLowering
  split
  · exact .refl s
  · next a found =>
    have standing := (liftAxle_eq_some found).1
    split
    case h_1 | h_2 => exact startLowering_taken standing
    case h_3 | h_4 | h_5 => exact .refl s

theorem liftMove_taken {a : Fin 4} {s : State} (was : LiftState) (standing : s.axles[a].present = true) :
    Taken s (liftMove was a s) := by
  unfold liftMove
  split
  case h_1 =>
    split
    · unfold startRaise
      exact ((putAxle_lift_taken .raising standing).trans (lift_taken _ _)).trans (requestLift_taken _ _)
    · exact .refl s
  case h_2 =>
    split
    · exact startLowering_taken standing
    split
    · exact (putAxle_lift_taken .up standing).trans (lift_taken _ _)
    · exact .refl s
  case h_3 =>
    split
    · have lowered := startLowering_taken standing
      unfold lowerRaised
      dsimp only
      split
      · refine lowered.trans (setAxle_taken ?_ rfl rfl rfl id (.inl rfl))
        rw [lowered.axlePresent]
        exact standing
      · exact lowered
    · exact .refl s
  case h_4 | h_5 => exact .refl s

theorem liftCounted_taken {a : Fin 4} {s : State} (standing : s.axles[a].present = true) :
    Taken s (liftCounted a s) := by
  unfold liftCounted
  dsimp only
  refine .trans ?_ (lift_taken _ _)
  split
  · exact (putAxle_lift_taken .down standing).trans (lift_taken _ _)
  · exact .refl s

theorem liftScan_taken (s : State) : Taken s (liftScan s) := by
  have reported := report_taken (f := .lift) rfl false s
  cases found : liftAxle s with
  | none =>
    rw [liftScan_of_none found]
    exact reported.trans (lift_taken _ _)
  | some a =>
    have standing := (liftAxle_eq_some found).1
    have counted := liftCounted_taken (a := a) (s := report .lift false s) standing
    rw [liftScan_of_some found]
    refine (reported.trans counted).trans (liftMove_taken _ ?_)
    rw [counted.axlePresent]
    exact standing

theorem pressureTargetScan_taken (s : State) : Taken s (pressureTargetScan s) := by
  obtain ⟨only, channels⟩ := pressureTargetScan_spec s
  refine only.taken (fun c => ?_) fun c => ?_
  all_goals
    rw [channels c]
    split <;> rfl

theorem antiLockScan_taken (before : Bool) (s : State) : Taken s (antiLockScan before s) := by
  obtain ⟨only, channels⟩ := antiLockScan_spec before s
  refine only.taken (fun c => ?_) fun c => ?_
  all_goals
    rw [channels c, Channel.braked]
    split
    · rfl
    · split <;> rfl

theorem coilChecks_taken (low : BitVec 13) (s : State) :
    Taken s (forEach 13 reportOpen (reportShorts (sampleOutputs low s))) := by
  have shorts (t : State) : Taken t (reportShorts t) :=
    forEach_taken (fun o t => report_taken rfl false t) t
  have opens (o : Fin 13) (t : State) : Taken t (reportOpen o t) := by
    unfold reportOpen
    split
    · exact report_taken rfl _ t
    · exact .refl t
  exact ((outputs_taken _ s).trans (shorts _)).trans (forEach_taken opens _)

theorem valveDriverScan_taken (low : BitVec 13) (s : State) : Taken s (valveDriverScan low s) := by
  rw [valveDriverScan_eq]
  exact (coilChecks_taken low s).trans (settle_drove _).taken

theorem waitReleaseScan_taken (s : State) : Taken s (waitReleaseScan s) := by
  have entered (d : DeviceState) (t : State) :
      Taken t { t with device := { t.device with state := d } } := { Taken.refl t with device := rfl }
  unfold waitReleaseScan setDeviceState
  dsimp only
  split
  · split
    · exact ((entered _ s).trans (forceLowering_taken _)).trans (settle_drove _).taken
    · exact (entered _ s).trans (settle_drove _).taken
  · exact .refl s

end Sys2Proof.Machine
end

section
/-! The Load Unit at a scan completion: filters, the load state, loads and fractions (O15). -/

namespace Sys2Proof.Machine

/-! ### One pass over the axles -/

/-- R48 stages 1 to 3 for one axle, `before` and `after` being the Load Unit's state: it is weighed while
the loads are live, and when it has just come down while they are held. -/
def Axle.taken (before after : LoadUnit) (faulty : Bool) (x : Axle) : Axle :=
  let y := x.filtered faulty
  let y := if after.loadState = .live
      ∨ (before.loadState = .held ∧ x.liftState = .down ∧ x.seenDown = false) then y.weighed else y
  { y with
    seenDown := y.liftState.isDown
    changeMark := y.changeMark || before.loadState != after.loadState }

theorem loadAxle_eq (before after : LoadUnit) (a : Fin 4) (s : State) :
    loadAxle before after a s = if s.axles[a].present then
      s.setAxle a (s.axles[a].taken before after (bellowsFaulty s a)) else s := by
  unfold loadAxle Axle.taken
  refine if_congr Iff.rfl (congrArg (fun y : Axle => s.setAxle a { y with
    seenDown := y.liftState.isDown
    changeMark := y.changeMark || before.loadState != after.loadState }) ?_) rfl
  generalize s.axles[a] = x
  cases is : after.loadState with
  | live => cases before.loadState <;> rfl
  | held =>
    cases was : before.loadState with
    | live => exact (if_neg (by simp)).symm
    | held =>
      refine if_congr ?_ rfl rfl
      simp [Axle.filtered]

/-- Nothing but the axles may differ. -/
def AxlesOnly (s t : State) : Prop := t = { s with axles := t.axles }

theorem AxlesOnly.trans {s t u : State} (a : AxlesOnly s t) (b : AxlesOnly t u) : AxlesOnly s u :=
  (show u = { t with axles := u.axles } from b).trans
    (congrArg (fun x : State => { x with axles := u.axles }) a)

theorem loadAxles_spec (before after : LoadUnit) (s : State) :
    AxlesOnly s (forEach 4 (loadAxle before after) s)
      ∧ ∀ a : Fin 4, (forEach 4 (loadAxle before after) s).axles[a] =
        if s.axles[a].present then s.axles[a].taken before after (bellowsFaulty s a)
        else s.axles[a] := by
  have only (a : Fin 4) (t : State) : AxlesOnly t (loadAxle before after a t) := by
    rw [loadAxle_eq]
    split <;> rfl
  refine ⟨forEach_rel AxlesOnly (fun _ => rfl) .trans only s, fun a => ?_⟩
  obtain ⟨u, reached, unmoved, -, last⟩ := forEach_at AxlesOnly (fun _ => rfl) .trans only
    (fun t => t.axles[a]) a (fun b t ne => by
      rw [loadAxle_eq]
      split
      · exact State.setAxle_get_ne _ _ _ _ ne.symm
      · rfl) s
  have faulty : bellowsFaulty u a = bellowsFaulty s a := by
    rw [reached]
    rfl
  have unmoved : u.axles[a] = s.axles[a] := unmoved
  rw [last, loadAxle_eq, unmoved, faulty]
  split
  · exact State.setAxle_get_self _ _ _
  · exact unmoved

/-! ### The sums and what is handed over -/

theorem fractionOver_congr {s t : State} (same : t.axles = s.axles) (inSet : Fin 4 → Bool) :
    fractionOver t inSet = fractionOver s inSet := by
  unfold fractionOver sumDown axleDown
  rw [same]

theorem axleDown_congr {s t : State} (same : t.axles = s.axles) (a : Fin 4) :
    axleDown t a = axleDown s a := by
  unfold axleDown
  rw [same]

/-- R54, R70: what the Load Unit hands to a channel. -/
def Channel.given (s : State) (x : Channel) : Channel :=
  { x with
    handFraction := fractionOver s x.hasAxle
    handBearing := (List.finRange 4).any fun a => axleDown s a && x.hasAxle a }

theorem handOvers_spec (s : State) : ChannelsOnly s (forEach 4 handOver s)
    ∧ ∀ c : Fin 4, (forEach 4 handOver s).channels[c] =
      if s.channels[c].present then s.channels[c].given s else s.channels[c] := by
  refine forEach_setChannel (fun s x => if x.present then x.given s else x)
    (fun s t x only => ?_) (fun c t => ?_) s
  · have axles : t.axles = s.axles := by rw [only]
    unfold Channel.given
    simp only [fractionOver_congr axles, axleDown_congr axles]
  · unfold handOver
    split
    · rfl
    · exact (State.setChannel_self t c).symm

/-- R48 as a whole. -/
theorem loadUnitScan_spec (s : State) :
    let t := loadUnitScan s
    let after := s.loadUnit.next s.device.braking s.rollover.state.intervening
    t = { s with
        loadUnit := after, axles := t.axles, channels := t.channels,
        device := { s.device with fTot := fractionOver t fun _ => true } }
      ∧ (∀ a : Fin 4, t.axles[a] =
        if s.axles[a].present then s.axles[a].taken s.loadUnit after (bellowsFaulty s a)
        else s.axles[a])
      ∧ ∀ c : Fin 4, t.channels[c] =
        if s.channels[c].present then s.channels[c].given t else s.channels[c] := by
  intro t after
  obtain ⟨axlesOnly, axles⟩ := loadAxles_spec s.loadUnit after { s with loadUnit := after }
  have ran : t = forEach 4 handOver (({ forEach 4 (loadAxle s.loadUnit after)
    { s with loadUnit := after } with
      device := { (forEach 4 (loadAxle s.loadUnit after) { s with loadUnit := after }).device with
        fTot := fractionOver (forEach 4 (loadAxle s.loadUnit after) { s with loadUnit := after })
          fun _ => true } } : State)) := rfl
  generalize forEach 4 (loadAxle s.loadUnit after) { s with loadUnit := after } = w at ran axlesOnly axles
  have device : w.device = s.device := by rw [axlesOnly]
  have sameChannels : w.channels = s.channels := by rw [axlesOnly]
  obtain ⟨channelsOnly, channels⟩ := handOvers_spec
    { w with device := { w.device with fTot := fractionOver w fun _ => true } }
  rw [← ran] at channelsOnly channels
  have sameAxles : t.axles = w.axles := by rw [channelsOnly]
  refine ⟨?_, fun a => ?_, fun c => ?_⟩
  · have total := fractionOver_congr sameAxles fun _ => true
    rw [total]
    refine Eq.trans (show t = _ from channelsOnly) ?_
    rw [device, sameAxles, axlesOnly]
  · refine (congrArg (·[a]) sameAxles).trans ?_
    exact axles a
  · refine (channels c).trans ?_
    dsimp only
    rw [sameChannels]
    refine if_congr Iff.rfl ?_ rfl
    unfold Channel.given
    simp only [fractionOver_congr sameAxles, axleDown_congr sameAxles]
    rfl

theorem loadUnitScan_fTot (s : State) :
    (loadUnitScan s).device.fTot = fractionOver (loadUnitScan s) fun _ => true := by
  obtain ⟨whole, -, -⟩ := loadUnitScan_spec s
  generalize loadUnitScan s = t at whole ⊢
  exact congrArg (fun w : State => w.device.fTot) whole

/-! ### What the Load Unit leaves -/

theorem Axle.taken_frozen (before after : LoadUnit) (faulty : Bool) (x : Axle) :
    (x.taken before after faulty).frozen =
      if faulty then some (x.frozen.getD x.bellowsRaw) else none := by
  unfold Axle.taken
  dsimp only
  split <;> rfl

theorem Axle.taken_spec (before after : LoadUnit) (faulty : Bool) (x : Axle) :
    let y := x.taken before after faulty
    let input := if faulty then x.frozen.getD x.bellowsRaw else x.bellowsRaw
    y.frozen = (if faulty then some input else none)
      ∧ y.bellowsFiltered = (if x.filterEmpty then input else filterStep x.bellowsFiltered input)
      ∧ (if after.loadState = .live
          ∨ (before.loadState = .held ∧ x.liftState = .down ∧ x.seenDown = false) then
        y.load = curveLoad x.curve y.bellowsFiltered
          ∧ y.loadFraction = loadFractionOf y.load x.l0 x.l1
      else y.load = x.load ∧ y.loadFraction = x.loadFraction)
      ∧ y.changeMark = (x.changeMark || before.loadState != after.loadState)
      ∧ y = { x with
          frozen := y.frozen, bellowsFiltered := y.bellowsFiltered, filterEmpty := false,
          load := y.load, loadFraction := y.loadFraction, changeMark := y.changeMark,
          seenDown := x.liftState.isDown } := by
  unfold Axle.taken
  dsimp only
  split <;> cases faulty <;> exact ⟨rfl, rfl, ⟨rfl, rfl⟩, rfl, rfl⟩

/-- R52: on a curve the lowest enclosing segment gives the load. -/
theorem segmentLoad_of_lowest {curve : List CurvePoint} {b k : Nat} (inside : k < curve.length - 1)
    (above : (curve.getD k ⟨0, 0⟩).bellows ≤ b) (below : b < (curve.getD (k + 1) ⟨0, 0⟩).bellows)
    (lowest : ∀ j < k, ¬((curve.getD j ⟨0, 0⟩).bellows ≤ b ∧ b < (curve.getD (j + 1) ⟨0, 0⟩).bellows)) :
    segmentLoad curve b = (curve.getD k ⟨0, 0⟩).interpolate (curve.getD (k + 1) ⟨0, 0⟩) b := by
  induction curve generalizing k with
  | nil => exact absurd inside (Nat.not_lt_zero _)
  | cons p rest ih =>
    cases rest with
    | nil => exact absurd inside (Nat.not_lt_zero _)
    | cons q rest =>
      cases k with
      | zero => exact if_pos ⟨above, below⟩
      | succ k =>
        have inside' : k < (q :: rest).length - 1 := by
          simp only [List.length_cons] at inside ⊢
          omega
        refine (if_neg (lowest 0 (Nat.succ_pos k))).trans (ih inside' above below fun j less => ?_)
        exact lowest (j + 1) (Nat.succ_lt_succ less)

theorem getLastD_eq_getD (p : CurvePoint) (rest : List CurvePoint) :
    (p :: rest).getLastD p = (p :: rest).getD ((p :: rest).length - 1) ⟨0, 0⟩ := by
  rw [List.getLastD_eq_getLast?, List.getLast?_eq_getElem?, List.getD_eq_getElem?_getD]
  have some : (p :: rest)[(p :: rest).length - 1]?.isSome = true := by simp
  obtain ⟨q, found⟩ := Option.isSome_iff_exists.mp some
  rw [found]
  rfl

theorem loadFractionOf_of_empty {load low high : Nat} (none : high ≤ low) :
    loadFractionOf load low high = 0 := if_pos none

theorem loadFractionOf_above {load low high : Nat} (span : low < high) (above : low ≤ load) :
    loadFractionOf load low high = min 1024 ((load - low) * 1024 / (high - low)) := by
  have cast : (((load : Int) - low) * 1024).tdiv ((high : Int) - low)
      = (((load - low) * 1024 / (high - low) : Nat) : Int) := by
    rw [← Int.ofNat_sub above, ← Int.ofNat_sub span.le]
    exact Int.ofNat_tdiv _ _
  unfold loadFractionOf clampInt
  rw [if_neg (by omega), cast]
  generalize (load - low) * 1024 / (high - low) = n
  omega

theorem loadFractionOf_below {load low high : Nat} (span : low < high) (below : load ≤ low) :
    loadFractionOf load low high = 0 := by
  have opposite : 0 ≤ -((((load : Int) - low) * 1024).tdiv ((high : Int) - low)) := by
    rw [← Int.neg_tdiv]
    exact Int.tdiv_nonneg (by omega) (by omega)
  unfold loadFractionOf clampInt
  rw [if_neg (by omega)]
  omega

theorem LoadUnit.next_eq (u : LoadUnit) (braking intervening : Bool) :
    u.next braking intervening =
      match u.loadState with
      | .live => if braking || intervening then ⟨.held, 0⟩ else u
      | .held =>
        if braking then ⟨.held, 0⟩
        else if 100 ≤ u.releaseCount + 1 then
          (if intervening then ⟨.held, 100⟩ else ⟨.live, 100⟩)
        else ⟨.held, u.releaseCount + 1⟩ := by
  rcases u with ⟨loads, count⟩
  cases loads with
  | live => rfl
  | held =>
    refine if_congr Iff.rfl rfl ?_
    dsimp only
    by_cases done : 100 ≤ count + 1
    · rw [if_pos done, Nat.min_eq_left done]
      cases intervening <;> rfl
    · rw [if_neg done, Nat.min_eq_right (by omega), if_neg (fun both => done both.1)]

theorem intervening_eq (q : RolloverState) :
    q.intervening = (q == .intervene || q == .recover) := by cases q <;> rfl

theorem isDown_eq (l : LiftState) : l.isDown = (l == .down || l == .notLiftable) := by cases l <;> rfl

theorem sumDown_eq (t : State) (inSet : Fin 4 → Bool) (f : Axle → Nat) :
    sumDown t inSet f = ((List.finRange 4).map fun a =>
      if t.axles[a].present && inSet a
          && (t.axles[a].liftState == .down || t.axles[a].liftState == .notLiftable)
      then f t.axles[a] else 0).sum := by
  unfold sumDown axleDown
  simp only [isDown_eq, Bool.and_right_comm]

/-- R54, R70: F_TOT and what a channel is handed, by the sums over the down axles. -/
theorem handed_sums {s t : State} (summed : t.device.fTot = fractionOver t fun _ => true)
    (channels : ∀ c : Fin 4, t.channels[c] =
      if s.channels[c].present then s.channels[c].given t else s.channels[c]) :
    let total : (Fin 4 → Bool) → (Axle → Nat) → Nat := fun inSet f =>
      ((List.finRange 4).map fun a =>
        if t.axles[a].present && inSet a
            && (t.axles[a].liftState == .down || t.axles[a].liftState == .notLiftable)
        then f t.axles[a] else 0).sum
    t.device.fTot =
        loadFractionOf (total (fun _ => true) Axle.load) (total (fun _ => true) Axle.l0)
          (total (fun _ => true) Axle.l1)
      ∧ ∀ c : Fin 4,
        let group : Fin 4 → Bool := fun a =>
          decide (s.channels[c].groupFirst ≤ a) && decide (a ≤ s.channels[c].groupLast)
        t.channels[c] =
          if s.channels[c].present then
            { s.channels[c] with
              handFraction :=
                loadFractionOf (total group Axle.load) (total group Axle.l0) (total group Axle.l1)
              handBearing := (List.finRange 4).any fun a =>
                t.axles[a].present && group a
                  && (t.axles[a].liftState == .down || t.axles[a].liftState == .notLiftable) }
          else s.channels[c] := by
  intro total
  have fraction (inSet : Fin 4 → Bool) : fractionOver t inSet
      = loadFractionOf (total inSet Axle.load) (total inSet Axle.l0) (total inSet Axle.l1) := by
    unfold fractionOver
    simp only [sumDown_eq]
    rfl
  refine ⟨summed.trans (fraction _), fun c => ?_⟩
  refine (channels c).trans (if_congr Iff.rfl ?_ rfl)
  unfold Channel.given axleDown
  simp only [isDown_eq, Bool.and_right_comm, fraction]
  rfl

/-- Settles O15: the two passes, and the curve and the fractions. -/
theorem loadUnitFiltersHoldsAndWeighs : Obligations.LoadUnitFiltersHoldsAndWeighs := by
  refine ⟨?_, ?_⟩
  · intro s t u intervening
    obtain ⟨whole, axles, -⟩ := loadUnitScan_spec s
    have load : t.loadUnit = u.next s.device.braking s.rollover.state.intervening :=
      congrArg State.loadUnit whole
    refine ⟨?_, fun a absent => ?_, fun a standing => ?_, ?_⟩
    · rw [load, intervening_eq]
      exact LoadUnit.next_eq _ _ _
    · exact (axles a).trans (if_neg (Bool.eq_false_iff.mp absent))
    · intro x y faulty input
      have stepped : y = x.taken u t.loadUnit faulty := by
        rw [load]
        exact (axles a).trans (if_pos standing)
      have spec := x.taken_spec u t.loadUnit faulty
      rw [← stepped] at spec
      generalize t.loadUnit = after at spec ⊢
      clear_value y faulty u x
      obtain ⟨frozen, filtered, weighed, mark, rest⟩ := spec
      refine ⟨frozen, filtered, weighed, mark, ?_⟩
      rw [← isDown_eq]
      exact rest
    · rw [congrArg State.device whole]
      exact whole.trans (by rw [load])
  · intro curve b load low high s p
    refine ⟨fun nonempty below => ?_, fun nonempty above beyond => ?_,
      fun k inside past under above below lowest => ?_, loadFractionOf_of_empty,
      loadFractionOf_below, loadFractionOf_above, ?_⟩
    · obtain ⟨q, rest, rfl⟩ := List.exists_cons_of_ne_nil nonempty
      exact if_pos below
    · obtain ⟨q, rest, rfl⟩ := List.exists_cons_of_ne_nil nonempty
      have last := getLastD_eq_getD q rest
      refine (if_neg (Nat.not_le.mpr above)).trans ((if_pos ?_).trans (congrArg CurvePoint.load last))
      rw [last]
      exact beyond
    · cases curve with
      | nil => exact absurd inside (Nat.not_lt_zero _)
      | cons q rest =>
        have last := getLastD_eq_getD q rest
        refine (if_neg (Nat.not_le.mpr past)).trans ((if_neg ?_).trans
          (segmentLoad_of_lowest inside above below lowest))
        rw [last]
        exact Nat.not_le.mpr under
    · exact handed_sums (loadUnitScan_fTot s) (loadUnitScan_spec s).2.2

end Sys2Proof.Machine
end

section
/-! What the Analog Scan Unit publishes at a scan completion (O12, O13). -/

namespace Sys2Proof.Machine

/-! ### Every block only takes the published set -/

theorem loadAxle_taken (before after : LoadUnit) (a : Fin 4) (s : State) :
    Taken s (loadAxle before after a s) := by
  rw [loadAxle_eq]
  split
  · next standing =>
    have frozen := s.axles[a].taken_frozen before after (bellowsFaulty s a)
    obtain ⟨-, -, -, mark, rest⟩ := s.axles[a].taken_spec before after (bellowsFaulty s a)
    refine setAxle_taken standing ?_ ?_ ?_ (fun marked => ?_) (.inr frozen)
    · rw [rest]
    · rw [rest]
    · rw [rest]
    · rw [mark, marked, Bool.true_or]
  · exact .refl s

theorem handOver_taken (c : Fin 4) (s : State) : Taken s (handOver c s) := by
  unfold handOver
  split
  · refine ChannelsOnly.taken rfl (fun d => ?_) fun d => ?_
    all_goals
      by_cases same : d = c
      · subst same
        rw [State.setChannel_get_self]
      · rw [State.setChannel_get_ne _ _ _ _ same]
  · exact .refl s

theorem loadUnitScan_taken (s : State) : Taken s (loadUnitScan s) := by
  have state (u : LoadUnit) : Taken s { s with loadUnit := u } := { Taken.refl s with device := rfl }
  have total (t : State) (n : Nat) : Taken t { t with device := { t.device with fTot := n } } :=
    { Taken.refl t with device := rfl }
  unfold loadUnitScan
  exact .trans (.trans (.trans (state _) (forEach_taken (loadAxle_taken _ _) _)) (total _ _))
    (forEach_taken handOver_taken _)

/-- R51: the Load Unit leaves every existing axle frozen or thawed. -/
theorem loadUnitScan_frozen {s : State} {a : Fin 4} (standing : s.axles[a].present = true) :
    (loadUnitScan s).axles[a].frozen = thawed s a := by
  rw [(loadUnitScan_spec s).2.1 a, if_pos standing, Axle.taken_frozen]
  rfl

theorem takeScan_taken (r : ScanInputs) (before : Bool) (agent : ScanAgent) (s : State) :
    Taken s (takeScan r before agent s) := by
  cases agent with
  | loadUnit => exact loadUnitScan_taken s
  | liftController => exact liftScan_taken s
  | pressureTarget => exact pressureTargetScan_taken s
  | channel c => exact (channelScan_drove c s).taken
  | valveDriver => exact valveDriverScan_taken _ s
  | antiLock => exact antiLockScan_taken before s
  | operatingState => exact waitReleaseScan_taken s

theorem foldl_takeScan_taken (r : ScanInputs) (before : Bool) (order : List ScanAgent) (s : State) :
    Taken s (order.foldl (fun s a => takeScan r before a s) s) := by
  induction order generalizing s with
  | nil => exact .refl s
  | cons agent rest ih => exact (takeScan_taken r before agent s).trans (ih _)

theorem foldl_takeScan_frozen (r : ScanInputs) (before : Bool) {order : List ScanAgent}
    (named : .loadUnit ∈ order) {s : State} {a : Fin 4} (standing : s.axles[a].present = true) :
    (order.foldl (fun s a => takeScan r before a s) s).axles[a].frozen = thawed s a := by
  obtain ⟨first, last, rfl⟩ := List.append_of_mem named
  rw [List.foldl_append, List.foldl_cons]
  have head := foldl_takeScan_taken r before first s
  generalize first.foldl (fun s a => takeScan r before a s) s = u at head ⊢
  have weighed : (loadUnitScan u).axles[a].frozen = thawed u a :=
    loadUnitScan_frozen ((head.axlePresent a).trans standing)
  have loaded := loadUnitScan_taken u
  have rest := foldl_takeScan_taken r before last (loadUnitScan u)
  obtain same | same := rest.frozen a
  · exact same.trans (weighed.trans (head.thawed_eq a))
  · exact same.trans ((head.trans loaded).thawed_eq a)

/-! ### The published set -/

/-- R176, R177: the mark of a fault after a report. -/
def reportedMark (s : State) (f : FaultId) (condition : Bool) : FaultMark :=
  ⟨condition && !masked s f, (s.faults.get f).latched
    || (condition && !masked s f && !(s.faults.get f).present && f.isLatched)⟩

theorem report_mark_of_same {s t : State} {f : FaultId} (same : t.faults.get f = s.faults.get f)
    (device : t.device.faultMask = s.device.faultMask) (condition : Bool) :
    (report f condition t).faults.get f = reportedMark s f condition := by
  rw [report_mark, same]
  unfold reportedMark masked
  rw [device]

/-- What each step of a publication keeps. -/
structure Publishing (s t : State) : Prop where
  analog : t.analog = s.analog
  device : t.device = s.device
  outputs : t.outputs = s.outputs
  pending : s.link.faultPending = true → t.link.faultPending = true
  raised : ∀ f, (t.faults.get f).latched = true →
    (s.faults.get f).latched = true ∨ t.link.faultPending = true

theorem Publishing.refl (s : State) : Publishing s s := ⟨rfl, rfl, rfl, id, fun _ => .inl⟩

theorem Publishing.trans {s t u : State} (h : Publishing s t) (k : Publishing t u) : Publishing s u where
  analog := k.analog.trans h.analog
  device := k.device.trans h.device
  outputs := k.outputs.trans h.outputs
  pending := k.pending ∘ h.pending
  raised f latched := by
    obtain before | now := k.raised f latched
    · exact (h.raised f before).imp_right k.pending
    · exact .inr now

theorem report_publishing (f : FaultId) (condition : Bool) (s : State) :
    Publishing s (report f condition s) :=
  ⟨rfl, rfl, rfl, report_pending f condition s, fun g => report_raised f g condition s⟩

theorem setChannel_publishing (c : Fin 4) (x : Channel) (s : State) :
    Publishing s (s.setChannel c x) := ⟨rfl, rfl, rfl, id, fun _ => .inl⟩

theorem setAxle_publishing (a : Fin 4) (x : Axle) (s : State) : Publishing s (s.setAxle a x) :=
  ⟨rfl, rfl, rfl, id, fun _ => .inl⟩

theorem publishDelivered_publishing (c : Fin 4) (s : State) : Publishing s (publishDelivered c s) := by
  unfold publishDelivered
  split
  · exact (setChannel_publishing _ _ s).trans (report_publishing _ _ _)
  · exact .refl s

theorem publishBellows_publishing (a : Fin 4) (s : State) : Publishing s (publishBellows a s) := by
  unfold publishBellows
  split
  · exact (setAxle_publishing _ _ s).trans (report_publishing _ _ _)
  · exact .refl s

/-! ### The channels' delivered pressures -/

theorem publishDelivered_other {f : FaultId} {c : Fin 4} (other : f ≠ .delivered c) (s : State) :
    (publishDelivered c s).faults.get f = s.faults.get f := by
  unfold publishDelivered
  split
  · exact report_other other _ _
  · rfl

theorem publishDelivered_axles (c : Fin 4) (s : State) : (publishDelivered c s).axles = s.axles := by
  unfold publishDelivered
  split <;> rfl

theorem publishDelivered_channel_ne {c d : Fin 4} (ne : d ≠ c) (s : State) :
    (publishDelivered c s).channels[d] = s.channels[d] := by
  unfold publishDelivered
  split
  · exact State.setChannel_get_ne _ _ _ _ ne
  · rfl

/-- What the channels' pass leaves of one channel. -/
theorem publishDelivereds_at (s : State) (c : Fin 4) :
    let t := forEach 4 publishDelivered s
    t.channels[c] = (if s.channels[c].present then
        { s.channels[c] with delivered := s.analog.delivered[c].value } else s.channels[c])
      ∧ t.faults.get (.delivered c) = (if s.channels[c].present then
        reportedMark s (.delivered c) s.analog.delivered[c].fault
        else s.faults.get (.delivered c)) := by
  intro t
  obtain ⟨u, reached, unmoved, -, last⟩ := forEach_at Publishing .refl .trans
    publishDelivered_publishing (fun t => (t.channels[c], t.faults.get (.delivered c))) c
    (fun d t ne => Prod.ext (publishDelivered_channel_ne ne.symm t)
      (publishDelivered_other (fun same => ne (FaultId.delivered.inj same).symm) t)) s
  obtain ⟨channel, mark⟩ := Prod.mk.inj unmoved
  obtain ⟨lastChannel, lastMark⟩ := Prod.mk.inj last
  change u.channels[c] = s.channels[c] at channel
  refine ⟨Eq.trans lastChannel ?_, Eq.trans lastMark ?_⟩
  · unfold publishDelivered
    rw [channel, reached.analog]
    split
    · exact State.setChannel_get_self _ _ _
    · exact channel
  · unfold publishDelivered
    rw [channel, reached.analog]
    split
    · exact report_mark_of_same (t := u.setChannel c _) mark
        (congrArg Device.faultMask reached.device) _
    · exact mark

theorem publishDelivereds_other {f : FaultId} (other : ∀ c, f ≠ .delivered c) (s : State) :
    (forEach 4 publishDelivered s).faults.get f = s.faults.get f :=
  forEach_rel (fun s t => t.faults.get f = s.faults.get f) (fun _ => rfl) (fun h k => k.trans h)
    (fun c s => publishDelivered_other (other c) s) s

/-! ### The axles' bellows pressures -/

theorem publishBellows_other {f : FaultId} {a : Fin 4} (other : f ≠ .bellows a) (s : State) :
    (publishBellows a s).faults.get f = s.faults.get f := by
  unfold publishBellows
  split
  · exact report_other other _ _
  · rfl

theorem publishBellows_channels (a : Fin 4) (s : State) :
    (publishBellows a s).channels = s.channels := by
  unfold publishBellows
  split <;> rfl

theorem publishBellows_axle_ne {a b : Fin 4} (ne : b ≠ a) (s : State) :
    (publishBellows a s).axles[b] = s.axles[b] := by
  unfold publishBellows
  split
  · exact State.setAxle_get_ne _ _ _ _ ne
  · rfl

/-- R23, R24, R51: an axle record as it is published. -/
def Axle.published (i : AnalogInput) (masked faulty : Bool) (x : Axle) : Axle :=
  { x with
    bellowsRaw := i.value
    bellowsFault := i.fault && !masked
    frozen := if faulty then x.frozen else none
    changeMark := x.changeMark || x.watchedDiffer { x with
      bellowsRaw := i.value
      bellowsFault := i.fault && !masked
      frozen := if faulty then x.frozen else none } }

/-- What the axles' pass leaves of one axle. -/
theorem publishBellowses_at (s : State) (a : Fin 4) :
    let t := forEach 4 publishBellows s
    t.axles[a] = (if s.axles[a].present then
        s.axles[a].published s.analog.bellows[a] (masked s (.bellows a)) (bellowsFaulty s a)
        else s.axles[a])
      ∧ t.faults.get (.bellows a) = (if s.axles[a].present then
        reportedMark s (.bellows a) s.analog.bellows[a].fault else s.faults.get (.bellows a)) := by
  intro t
  obtain ⟨u, reached, unmoved, -, last⟩ := forEach_at Publishing .refl .trans
    publishBellows_publishing (fun t => (t.axles[a], t.faults.get (.bellows a))) a
    (fun b t ne => Prod.ext (publishBellows_axle_ne ne.symm t)
      (publishBellows_other (fun same => ne (FaultId.bellows.inj same).symm) t)) s
  obtain ⟨axle, mark⟩ := Prod.mk.inj unmoved
  obtain ⟨lastAxle, lastMark⟩ := Prod.mk.inj last
  change u.axles[a] = s.axles[a] at axle
  have hidden : masked u (.bellows a) = masked s (.bellows a) := by
    unfold masked
    rw [reached.device]
  have faulty : bellowsFaulty u a = bellowsFaulty s a := by
    unfold bellowsFaulty faulty
    rw [mark]
  refine ⟨Eq.trans lastAxle ?_, Eq.trans lastMark ?_⟩
  · unfold publishBellows
    rw [axle, reached.analog, hidden, faulty]
    split
    · refine (putAxle_get_self _ _ _).trans ?_
      rw [axle]
      rfl
    · exact axle
  · unfold publishBellows
    rw [axle, reached.analog]
    split
    · exact report_mark_of_same (t := putAxle a _ u) mark
        (congrArg Device.faultMask reached.device) _
    · exact mark

theorem publishBellowses_other {f : FaultId} (other : ∀ a, f ≠ .bellows a) (s : State) :
    (forEach 4 publishBellows s).faults.get f = s.faults.get f :=
  forEach_rel (fun s t => t.faults.get f = s.faults.get f) (fun _ => rfl) (fun h k => k.trans h)
    (fun a s => publishBellows_other (other a) s) s

/-! ### The publication as a whole -/

/-- R18, R25, R27: the inputs and the DEVICE record as they are published. -/
def readings (r : ScanInputs) (s : State) : State :=
  { s with
    analog := scanInputs r s
    device := { s.device with
      demand := (scanInputs r s).demand.value
      reservoir := (scanInputs r s).reservoir.value
      valveSupply := supplyOfRaw r.supply
      braking := decide (s.device.dMin ≤ (scanInputs r s).demand.value) } }

/-- The three reports that are no channel's and no axle's. -/
def reportReadings (low : Bool) (s : State) : State :=
  report .reservoir s.analog.reservoir.fault
    (report .demand s.analog.demand.fault (report .supplyLow low s))

/-- The working set before the channels follow. -/
def published (r : ScanInputs) (s : State) : State :=
  forEach 4 publishBellows (forEach 4 publishDelivered
    (reportReadings (supplyLowAfter (supplyLow s) (supplyOfRaw r.supply)) (readings r s)))

theorem publish_eq (r : ScanInputs) (s : State) : publish r s = settle (published r s) := rfl

theorem reportReadings_publishing (low : Bool) (s : State) : Publishing s (reportReadings low s) :=
  ((report_publishing _ _ s).trans (report_publishing _ _ _)).trans (report_publishing _ _ _)

theorem reportReadings_marks (low : Bool) (s : State) :
    (reportReadings low s).faults.get .supplyLow = reportedMark s .supplyLow low
      ∧ (reportReadings low s).faults.get .demand = reportedMark s .demand s.analog.demand.fault
      ∧ (reportReadings low s).faults.get .reservoir
        = reportedMark s .reservoir s.analog.reservoir.fault := by
  have lower := report_mark_of_same (s := s) (t := s) (f := .supplyLow) rfl rfl low
  have other {f g : FaultId} (h : g ≠ f) (b : Bool) (t : State) := report_other h b t
  refine ⟨?_, ?_, ?_⟩
  · exact (other FaultId.noConfusion _ _).trans ((other FaultId.noConfusion _ _).trans lower)
  · exact (other FaultId.noConfusion _ _).trans
      (report_mark_of_same (other FaultId.noConfusion _ _) rfl _)
  · exact report_mark_of_same
      ((other FaultId.noConfusion _ _).trans (other FaultId.noConfusion _ _)) rfl _

theorem reportReadings_other {f : FaultId} (supply : f ≠ .supplyLow) (demand : f ≠ .demand)
    (reservoir : f ≠ .reservoir) (low : Bool) (s : State) :
    (reportReadings low s).faults.get f = s.faults.get f :=
  (report_other reservoir _ _).trans ((report_other demand _ _).trans (report_other supply _ _))

/-- R18 to R28, R51: what is published, input by input. -/
structure PublishedSet (r : ScanInputs) (s t : State) : Prop where
  analog : t.analog = scanInputs r s
  device : t.device = (readings r s).device
  outputs : t.outputs = s.outputs
  pending : s.link.faultPending = true → t.link.faultPending = true
  raised : ∀ f, (t.faults.get f).latched = true →
    (s.faults.get f).latched = true ∨ t.link.faultPending = true
  supplyLow : t.faults.get .supplyLow
    = reportedMark s .supplyLow (supplyLowAfter (supplyLow s) (supplyOfRaw r.supply))
  demand : t.faults.get .demand = reportedMark s .demand t.analog.demand.fault
  reservoir : t.faults.get .reservoir = reportedMark s .reservoir t.analog.reservoir.fault
  channels : ∀ c : Fin 4, t.channels[c] = if s.channels[c].present then
    { s.channels[c] with delivered := t.analog.delivered[c].value } else s.channels[c]
  delivered : ∀ c : Fin 4, t.faults.get (.delivered c) = if s.channels[c].present then
    reportedMark s (.delivered c) t.analog.delivered[c].fault else s.faults.get (.delivered c)
  axles : ∀ a : Fin 4, t.axles[a] = if s.axles[a].present then
    s.axles[a].published t.analog.bellows[a] (masked s (.bellows a)) (bellowsFaulty s a)
    else s.axles[a]
  bellows : ∀ a : Fin 4, t.faults.get (.bellows a) = if s.axles[a].present then
    reportedMark s (.bellows a) t.analog.bellows[a].fault else s.faults.get (.bellows a)

theorem published_spec (r : ScanInputs) (s : State) : PublishedSet r s (published r s) := by
  have reports := reportReadings_publishing (supplyLowAfter (supplyLow s) (supplyOfRaw r.supply))
    (readings r s)
  obtain ⟨supplyLow, demand, reservoir⟩ := reportReadings_marks
    (supplyLowAfter (Machine.supplyLow s) (supplyOfRaw r.supply)) (readings r s)
  have other {f : FaultId} (h : f ≠ .supplyLow) (h' : f ≠ .demand) (h'' : f ≠ .reservoir) :=
    reportReadings_other h h' h'' (supplyLowAfter (Machine.supplyLow s) (supplyOfRaw r.supply))
      (readings r s)
  have sameAxles : (reportReadings (supplyLowAfter (Machine.supplyLow s) (supplyOfRaw r.supply))
    (readings r s)).axles = s.axles := rfl
  have sameChannels : (reportReadings (supplyLowAfter (Machine.supplyLow s) (supplyOfRaw r.supply))
    (readings r s)).channels = s.channels := rfl
  unfold published
  generalize reportReadings (supplyLowAfter (Machine.supplyLow s) (supplyOfRaw r.supply))
    (readings r s) = t at *
  have first := forEach_rel Publishing .refl .trans publishDelivered_publishing t
  have firstOther {f : FaultId} (h : ∀ c, f ≠ .delivered c) := publishDelivereds_other h t
  have firstAxles : (forEach 4 publishDelivered t).axles = t.axles :=
    forEach_rel (fun s t => t.axles = s.axles) (fun _ => rfl) (fun h k => k.trans h)
      publishDelivered_axles t
  have firstAt := publishDelivereds_at t
  generalize forEach 4 publishDelivered t = u at *
  have second := forEach_rel Publishing .refl .trans publishBellows_publishing u
  have secondOther {f : FaultId} (h : ∀ a, f ≠ .bellows a) := publishBellowses_other h u
  have secondChannels : (forEach 4 publishBellows u).channels = u.channels :=
    forEach_rel (fun s t => t.channels = s.channels) (fun _ => rfl) (fun h k => k.trans h)
      publishBellows_channels u
  have secondAt := publishBellowses_at u
  generalize forEach 4 publishBellows u = v at *
  have whole := (reports.trans first).trans second
  have analog : v.analog = t.analog := second.analog.trans first.analog
  have device : t.device.faultMask = s.device.faultMask := (congrArg Device.faultMask reports.device).trans rfl
  have sameMark (f : FaultId) (b : Bool) (same : t.faults.get f = s.faults.get f) :
      reportedMark t f b = reportedMark s f b := by
    unfold reportedMark masked
    rw [same, device]
  exact {
    analog := whole.analog
    device := whole.device
    outputs := whole.outputs
    pending := whole.pending
    raised := whole.raised
    supplyLow := (secondOther fun _ => FaultId.noConfusion).trans
      ((firstOther fun _ => FaultId.noConfusion).trans supplyLow)
    demand := by
      rw [whole.analog]
      exact (secondOther fun _ => FaultId.noConfusion).trans
        ((firstOther fun _ => FaultId.noConfusion).trans demand)
    reservoir := by
      rw [whole.analog]
      exact (secondOther fun _ => FaultId.noConfusion).trans
        ((firstOther fun _ => FaultId.noConfusion).trans reservoir)
    channels := fun c => by
      rw [secondChannels, (firstAt c).1, sameChannels, analog]
    delivered := fun c => by
      have same : t.faults.get (.delivered c) = s.faults.get (.delivered c) :=
        other FaultId.noConfusion FaultId.noConfusion FaultId.noConfusion
      rw [secondOther fun _ => FaultId.noConfusion, (firstAt c).2, sameChannels, analog, same,
        sameMark _ _ same]
    axles := fun a => by
      have same : t.faults.get (.bellows a) = s.faults.get (.bellows a) :=
        other FaultId.noConfusion FaultId.noConfusion FaultId.noConfusion
      have before : u.faults.get (.bellows a) = s.faults.get (.bellows a) :=
        (firstOther fun _ => FaultId.noConfusion).trans same
      have faulty : bellowsFaulty u a = bellowsFaulty s a := by
        unfold bellowsFaulty faulty
        rw [before]
      have hidden : masked u (.bellows a) = masked s (.bellows a) := by
        unfold masked
        rw [first.device, device]
      rw [(secondAt a).1, firstAxles, sameAxles, faulty, hidden, second.analog]
    bellows := fun a => by
      have same : t.faults.get (.bellows a) = s.faults.get (.bellows a) :=
        other FaultId.noConfusion FaultId.noConfusion FaultId.noConfusion
      have before : u.faults.get (.bellows a) = s.faults.get (.bellows a) :=
        (firstOther fun _ => FaultId.noConfusion).trans same
      have mark (b : Bool) : reportedMark u (.bellows a) b = reportedMark s (.bellows a) b := by
        unfold reportedMark masked
        rw [before, first.device, device]
      rw [(secondAt a).2, firstAxles, sameAxles, second.analog, mark, before] }

end Sys2Proof.Machine
end

section
/-! The readings and the sensor conditions of a scan completion, and a low valve supply (O12, O13). -/

namespace Sys2Proof.Machine

/-! ### One input -/

theorem pressureOfRaw_eq (x : Raw) : pressureOfRaw x =
    if x.toNat ≤ 50 ∨ 973 ≤ x.toNat then none
    else if x.toNat ≤ 101 then some 0
    else if x.toNat ≤ 921 then some ((x.toNat - 102) * 1000 / 819)
    else some 1000 := by
  unfold pressureOfRaw
  generalize x.toNat = n
  by_cases low : n ≤ 50
  · simp [low]
  by_cases high : 973 ≤ n
  · simp [high, low, show ¬n ≤ 101 by omega, show ¬n ≤ 921 by omega, show ¬n ≤ 972 by omega]
  · simp [high, low, show n ≤ 972 by omega]

theorem AnalogInput.next_hold (i : AnalogInput) (x : Raw) :
    (i.next x).hold = (if x.toNat ≤ 50 ∨ 973 ≤ x.toNat then none
      else if x.toNat ≤ 101 then some 0
      else if x.toNat ≤ 921 then some ((x.toNat - 102) * 1000 / 819)
      else some 1000).getD i.hold := by
  rw [← pressureOfRaw_eq]
  unfold AnalogInput.next
  cases pressureOfRaw x <;> cases i.fault
  all_goals dsimp only
  case none.false | some.true => split <;> rfl
  all_goals rfl

/-- R21: a reading is good exactly in its band. -/
theorem pressureOfRaw_isSome (x : Raw) :
    (pressureOfRaw x).isSome = (decide (51 ≤ x.toNat) && decide (x.toNat ≤ 972)) := by
  rw [pressureOfRaw_eq]
  generalize x.toNat = n
  by_cases bad : n ≤ 50 ∨ 973 ≤ n
  · have out : (decide (51 ≤ n) && decide (n ≤ 972)) = false := by
      simp only [Bool.and_eq_false_iff, decide_eq_false_iff_not]
      omega
    rw [if_pos bad, out]
    rfl
  · have good : (decide (51 ≤ n) && decide (n ≤ 972)) = true := by
      simp only [Bool.and_eq_true, decide_eq_true_eq]
      omega
    rw [if_neg bad, good]
    split
    · rfl
    · split <;> rfl

/-- R22: the three-scan filter of an input. -/
theorem AnalogInput.next_filters (i : AnalogInput) (x : Raw) :
    ((i.next x).fault, (i.next x).streak) =
      match i.fault, decide (51 ≤ x.toNat) && decide (x.toNat ≤ 972) with
      | false, false => if 3 ≤ i.streak + 1 then (true, 0) else (false, i.streak + 1)
      | false, true => (false, 0)
      | true, true => if 3 ≤ i.streak + 1 then (false, 0) else (true, i.streak + 1)
      | true, false => (true, 0) := by
  rw [← pressureOfRaw_isSome]
  unfold AnalogInput.next
  cases pressureOfRaw x <;> cases i.fault
  all_goals dsimp only [Option.isSome]
  case none.false | some.true => split <;> rfl

theorem scanInputs_delivered (r : ScanInputs) (s : State) (c : Fin 4) :
    (scanInputs r s).delivered[c] = if s.channels[c].present then
      s.analog.delivered[c].next r.delivered[c] else s.analog.delivered[c] := by
  simp [scanInputs]

theorem scanInputs_bellows (r : ScanInputs) (s : State) (a : Fin 4) :
    (scanInputs r s).bellows[a] = if s.axles[a].present then
      s.analog.bellows[a].next r.bellows[a] else s.analog.bellows[a] := by
  simp [scanInputs]

/-! ### The completion as a whole -/

theorem scanCompletion_taken (r : ScanInputs) (order : List ScanAgent) (s : State) :
    Taken (published r s) (scanCompletion r order s) := by
  unfold scanCompletion
  dsimp only
  rw [publish_eq]
  exact (settle_drove _).taken.trans (foldl_takeScan_taken r _ _ _)

theorem exec_scanCompletion_of_timer {s : State} (running : Running s)
    (timer : s.analog.scanTimer.isSome = true) (r : ScanInputs) (order : List ScanAgent) :
    exec (.scanCompletion r order) s = .next (scanCompletion r order s) :=
  (exec_scanCompletion_of_running running r order).trans (congrArg Host.Outcome.next (if_pos timer))

/-- Settles O12: the publication, which the blocks only take. -/
theorem scanPublishesReadings : Obligations.ScanPublishesReadings := by
  intro r order s running timer
  refine ⟨_, exec_scanCompletion_of_timer running timer r order, ?_⟩
  have set := published_spec r s
  have taken := scanCompletion_taken r order s
  generalize scanCompletion r order s = t at taken
  generalize published r s = u at *
  have analog : t.analog = scanInputs r s := taken.analog.trans set.analog
  have value := AnalogInput.next_hold
  intro kpa
  refine ⟨?_, ?_, ?_, ?_, fun c => ?_, fun a => ?_, ?_, ?_, ?_⟩
  · rw [taken.device, set.device]
    exact value _ _
  · rw [analog]
    exact value _ _
  · rw [taken.device, set.device]
    exact value _ _
  · rw [analog]
    exact value _ _
  · have input := scanInputs_delivered r s c
    have channel := set.channels c
    rw [set.analog] at channel
    rw [taken.delivered, analog, channel]
    cases standing : s.channels[c].present with
    | true =>
      rw [if_pos standing] at input
      rw [if_pos rfl, if_pos rfl, input]
      exact ⟨value _ _, value _ _⟩
    | false =>
      rw [if_neg (Bool.eq_false_iff.mp standing)] at input
      exact ⟨rfl, input⟩
  · have input := scanInputs_bellows r s a
    have axle := set.axles a
    rw [set.analog] at axle
    cases standing : s.axles[a].present with
    | true =>
      rw [if_pos standing] at input axle
      rw [taken.bellowsRaw, analog, axle, if_pos rfl, input]
      exact ⟨value _ _, value _ _⟩
    | false =>
      rw [if_neg (Bool.eq_false_iff.mp standing)] at input axle
      have absent : u.axles[a].present = false := (congrArg Axle.present axle).trans standing
      rw [taken.absent a absent, analog, if_neg Bool.false_ne_true]
      exact ⟨axle, input⟩
  · rw [taken.device, set.device]
    rfl
  · rw [taken.device, set.device]
    rfl
  · rw [analog]
    rfl

end Sys2Proof.Machine
end

section
/-! The sensor conditions of a scan completion, and what a low valve supply does (O13). -/

namespace Sys2Proof.Machine

/-! ### A channel under a low supply -/

/-- R28, R83: a channel that a low valve supply holds in FALLBACK. -/
structure Starved (c : Fin 4) (s : State) : Prop where
  standing : s.channels[c].present = true
  low : supplyLow s = true
  fallback : s.channels[c].state = .fallback
  reason : inControl s = true → s.device.failsafe = false → s.channels[c].reason = .supplyVoltage

/-- R83: under a low supply the reason is one of the first three. -/
theorem fallbackReason_of_low {s : State} (low : supplyLow s = true) (c : Fin 4) :
    fallbackReason s c ≠ .fault ∧ fallbackReason s c ≠ .noReason
      ∧ (inControl s = true → s.device.failsafe = false → fallbackReason s c = .supplyVoltage) := by
  unfold fallbackReason
  rw [low]
  cases inControl s <;> cases s.device.failsafe <;> simp

/-- R83: settling under a low supply. -/
theorem settle_starved {c : Fin 4} {s : State} (standing : s.channels[c].present = true)
    (notOff : s.channels[c].state ≠ .off) (low : supplyLow s = true) : Starved c (settle s) := by
  obtain ⟨notFault, some, because⟩ := fallbackReason_of_low low c
  obtain ⟨fallback, reason⟩ := settle_falls_with standing notOff notFault some
  have drove := settle_drove s
  refine ⟨((drove.channels c).present_eq).trans standing,
    ((drove.toDriverFrame.gateKept drove.device).supply).trans low, fallback, fun control line => ?_⟩
  rw [drove.inControl_eq] at control
  rw [drove.device] at line
  exact reason.trans (because control line)

/-- A step that leaves the channel's state and reason. -/
theorem Starved.of_same {c : Fin 4} {s t : State} (h : Starved c s) (taken : Taken s t)
    (control : inControl t = true → inControl s = true)
    (state : t.channels[c].state = s.channels[c].state)
    (reason : t.channels[c].reason = s.channels[c].reason) : Starved c t where
  standing := (taken.present c).trans h.standing
  low := (congrArg FaultMark.present (taken.inputs .supplyLow rfl)).trans h.low
  fallback := state.trans h.fallback
  reason now line := reason.trans (h.reason (control now) (by
    rw [taken.device] at line
    exact line))

/-! ### Block by block -/

theorem liftMove_channels (was : LiftState) (a : Fin 4) (s : State) :
    (liftMove was a s).channels = s.channels := by
  unfold liftMove
  split
  case h_1 =>
    split
    · exact requestLift_channels true _
    · rfl
  case h_2 =>
    split
    · exact startLowering_channels a s
    · split <;> rfl
  case h_3 =>
    have lowers := startLowering_channels a s
    split
    · unfold lowerRaised
      dsimp only
      split <;> exact lowers
    · rfl
  case h_4 | h_5 => rfl

theorem liftScan_channels (s : State) : (liftScan s).channels = s.channels := by
  cases found : liftAxle s with
  | none =>
    rw [liftScan_of_none found]
    rfl
  | some a =>
    rw [liftScan_of_some found, liftMove_channels]
    unfold liftCounted
    split <;> rfl

theorem runLoop_channel_ne {c d : Fin 4} (ne : d ≠ c) (s : State) :
    (runLoop c s).channels[d] = s.channels[d] := by
  rw [runLoop_eq]
  split
  · rw [requestAction_channel_ne _ _ _ ne, State.setChannel_get_ne _ _ _ _ ne]
  · exact requestAction_channel_ne _ _ _ ne

theorem channelScan_channel_ne {c d : Fin 4} (ne : d ≠ c) (s : State) :
    (channelScan c s).channels[d] = s.channels[d] := by
  have other (x : Channel) (t : State) := State.setChannel_get_ne t c d x ne
  unfold channelScan
  split
  case isFalse => rfl
  split
  case h_1 => rfl
  case h_2 => exact runLoop_channel_ne ne s
  case h_3 =>
    split
    · exact (runLoop_channel_ne ne _).trans (other _ s)
    · rw [runWaitingLoop_eq]
      exact requestAction_channel_ne _ _ _ ne
  case h_4 =>
    split
    · exact finishExercise_channel_ne ne _ s
    · split
      · exact finishExercise_channel_ne ne _ s
      · rfl
  case h_5 =>
    split
    · exact (runLoop_channel_ne ne _).trans (other _ s)
    · rfl

theorem channelScan_of_fallback {c : Fin 4} {s : State} (fallback : s.channels[c].state = .fallback)
    (some : fallbackReason s c ≠ .noReason) : channelScan c s = s := by
  unfold channelScan
  rw [fallback]
  dsimp only
  rw [if_neg some, ite_self]

theorem Channel.braked_reason (before : Bool) (d : Device) (x : Channel) :
    (x.braked before d).state = x.state ∧ (x.braked before d).reason = x.reason := by
  unfold Channel.braked
  split
  · exact ⟨rfl, rfl⟩
  · split <;> exact ⟨rfl, rfl⟩

/-- R175: a scan completion takes the part at most out of control. -/
theorem Scanned.control {s t : State} (h : Scanned s t) (now : inControl t = true) :
    inControl s = true := by
  rw [inControl_iff] at now ⊢
  obtain same | ⟨before, -, -⟩ := h.state
  · rwa [same] at now
  · exact .inr before

/-- What a block leaves of a channel's state and reason keeps it starved. -/
theorem Starved.of_channel {c : Fin 4} {s t : State} {x : Channel} (h : Starved c s) (taken : Taken s t)
    (scanned : Scanned s t) (channel : t.channels[c] = x) (state : x.state = s.channels[c].state)
    (reason : x.reason = s.channels[c].reason) : Starved c t :=
  h.of_same taken scanned.control ((congrArg Channel.state channel).trans state)
    ((congrArg Channel.reason channel).trans reason)

theorem Channel.given_state (s : State) (x : Channel) : (x.given s).state = x.state := rfl

theorem Channel.given_reason (s : State) (x : Channel) : (x.given s).reason = x.reason := rfl

theorem loadUnitScan_starved {c : Fin 4} {s : State} (h : Starved c s) :
    Starved c (loadUnitScan s) := by
  have channel := ((loadUnitScan_spec s).2.2 c).trans (if_pos h.standing)
  exact h.of_channel (loadUnitScan_taken s) (loadUnitScan_scanned s) channel
    (Channel.given_state _ _) (Channel.given_reason _ _)

theorem liftScan_starved {c : Fin 4} {s : State} (h : Starved c s) : Starved c (liftScan s) :=
  h.of_channel (liftScan_taken s) (liftScan_scanned s) (congrArg (·[c]) (liftScan_channels s)) rfl rfl

theorem pressureTargetScan_starved {c : Fin 4} {s : State} (h : Starved c s) :
    Starved c (pressureTargetScan s) :=
  h.of_channel (pressureTargetScan_taken s) (pressureTargetScan_scanned s)
    (((pressureTargetScan_spec s).2 c).trans (if_pos h.standing)) rfl rfl

theorem channelScan_starved {c : Fin 4} (d : Fin 4) {s : State} (h : Starved c s) :
    Starved c (channelScan d s) := by
  by_cases same : c = d
  · subst same
    rw [channelScan_of_fallback h.fallback (fallbackReason_of_low h.low c).2.1]
    exact h
  · exact h.of_channel (channelScan_drove d s).taken (channelScan_drove d s).scanned
      (channelScan_channel_ne same s) rfl rfl

theorem valveDriverScan_starved {c : Fin 4} (low : BitVec 13) {s : State} (h : Starved c s) :
    Starved c (valveDriverScan low s) := by
  have frame := (reportShorts_faultsOnly (sampleOutputs low s)).trans
    (forEach_rel FaultsOnly .refl .trans reportOpen_faultsOnly _)
  have channels : (forEach 13 reportOpen (reportShorts (sampleOutputs low s))).channels = s.channels :=
    frame.channels
  have taken := coilChecks_taken low s
  rw [valveDriverScan_eq]
  generalize forEach 13 reportOpen (reportShorts (sampleOutputs low s)) = u at channels taken ⊢
  refine settle_starved ?_ ?_
    ((congrArg FaultMark.present (taken.inputs .supplyLow rfl)).trans h.low)
  · rw [channels]
    exact h.standing
  · rw [channels, h.fallback]
    exact ControllerState.noConfusion

theorem antiLockScan_starved {c : Fin 4} (before : Bool) {s : State} (h : Starved c s) :
    Starved c (antiLockScan before s) :=
  h.of_channel (antiLockScan_taken before s) (antiLockScan_scanned before s)
    ((antiLockScan_spec before s).2 c) (Channel.braked_reason _ _ _).1 (Channel.braked_reason _ _ _).2

theorem waitReleaseScan_starved {c : Fin 4} {s : State} (h : Starved c s) :
    Starved c (waitReleaseScan s) := by
  refine keeps_ite (P := Starved c) (fun waits => ?_) fun _ => h
  have waiting : s.device.state = .waitRelease := by
    rw [Bool.and_eq_true] at waits
    exact eq_of_beq waits.1
  rw [setDeviceState_of_not_active (by rw [waiting]; exact DeviceState.noConfusion)]
  exact settle_starved (s := { s with device := { s.device with state := .standby } }) h.standing
    (by rw [h.fallback]; exact ControllerState.noConfusion) h.low

/-- R28: no block brings a channel back under a low supply. -/
theorem takeScan_starved {c : Fin 4} (r : ScanInputs) (before : Bool) (agent : ScanAgent) (s : State)
    (h : Starved c s) : Starved c (takeScan r before agent s) := by
  cases agent with
  | loadUnit => exact loadUnitScan_starved h
  | liftController => exact liftScan_starved h
  | pressureTarget => exact pressureTargetScan_starved h
  | channel d => exact channelScan_starved d h
  | valveDriver => exact valveDriverScan_starved _ h
  | antiLock => exact antiLockScan_starved before h
  | operatingState => exact waitReleaseScan_starved h

/-! ### The completion as a whole -/

theorem scanCompletion_frozen (r : ScanInputs) (order : List ScanAgent) {s : State} {a : Fin 4}
    (standing : (published r s).axles[a].present = true) :
    (scanCompletion r order s).axles[a].frozen = thawed (published r s) a := by
  have settled := (settle_drove (published r s)).taken
  unfold scanCompletion
  dsimp only
  rw [publish_eq]
  generalize published r s = u at *
  exact (foldl_takeScan_frozen r _ (mem_completeOrder order .loadUnit)
    ((settled.axlePresent a).trans standing)).trans (settled.thawed_eq a)

theorem FaultMark.reported_spec {s : State} {f : FaultId} {m : FaultMark} {b : Bool}
    (latches : f.isLatched = true) (mark : m = reportedMark s f b) :
    m.present = (b && !s.device.faultMask.getLsbD f.bit)
      ∧ m.latched = ((s.faults.get f).latched || m.present && !(s.faults.get f).present) := by
  subst mark
  refine ⟨rfl, ?_⟩
  unfold reportedMark
  rw [latches, Bool.and_true]

/-- R28, R91: a low supply leaves nothing energised. -/
theorem Valves.off_of_low {s : State} (law : Valves s) (low : s.faults.supplyLow.present = true)
    (o : Fin 13) : s.outputs[o].energised = false :=
  Bool.eq_false_iff.mpr fun on => by
    have supply := ((outputAllowed_iff s o).mp (law.1 o on)).2.2.1
    rw [low] at supply
    cases supply

theorem valves_of_off {s : State} (off : ∀ o : Fin 13, s.outputs[o].energised = false) : Valves s :=
  ⟨fun o on => absurd on (Bool.eq_false_iff.mp (off o)), fun c _ => off (exhaustOf c)⟩

/-- R51: an axle's publication sets its change mark with its reported condition. -/
theorem Axle.published_changeMark {i : AnalogInput} {masked faulty : Bool} {x : Axle}
    (differs : (x.published i masked faulty).bellowsFault ≠ x.bellowsFault) :
    (x.published i masked faulty).changeMark = true := by
  have watched : (x.bellowsFault != (i.fault && !masked)) = true := bne_iff_ne.mpr differs.symm
  unfold Axle.published Axle.watchedDiffer
  simp only [watched, Bool.or_true]

/-- R28: a supply that a scan completion finds low. -/
theorem foldl_takeScan_of_low (r : ScanInputs) (before : Bool) (order : List ScanAgent) {u : State}
    (low : supplyLow u = true) :
    (∀ o : Fin 13, (order.foldl (fun s a => takeScan r before a s) (settle u)).outputs[o].energised
        = false)
      ∧ ∀ c : Fin 4, u.channels[c].present = true → u.channels[c].state ≠ .off →
        Starved c (order.foldl (fun s a => takeScan r before a s) (settle u)) := by
  have notEnabled : outputsEnabled u = false := by
    rw [outputsEnabled, low, Bool.not_true, Bool.and_false]
  have valves := foldl_takeScan_keeps (takeScan_keeps_valves r before) order
    (valves_of_off (settle_off notEnabled))
  have taken := (settle_drove u).taken.trans (foldl_takeScan_taken r before order (settle u))
  refine ⟨valves.off_of_low ?_, fun c standing notOff =>
    foldl_takeScan_keeps (P := Starved c) (takeScan_starved r before) order
      (settle_starved standing notOff low)⟩
  generalize order.foldl (fun s a => takeScan r before a s) (settle u) = t at taken
  exact (congrArg FaultMark.present (taken.inputs .supplyLow rfl)).trans low

theorem scanCompletion_of_low (r : ScanInputs) (order : List ScanAgent) {s : State}
    (low : supplyLow (published r s) = true) :
    (∀ o : Fin 13, (scanCompletion r order s).outputs[o].energised = false)
      ∧ ∀ c : Fin 4, (published r s).channels[c].present = true →
        (published r s).channels[c].state ≠ .off → Starved c (scanCompletion r order s) :=
  foldl_takeScan_of_low r s.device.braking (completeOrder order) low

/-- Settles O13: the publication and what the blocks leave of it. -/
theorem scanReportsSensorsAndSupply : Obligations.ScanReportsSensorsAndSupply := by
  refine ⟨fun r order s running timer => ?_, fun r order s running timer unmasked => ?_⟩
  · refine ⟨_, exec_scanCompletion_of_timer running timer r order, ?_⟩
    have set := published_spec r s
    have taken := scanCompletion_taken r order s
    have frozen (a : Fin 4) := scanCompletion_frozen (s := s) (a := a) r order
    generalize scanCompletion r order s = t at taken frozen
    generalize published r s = u at *
    have analog : t.analog = scanInputs r s := taken.analog.trans set.analog
    have filter := AnalogInput.next_filters
    intro good step filters reported
    have report {f : FaultId} {b : Bool} (input : f.isInput = true) (latches : f.isLatched = true)
        (mark : u.faults.get f = reportedMark s f b) : reported f b :=
      FaultMark.reported_spec latches ((taken.inputs f input).trans mark)
    refine ⟨?_, ?_, ?_, ?_, fun c standing => ⟨?_, ?_⟩, fun a standing => ?_, fun c absent => ?_,
      fun a absent => ?_, fun f _ now before => ?_⟩
    · change (_, _) = step _ _
      rw [analog]
      exact filter _ _
    · rw [taken.analog]
      exact report rfl rfl set.demand
    · change (_, _) = step _ _
      rw [analog]
      exact filter _ _
    · rw [taken.analog]
      exact report rfl rfl set.reservoir
    · have input := scanInputs_delivered r s c
      rw [if_pos standing] at input
      change (_, _) = step _ _
      rw [analog, input]
      exact filter _ _
    · rw [taken.analog]
      exact report rfl rfl ((set.delivered c).trans (if_pos standing))
    · have input := scanInputs_bellows r s a
      have axle := (set.axles a).trans (if_pos standing)
      have mark := (set.bellows a).trans (if_pos standing)
      rw [if_pos standing] at input
      have shown : t.axles[a].bellowsFault = (t.faults.get (.bellows a)).present := by
        rw [taken.bellowsFault, axle, taken.inputs _ rfl, mark]
        rfl
      refine ⟨?_, ?_, shown, fun differs => ?_, ?_⟩
      · change (_, _) = step _ _
        rw [analog, input]
        exact filter _ _
      · rw [taken.analog]
        exact report rfl rfl mark
      · refine taken.changeMark a ?_
        rw [taken.bellowsFault] at differs
        rw [axle] at differs ⊢
        exact Axle.published_changeMark differs
      · have standingU : u.axles[a].present = true :=
          (congrArg Axle.present axle).trans standing
        have frozenU : u.axles[a].frozen = if bellowsFaulty s a then s.axles[a].frozen else none :=
          congrArg Axle.frozen axle
        intro faulty
        have now : faulty t = bellowsFaulty u a := taken.bellowsFaulty_eq a
        have before : faulty s = bellowsFaulty s a := rfl
        rw [frozen a standingU, now, before, taken.bellowsRaw, thawed, frozenU]
        cases bellowsFaulty u a <;> cases bellowsFaulty s a <;> rfl
    · exact (taken.inputs (.delivered c) rfl).trans
        ((set.delivered c).trans (if_neg (Bool.eq_false_iff.mp absent)))
    · exact (taken.inputs (.bellows a) rfl).trans
        ((set.bellows a).trans (if_neg (Bool.eq_false_iff.mp absent)))
    · obtain latched | pending := taken.raised f now
      · obtain latched | pending := set.raised f latched
        · rw [before] at latched
          cases latched
        · exact taken.pending pending
      · exact pending
  · refine ⟨_, exec_scanCompletion_of_timer running timer r order, ?_⟩
    have set := published_spec r s
    have taken := scanCompletion_taken r order s
    have hidden : masked s .supplyLow = false := unmasked
    have mark : (scanCompletion r order s).faults.supplyLow
        = reportedMark s .supplyLow (supplyLowAfter (supplyLow s) (supplyOfRaw r.supply)) :=
      (taken.inputs .supplyLow rfl).trans set.supplyLow
    refine ⟨?_, ?_, fun low => ?_⟩
    · rw [mark, reportedMark, hidden, Bool.not_false, Bool.and_true]
      rfl
    · rw [mark, reportedMark]
      exact (congrArg (_ || ·) (Bool.and_false _)).trans (Bool.or_false _)
    · have same : (scanCompletion r order s).faults.supplyLow = (published r s).faults.supplyLow :=
        taken.inputs .supplyLow rfl
      have lowU : supplyLow (published r s) = true := by
        rw [supplyLow, ← same]
        exact low
      obtain ⟨off, starved⟩ := scanCompletion_of_low r order lowU
      refine ⟨off, fun c standing notOff => ?_⟩
      have same := set.channels c
      have standingU : (published r s).channels[c].present = true := by
        rw [same, if_pos standing]
        exact standing
      have notOffU : (published r s).channels[c].state ≠ .off := by
        rw [same, if_pos standing]
        exact notOff
      have starved := starved c standingU notOffU
      refine ⟨starved.fallback, fun control line => starved.reason ((inControl_iff _).mpr control) ?_⟩
      rw [taken.device, set.device]
      exact line

end Sys2Proof.Machine
end

section
/-! The Lift Controller at a scan completion (O16). -/

namespace Sys2Proof.Machine

/-! ### The Lift Controller's steps -/

/-- R15: an axle whose lift state its owner has written. -/
def Axle.movedTo (x : Axle) (l : LiftState) : Axle :=
  { x with liftState := l, changeMark := x.changeMark || x.liftState != l }

theorem putAxle_liftState_get (a : Fin 4) (l : LiftState) (s : State) :
    (putAxle a { s.axles[a] with liftState := l } s).axles[a] = s.axles[a].movedTo l := by
  rw [putAxle_get_self]
  unfold Axle.movedTo Axle.watchedDiffer
  rw [bne_self_eq_false (a := s.axles[a].bellowsFault), Bool.or_false]

/-- What the Lift Controller leaves: axle `a` and its own state as named, and the rest standing. -/
structure LiftStep (a : Fin 4) (s t : State) (x : Axle) (l : LiftController) : Prop where
  axle : t.axles[a] = x
  lift : t.lift = l
  axles : ∀ b : Fin 4, b ≠ a → t.axles[b] = s.axles[b]
  outputs : ∀ o : Fin 13, o ≠ liftOutput → t.outputs[o] = s.outputs[o]
  device : t.device = s.device
  channels : t.channels = s.channels
  rollover : t.rollover = s.rollover
  fault : t.faults.lift = s.faults.lift

theorem LiftStep.refl (a : Fin 4) (s : State) : LiftStep a s s s.axles[a] s.lift :=
  ⟨rfl, rfl, fun _ _ => rfl, fun _ _ => rfl, rfl, rfl, rfl, rfl⟩

theorem LiftStep.trans {a : Fin 4} {s t u : State} {x y : Axle} {l m : LiftController}
    (h : LiftStep a s t x l) (k : LiftStep a t u y m) : LiftStep a s u y m :=
  ⟨k.axle, k.lift, fun b ne => (k.axles b ne).trans (h.axles b ne),
    fun o ne => (k.outputs o ne).trans (h.outputs o ne), k.device.trans h.device,
    k.channels.trans h.channels, k.rollover.trans h.rollover, k.fault.trans h.fault⟩

/-- The axle's state and the Controller's own are written. -/
theorem liftStep_write (a : Fin 4) (l : LiftState) (m : LiftController) (s : State) :
    LiftStep a s { putAxle a { s.axles[a] with liftState := l } s with lift := m }
      (s.axles[a].movedTo l) m :=
  ⟨putAxle_liftState_get a l s, rfl, fun _ ne => putAxle_get_ne ne _ s, fun _ _ => rfl, rfl, rfl, rfl,
    rfl⟩

theorem requestLift_step (a : Fin 4) (on : Bool) (s : State) :
    LiftStep a s (requestLift on s) s.axles[a] s.lift := by
  have only := requestLift_valveOnly on s
  have frame := requestLift_driverFrame on s
  exact ⟨by rw [only.axles], only.lift, fun b _ => by rw [only.axles],
    fun o ne => requestLift_other ne on s, only.device, requestLift_channels on s, only.rollover,
    frame.others .lift (fun _ => FaultId.noConfusion) fun _ => FaultId.noConfusion⟩

/-- R61. -/
theorem startRaise_step (a : Fin 4) (s : State) :
    LiftStep a s (startRaise a s) (s.axles[a].movedTo .raising)
        { s.lift with raiseTimer := some 6000000, lightCount := 0 }
      ∧ (startRaise a s).outputs[liftOutput].requested = true := by
  have wrote := liftStep_write a .raising
    { s.lift with raiseTimer := some raiseTime, lightCount := 0 } s
  refine ⟨?_, (requestLift_self true _).1⟩
  have step := wrote.trans (requestLift_step a true _)
  rw [wrote.axle] at step
  exact step

/-- R63, R64. -/
theorem startLowering_step (a : Fin 4) (s : State) :
    LiftStep a s (startLowering a s) (s.axles[a].movedTo .lowering)
        { s.lift with raiseTimer := none, loweringTimer := some 6000000 }
      ∧ (startLowering a s).outputs[liftOutput].requested = false
      ∧ (startLowering a s).outputs[liftOutput].energised = false := by
  have wrote := liftStep_write a .lowering
    { s.lift with raiseTimer := none, loweringTimer := some loweringTime } s
  refine ⟨?_, (requestLift_self false _).1, (requestLift_self false _).2 rfl⟩
  have step := wrote.trans (requestLift_step a false _)
  rw [wrote.axle] at step
  exact step

/-- R62. -/
theorem completeRaise_step (a : Fin 4) (s : State) :
    LiftStep a s (completeRaise a s) (s.axles[a].movedTo .up) { s.lift with raiseTimer := none } :=
  liftStep_write a .up _ s

/-- R65. -/
theorem completeLowering_step (a : Fin 4) (s : State) :
    LiftStep a s (completeLowering a s) (s.axles[a].movedTo .down)
      { s.lift with loweringTimer := none, lightCount := 0 } :=
  liftStep_write a .down _ s

/-- R63: a lowering, and the switch of MANUAL_UP to AUTO by an overload. -/
theorem lowerRaised_step (a : Fin 4) (s : State) :
    LiftStep a s (lowerRaised a s)
        { s.axles[a].movedTo .lowering with
          liftMode := if s.axles[a].liftMode = .manualUp ∧ s.axles[a].fLower ≤ s.device.fTot then .auto
            else s.axles[a].liftMode }
        { s.lift with raiseTimer := none, loweringTimer := some 6000000 }
      ∧ (lowerRaised a s).outputs[liftOutput].requested = false
      ∧ (lowerRaised a s).outputs[liftOutput].energised = false := by
  obtain ⟨step, requested, off⟩ := startLowering_step a s
  unfold lowerRaised
  dsimp only
  generalize startLowering a s = t at *
  have switches : (overloaded s a && s.axles[a].liftMode == .manualUp) = true
      ↔ s.axles[a].liftMode = .manualUp ∧ s.axles[a].fLower ≤ s.device.fTot := by
    rw [overloaded, Bool.and_eq_true, decide_eq_true_eq, beq_iff_eq, and_comm]
  by_cases switch : s.axles[a].liftMode = .manualUp ∧ s.axles[a].fLower ≤ s.device.fTot
  · rw [if_pos switch, if_pos (switches.mpr switch)]
    refine ⟨⟨?_, step.lift, fun b ne => ?_, step.outputs, step.device, step.channels, step.rollover,
      step.fault⟩, requested, off⟩
    · rw [State.setAxle_get_self, step.axle]
    · rw [State.setAxle_get_ne _ _ _ _ ne, step.axles b ne]
  · rw [if_neg switch, if_neg (mt switches.mp switch)]
    exact ⟨step, requested, off⟩

/-! ### The first two stages -/

theorem report_lift_absent (s : State) : report .lift false s = { s with
    faults := { s.faults with lift := ⟨false, s.faults.lift.latched⟩ } } := by
  simp [report, FaultSet.set, FaultSet.get]

/-- R60: the light count after a scan completion, `down` when a lowering ends at it. -/
def lightAt (s : State) (a : Fin 4) (down : Bool) : Nat :=
  if (s.axles[a].liftState = .down ∨ down = true) ∧ s.device.fTot < s.axles[a].fRaise then
    min 2000 ((if s.axles[a].liftState = .lowering then 0 else s.lift.lightCount) + 1)
  else 0

theorem liftCounted_step (a : Fin 4) (s : State) : LiftStep a s (liftCounted a s)
    (if lowered s a then s.axles[a].movedTo .down else s.axles[a])
    { s.lift with
      loweringTimer := if lowered s a then none else s.lift.loweringTimer
      lightCount := lightAt s a (lowered s a) } := by
  unfold liftCounted
  cases ends : lowered s a with
  | true =>
    have lowering : s.axles[a].liftState = .lowering := by
      unfold lowered at ends
      simp only [Bool.and_eq_true, beq_iff_eq] at ends
      exact ends.1.1
    have step := completeLowering_step a s
    have light : lightCountAfter (completeLowering a s) a = lightAt s a true := by
      unfold lightCountAfter lightAt
      rw [step.axle, step.lift, step.device, if_pos lowering]
      exact if_congr ⟨fun h => ⟨.inr rfl, h.2⟩, fun h => ⟨rfl, h.2⟩⟩ rfl rfl
    dsimp only
    rw [if_pos rfl, if_pos rfl, if_pos rfl, light]
    exact ⟨step.axle, by rw [step.lift], step.axles, step.outputs, step.device, step.channels,
      step.rollover, step.fault⟩
  | false =>
    have light : lightCountAfter s a = lightAt s a false := by
      unfold lightCountAfter lightAt
      by_cases counts : s.axles[a].liftState = .down ∧ s.device.fTot < s.axles[a].fRaise
      · rw [if_pos counts, if_pos ⟨.inl counts.1, counts.2⟩, counts.1]
        rfl
      · rw [if_neg counts, if_neg fun h => counts ⟨h.1.resolve_right Bool.false_ne_true, h.2⟩]
    dsimp only
    rw [if_neg Bool.false_ne_true, if_neg Bool.false_ne_true, if_neg Bool.false_ne_true, light]
    exact { LiftStep.refl a s with lift := rfl }

/-! ### The conditions -/

theorem liftForbidden_iff (s : State) (a : Fin 4) : liftForbidden s a = true ↔
    s.device.state ≠ .active ∨ s.device.failsafe = true ∨ s.faults.supplyLow.present = true
      ∨ s.faults.bellows[a].present = true ∨ s.faults.bellows[a].latched = true
      ∨ s.faults.valveOpen[liftOutput].present = true
      ∨ s.faults.valveOpen[liftOutput].latched = true
      ∨ s.faults.valveShort[liftOutput].latched = true
      ∨ s.faults.valveShort[liftOutput].present = true := by
  unfold liftForbidden bellowsFaulty outputFaulty
  simp only [Bool.or_eq_true, faulty_iff, bne_iff_ne, supplyLow, FaultSet.get, or_assoc]
  tauto

theorem lowered_iff (s : State) (a : Fin 4) : lowered s a = true ↔
    s.axles[a].liftState = .lowering ∧ s.axles[a].bDown ≤ s.axles[a].bellowsFiltered
      ∧ s.faults.bellows[a].present = false ∧ s.faults.bellows[a].latched = false := by
  unfold lowered bellowsFaulty faulty
  simp only [Bool.and_eq_true, Bool.not_eq_true', Bool.or_eq_false_iff, decide_eq_true_eq, beq_iff_eq,
    FaultSet.get]
  tauto

theorem liftCounted_faults (a : Fin 4) (s : State) : (liftCounted a s).faults = s.faults := by
  unfold liftCounted
  split <;> rfl

/-- R61: the raise conditions in the statement's words. -/
theorem mayRaise_iff (s : State) (a : Fin 4) : mayRaise s a = true ↔
    ¬liftForbidden s a = true ∧ s.device.braking = false ∧ ¬s.rollover.state.alarmed = true
      ∧ (s.axles[a].liftMode = .manualUp ∨ s.axles[a].liftMode = .auto ∧ 2000 ≤ s.lift.lightCount) := by
  unfold mayRaise
  simp only [Bool.and_eq_true, Bool.or_eq_true, Bool.not_eq_true', beq_iff_eq, decide_eq_true_eq,
    Bool.not_eq_true, and_assoc]

/-- R61 to R66: the transition from the state `x.liftState`, after a lowering that ends and the light count
have been written into `v`. -/
theorem liftMove_answers {a : Fin 4} {v : State} {x : Axle} {m : LiftController} {light total : Nat}
    {lowers rises inhibited falls : Prop}
    [Decidable lowers] [Decidable rises] [Decidable inhibited] [Decidable falls]
    (axle : v.axles[a] = if lowers then x.movedTo .down else x)
    (raise : v.lift.raiseTimer = m.raiseTimer)
    (lower : v.lift.loweringTimer = if lowers then none else m.loweringTimer)
    (light_eq : v.lift.lightCount = light)
    (lowering : lowers → x.liftState = .lowering) (device : v.device.fTot = total)
    (raises : v.axles[a] = x → (mayRaise v a = true ↔ rises))
    (inhibits : v.axles[a] = x → (raiseInhibited v a = true ↔ inhibited))
    (drops : v.axles[a] = x → (mustLower v a = true ↔ falls)) :
    let t := liftMove x.liftState a v
    let y := t.axles[a]
    (∃ z l, LiftStep a v t z l)
      ∧ y.liftState =
        (match x.liftState with
        | .notLiftable => .notLiftable
        | .down => if rises then .raising else .down
        | .raising => if inhibited then .lowering else if x.bellowsFiltered < x.bUp then .up else .raising
        | .up => if falls then .lowering else .up
        | .lowering => if lowers then .down else .lowering)
      ∧ y.liftMode =
        (if x.liftState = .up ∧ x.liftMode = .manualUp ∧ x.fLower ≤ total then .auto else x.liftMode)
      ∧ (y.liftState ≠ x.liftState → y.changeMark = true)
      ∧ t.lift.lightCount = (if x.liftState = .down ∧ rises then 0 else light)
      ∧ t.lift.raiseTimer =
        (if x.liftState ≠ y.liftState then (if y.liftState = .raising then some 6000000
          else if x.liftState = .lowering then m.raiseTimer else none)
        else m.raiseTimer)
      ∧ t.lift.loweringTimer =
        (if x.liftState ≠ y.liftState ∧ y.liftState = .lowering then some 6000000
        else if x.liftState = .lowering ∧ y.liftState = .down then none else m.loweringTimer)
      ∧ (x.liftState ≠ y.liftState → (y.liftState = .raising → t.outputs[liftOutput].requested = true)
          ∧ (y.liftState = .lowering →
            t.outputs[liftOutput].requested = false ∧ t.outputs[liftOutput].energised = false)) := by
  intro t y
  by_cases going : x.liftState = .lowering
  · have stay : t = v := by
      show liftMove x.liftState a v = v
      rw [going]
      rfl
    have here : y = if lowers then x.movedTo .down else x := by rw [← axle, ← stay]
    refine ⟨⟨_, _, by rw [stay]; exact LiftStep.refl a v⟩, ?_⟩
    rw [stay, here, raise, lower, light_eq, going]
    by_cases ends : lowers <;> simp [ends, going, Axle.movedTo]
  have same : v.axles[a] = x := axle.trans (if_neg (mt lowering going))
  rw [if_neg (mt lowering going)] at lower
  have answered (z : Axle) (l : LiftController) (step : LiftStep a v t z l) :
      (∃ z l, LiftStep a v t z l) ∧ y = z ∧ t.lift = l := ⟨⟨z, l, step⟩, step.axle, step.lift⟩
  cases was : x.liftState with
  | lowering => exact absurd was going
  | notLiftable =>
    have stay : t = v := by
      show liftMove x.liftState a v = v
      rw [was]
      rfl
    obtain ⟨frame, here, ctl⟩ := answered _ _ (by rw [stay]; exact LiftStep.refl a v)
    refine ⟨frame, ?_⟩
    rw [here, ctl, same, raise, lower, light_eq, was]
    simp
  | down =>
    have moved : t = if mayRaise v a then startRaise a v else v := by
      show liftMove x.liftState a v = _
      rw [was]
      rfl
    by_cases may : rises
    · rw [if_pos ((raises same).mpr may)] at moved
      obtain ⟨step, requested⟩ := startRaise_step a v
      rw [← moved] at step requested
      obtain ⟨frame, here, ctl⟩ := answered _ _ step
      refine ⟨frame, ?_⟩
      rw [here, ctl, same]
      generalize t.outputs[liftOutput] = o at requested ⊢
      simp [may, was, Axle.movedTo, requested, lower]
    · rw [if_neg (mt (raises same).mp may)] at moved
      obtain ⟨frame, here, ctl⟩ := answered _ _ (by rw [moved]; exact LiftStep.refl a v)
      refine ⟨frame, ?_⟩
      rw [here, ctl, same]
      simp [may, was, raise, lower, light_eq]
  | raising =>
    have moved : t = if raiseInhibited v a then startLowering a v
        else if v.axles[a].bellowsFiltered < v.axles[a].bUp then completeRaise a v else v := by
      show liftMove x.liftState a v = _
      rw [was]
      rfl
    rw [same] at moved
    by_cases stops : inhibited
    · rw [if_pos ((inhibits same).mpr stops)] at moved
      obtain ⟨step, requested, off⟩ := startLowering_step a v
      rw [← moved] at step requested off
      obtain ⟨frame, here, ctl⟩ := answered _ _ step
      refine ⟨frame, ?_⟩
      rw [here, ctl, same]
      generalize t.outputs[liftOutput] = o at requested off ⊢
      simp [stops, was, Axle.movedTo, requested, off, light_eq]
    · rw [if_neg (mt (inhibits same).mp stops)] at moved
      by_cases high : x.bellowsFiltered < x.bUp
      · rw [if_pos high] at moved
        have step := completeRaise_step a v
        rw [← moved] at step
        obtain ⟨frame, here, ctl⟩ := answered _ _ step
        refine ⟨frame, ?_⟩
        rw [here, ctl, same]
        simp [stops, was, high, Axle.movedTo, lower, light_eq]
      · rw [if_neg high] at moved
        obtain ⟨frame, here, ctl⟩ := answered _ _ (by rw [moved]; exact LiftStep.refl a v)
        refine ⟨frame, ?_⟩
        rw [here, ctl, same]
        simp [stops, was, high, raise, lower, light_eq]
  | up =>
    have moved : t = if mustLower v a then lowerRaised a v else v := by
      show liftMove x.liftState a v = _
      rw [was]
      rfl
    by_cases drop : falls
    · rw [if_pos ((drops same).mpr drop)] at moved
      obtain ⟨step, requested, off⟩ := lowerRaised_step a v
      rw [← moved] at step requested off
      obtain ⟨frame, here, ctl⟩ := answered _ _ step
      refine ⟨frame, ?_⟩
      rw [here, ctl, same, device]
      generalize t.outputs[liftOutput] = o at requested off ⊢
      simp [drop, was, Axle.movedTo, requested, off, light_eq]
    · rw [if_neg (mt (drops same).mp drop)] at moved
      obtain ⟨frame, here, ctl⟩ := answered _ _ (by rw [moved]; exact LiftStep.refl a v)
      refine ⟨frame, ?_⟩
      rw [here, ctl, same]
      have notOver : ¬x.fLower ≤ total := fun above => drop ((drops same).mp (by
        rw [mustLower, overloaded, same, device, decide_eq_true above, Bool.or_true, Bool.true_or]))
      simp [drop, was, notOver, raise, lower, light_eq]

/-- Settles O16: stage by stage, by the axle's state when the completion was taken. -/
theorem liftAxleAtScan : Obligations.LiftAxleAtScan := by
  refine ⟨fun s none => ?_, fun a s found => ?_⟩
  · rw [liftScan_of_none none, report_lift_absent]
  · intro t x y forbidden alarmed lowers light rises inhibited mustFall
    have moved : t = liftMove x.liftState a (liftCounted a (report .lift false s)) :=
      liftScan_of_some found
    have counted := liftCounted_step a (report .lift false s)
    have faults := liftCounted_faults a (report .lift false s)
    have ends := lowered_iff (report .lift false s) a
    rw [report_lift_absent] at *
    generalize liftCounted a { s with
      faults := { s.faults with lift := ⟨false, s.faults.lift.latched⟩ } } = v at *
    have forbids : liftForbidden v a = true ↔ forbidden := by
      rw [liftForbidden_iff, faults, counted.device]
    have alarms : v.rollover.state.alarmed = true ↔ alarmed := by
      rw [RolloverState.alarmed_iff, counted.rollover]
    have ends : lowered { s with
      faults := { s.faults with lift := ⟨false, s.faults.lift.latched⟩ } } a = true ↔ lowers := ends
    generalize lowered { s with
      faults := { s.faults with lift := ⟨false, s.faults.lift.latched⟩ } } a = ending at *
    have light_eq : v.lift.lightCount = light := by
      rw [counted.lift]
      exact if_congr (and_congr_left fun _ => or_congr_right ends) rfl rfl
    have tail {z : Axle} {l : LiftController} (step : LiftStep a v t z l) :
        t.faults.lift.present = false
          ∧ (∀ b : Fin 4, b ≠ a → t.axles[b] = s.axles[b])
          ∧ (∀ o : Fin 13, o ≠ liftOutput → t.outputs[o] = s.outputs[o])
          ∧ t.device = s.device ∧ t.channels = s.channels ∧ t.rollover = s.rollover := by
      have whole := counted.trans step
      exact ⟨congrArg FaultMark.present whole.fault, whole.axles, whole.outputs, whole.device,
        whole.channels, whole.rollover⟩
    have axle : v.axles[a] = if ending then x.movedTo .down else x := counted.axle
    have brake : v.device = s.device := counted.device
    have raises (same : v.axles[a] = x) : mayRaise v a = true ↔ rises := by
      rw [mayRaise_iff, forbids, alarms, light_eq, same, brake]
    have inhibits (same : v.axles[a] = x) : raiseInhibited v a = true ↔ inhibited := by
      rw [raiseInhibited, Bool.or_eq_true, Bool.or_eq_true, forbids, same, brake, beq_iff_eq, or_assoc]
    have falls (same : v.axles[a] = x) : mustLower v a = true ↔ mustFall := by
      rw [mustLower, Bool.or_eq_true, Bool.or_eq_true, Bool.or_eq_true, forbids, alarms, overloaded,
        same, brake, beq_iff_eq, decide_eq_true_eq, or_assoc, or_assoc]
    have raise : v.lift.raiseTimer = s.lift.raiseTimer :=
      (congrArg LiftController.raiseTimer counted.lift).trans rfl
    have lower : v.lift.loweringTimer = if lowers then none else s.lift.loweringTimer :=
      (congrArg LiftController.loweringTimer counted.lift).trans (if_congr ends rfl rfl)
    have answers := liftMove_answers (total := s.device.fTot) ?_ raise lower light_eq (fun h => h.1)
      (congrArg Device.fTot brake) raises inhibits falls
    · obtain ⟨⟨z, l, step⟩, state, mode, mark, count, raised, lowered, solenoid⟩ := answers
      rw [← moved] at *
      exact ⟨state, mode, mark, count, raised, lowered, solenoid, tail step⟩
    · exact axle.trans (if_congr ends rfl rfl)

end Sys2Proof.Machine
end

section
/-! LIFT_COMMAND, SET_ATTENTION, ACK_FAULTS and the requests for the device state (O49, O51, O52). -/

namespace Sys2Proof.Machine

/-! ### Searches over the existing records -/

theorem finRange_split {n : Nat} (a : Fin n) : ∃ before rest,
    List.finRange n = before ++ a :: rest ∧ ∀ b ∈ before, b < a := by
  have long : a.val < (List.finRange n).length := by
    rw [List.length_finRange]
    exact a.isLt
  refine ⟨(List.finRange n).take a.val, (List.finRange n).drop (a.val + 1), ?_, fun b named => ?_⟩
  · have here : (List.finRange n)[a.val] = a := by simp
    calc List.finRange n = (List.finRange n).take a.val ++ (List.finRange n).drop a.val :=
          (List.take_append_drop _ _).symm
      _ = _ := by rw [List.drop_eq_getElem_cons long, here]
  · obtain ⟨i, below, rfl⟩ := List.mem_take_iff_getElem.mp named
    rw [List.getElem_finRange, Fin.lt_def]
    exact (Nat.lt_min.mp below).1

theorem find?_finRange_eq_some {n : Nat} {p : Fin n → Bool} {a : Fin n} (here : p a = true)
    (first : ∀ b < a, p b = false) : (List.finRange n).find? p = some a := by
  obtain ⟨before, rest, split, below⟩ := finRange_split a
  rw [split, List.find?_append, List.find?_eq_none.mpr fun b named => by
    rw [first b (below b named)]
    exact Bool.false_ne_true]
  exact List.find?_cons_of_pos here

theorem findSome?_finRange_eq_some {n : Nat} {α : Type} {f : Fin n → Option α} {a : Fin n} {x : α}
    (here : f a = some x) (first : ∀ b < a, f b = none) :
    (List.finRange n).findSome? f = some x := by
  obtain ⟨before, rest, split, below⟩ := finRange_split a
  rw [split, List.findSome?_append, List.findSome?_eq_none_iff.mpr fun b named =>
    first b (below b named)]
  simp [here]

theorem findSome?_finRange_eq_none {n : Nat} {α : Type} {f : Fin n → Option α}
    (no : ∀ a, f a = none) : (List.finRange n).findSome? f = none :=
  List.findSome?_eq_none_iff.mpr fun a _ => no a

/-! ### LIFT_COMMAND and SET_ATTENTION -/

theorem liftAxle_eq_none_iff (s : State) : liftAxle s = none ↔
    ∀ a : Fin 4, ¬(s.axles[a].present = true ∧ s.axles[a].liftable = true) := by
  unfold liftAxle
  rw [List.find?_eq_none]
  simp only [Bool.and_eq_true, List.mem_finRange, forall_const]

theorem liftAxle_eq_some_of_first {s : State} {a : Fin 4}
    (here : s.axles[a].present = true ∧ s.axles[a].liftable = true)
    (first : ∀ b < a, ¬(s.axles[b].present = true ∧ s.axles[b].liftable = true)) :
    liftAxle s = some a :=
  find?_finRange_eq_some (Bool.and_eq_true_iff.mpr here) fun b below =>
    Bool.eq_false_iff.mpr fun both => first b below (Bool.and_eq_true_iff.mp both)

theorem LiftMode.ofCode_eq {value : Word} (listed : value.toNat ≤ 2) : LiftMode.ofCode value.toNat =
    if value = 0 then .auto else if value = 1 then .manualUp else .manualDown := by
  obtain zero | one | two : value.toNat = 0 ∨ value.toNat = 1 ∨ value.toNat = 2 := by omega
  · rw [show value = 0 from BitVec.eq_of_toNat_eq zero]
    rfl
  · rw [show value = 1 from BitVec.eq_of_toNat_eq one]
    rfl
  · rw [show value = 2 from BitVec.eq_of_toNat_eq two]
    rfl

/-- A request that its owner answers without a change of the link. -/
theorem request_answers {kind : BitVec 6} {owner : State → Reply × State} {s t : State} {r : Reply}
    (served : Served s) (answer : owner (closeTransaction s) = (r, closeTransaction t)) :
    request kind owner s = Answered kind r t := by
  rw [request_of_served served, answer]
  rfl

/-- Settles O49. -/
theorem liftCommandAndSetAttention : Obligations.LiftCommandAndSetAttention := by
  intro index value a s served answers lifts
  refine ⟨fun absent => ?_, fun here high => ?_, fun here first listed => ?_, fun high => ?_,
    fun listed => ?_⟩
  · have none : liftAxle (closeTransaction s) = none := (liftAxle_eq_none_iff s).mpr absent
    exact congrArg Host.Outcome.next (request_answers served (by rw [liftCommandOwner, none]; rfl))
  · refine congrArg Host.Outcome.next (request_answers served ?_)
    cases found : liftAxle (closeTransaction s) with
    | none => exact absurd here ((liftAxle_eq_none_iff s).mp found a)
    | some b =>
      rw [liftCommandOwner, found]
      exact if_neg (by omega)
  · have found : liftAxle (closeTransaction s) = some a := liftAxle_eq_some_of_first here first
    refine congrArg Host.Outcome.next (request_answers served ?_)
    rw [liftCommandOwner, found]
    refine (if_pos (by omega)).trans ?_
    rw [LiftMode.ofCode_eq listed]
    rfl
  · refine congrArg Host.Outcome.next (request_answers served ?_)
    exact if_pos high
  · have answer : request 14 (setAttentionOwner index value) s = Answered 14 (plainReply .done index)
        { s with device := { s.device with attentionEnable := value.extractLsb' 0 6 } } :=
      request_answers served (if_neg (by omega))
    refine ⟨_, congrArg Host.Outcome.next answer, ?_, ?_, rfl⟩
    · show (value.extractLsb' 0 6).toNat = value.toNat
      rw [BitVec.extractLsb'_toNat, Nat.shiftRight_zero]
      exact Nat.mod_eq_of_lt (by omega)
    · have serves := (linkServes_iff s).mpr ⟨served.1, served.2.1⟩
      exact (congrArg (· && (attentionPending s &&& value.extractLsb' 0 6 != 0)) serves).trans
        (Bool.true_and _)

/-! ### ACK_FAULTS -/

/-- R178, R179: what ACK_FAULTS writes, before the channels follow. -/
def acknowledged (s : State) : State :=
  { s with
    faults := s.faults.acknowledged
    device := { s.device with restarted := false }
    link := { s.link with faultPending := false } }

theorem ackFaultsOwner_eq (index : BitVec 5) (s : State) :
    ackFaultsOwner index s = (plainReply .done index, settle (acknowledged s)) := rfl

theorem acknowledged_get (f : FaultId) (s : State) :
    (acknowledged s).faults.get f = (s.faults.get f).acknowledged :=
  FaultSet.get_acknowledged s.faults f

/-- Settles O52: the acknowledged marks, which settling leaves. -/
theorem ackFaultsClearsAbsentMarks : Obligations.AckFaultsClearsAbsentMarks := by
  intro index s served
  refine ⟨_, exec_ackFaults_of_served index served, ?_⟩
  rw [ackFaultsOwner_eq]
  have drove := settle_drove (acknowledged (closeTransaction s))
  have marks (f : FaultId) := acknowledged_get f (closeTransaction s)
  generalize settle (acknowledged (closeTransaction s)) = t at drove
  refine ⟨?_, drove.device, fun f _ => ?_, fun f _ present => ?_, fun f _ opens waits => ?_,
    drove.analog, drove.axles, drove.wheels, drove.tyres, drove.rollover, drove.receiver,
    drove.supervisor⟩
  · refine Eq.trans (b := { t.link with response := ⟨.done, 13, index, Vector.replicate 8 0⟩ }) rfl ?_
    rw [drove.sameLink]
    rfl
  · exact (drove.latched f).trans (congrArg FaultMark.latched (marks f))
  · exact (congrArg FaultMark.present (marks f)).symm.trans (drove.present f present)
  · have mark := congrArg FaultMark.present (marks f)
    exact (congrArg FaultMark.present (drove.others f opens waits)).trans mark

end Sys2Proof.Machine
end

section
/-! The requests for the device state (O51). -/

namespace Sys2Proof.Machine

/-! ### The completeness check -/

theorem channelIncomplete_eq_none_iff (x : Channel) :
    channelIncomplete x = none ↔ x.gEmpty ≤ x.gLaden := by
  unfold channelIncomplete
  split <;> simp <;> omega

/-- R173: what the completeness check asks of an axle record. -/
def axleCheck (s : State) (a : Fin 4) : Option (TableId × Nat × Nat) :=
  if s.axles[a].present then (axleIncomplete s.axles[a]).map fun r => (TableId.axle, a.val, r) else none

/-- R173: what the completeness check asks of a channel record. -/
def channelCheck (s : State) (c : Fin 4) : Option (TableId × Nat × Nat) :=
  if s.channels[c].present then
    (channelIncomplete s.channels[c]).map fun r => (TableId.channel, c.val, r)
  else none

theorem firstIncomplete_eq (s : State) : firstIncomplete s =
    ((List.finRange 4).findSome? (axleCheck s)).or ((List.finRange 4).findSome? (channelCheck s)) := by
  unfold firstIncomplete axleCheck channelCheck
  split
  · next x found => rw [found]; rfl
  · next none => rw [none]; rfl

theorem axleCheck_eq_none_iff (s : State) (a : Fin 4) : axleCheck s a = none ↔
    (s.axles[a].present = true → axleIncomplete s.axles[a] = none) := by
  unfold axleCheck
  split
  · next standing =>
    rw [Option.map_eq_none_iff]
    exact ⟨fun h _ => h, fun h => h standing⟩
  · next absent => exact ⟨fun _ standing => absurd standing absent, fun _ => rfl⟩

theorem channelCheck_eq_none_iff (s : State) (c : Fin 4) : channelCheck s c = none ↔
    (s.channels[c].present = true → s.channels[c].gEmpty ≤ s.channels[c].gLaden) := by
  unfold channelCheck
  split
  · next standing =>
    rw [Option.map_eq_none_iff, channelIncomplete_eq_none_iff]
    exact ⟨fun h _ => h, fun h => h standing⟩
  · next absent => exact ⟨fun _ standing => absurd standing absent, fun _ => rfl⟩

theorem firstIncomplete_eq_none_iff (s : State) : firstIncomplete s = none ↔
    (∀ a : Fin 4, s.axles[a].present = true → axleIncomplete s.axles[a] = none)
      ∧ ∀ c : Fin 4, s.channels[c].present = true → s.channels[c].gEmpty ≤ s.channels[c].gLaden := by
  rw [firstIncomplete_eq, Option.or_eq_none_iff, List.findSome?_eq_none_iff,
    List.findSome?_eq_none_iff]
  simp only [List.mem_finRange, forall_const, axleCheck_eq_none_iff, channelCheck_eq_none_iff]

theorem firstIncomplete_of_axle {s : State} {a : Fin 4} {x : TableId × Nat × Nat}
    (here : axleCheck s a = some x) (first : ∀ b < a, axleCheck s b = none) :
    firstIncomplete s = some x := by
  rw [firstIncomplete_eq, findSome?_finRange_eq_some here first, Option.some_or]

theorem firstIncomplete_of_channel {s : State} {c : Fin 4} {x : TableId × Nat × Nat}
    (axles : ∀ a, axleCheck s a = none) (here : channelCheck s c = some x)
    (first : ∀ d < c, channelCheck s d = none) : firstIncomplete s = some x := by
  rw [firstIncomplete_eq, findSome?_finRange_eq_none axles, Option.none_or,
    findSome?_finRange_eq_some here first]

/-- R173: a condition on each point and the next one fails at some point. -/
theorem curveIncreasing_eq_false_iff (curve : List CurvePoint) : curveIncreasing curve = false ↔
    ∃ k < curve.length - 1,
      (curve.getD (k + 1) ⟨0, 0⟩).bellows ≤ (curve.getD k ⟨0, 0⟩).bellows := by
  induction curve with
  | nil => simp [curveIncreasing]
  | cons p rest ih =>
    cases rest with
    | nil => simp [curveIncreasing]
    | cons q rest =>
      rw [curveIncreasing, Bool.and_eq_false_iff, ih, decide_eq_false_iff_not, Nat.not_lt]
      constructor
      · rintro (here | ⟨k, below, fails⟩)
        · exact ⟨0, Nat.succ_pos _, here⟩
        · exact ⟨k + 1, by simp only [List.length_cons] at below ⊢; omega, fails⟩
      · rintro ⟨k, below, fails⟩
        cases k with
        | zero => exact .inl fails
        | succ k => exact .inr ⟨k, by simp only [List.length_cons] at below ⊢; omega, fails⟩

theorem curveLoadsRising_eq_false_iff (curve : List CurvePoint) : curveLoadsRising curve = false ↔
    ∃ k < curve.length - 1, (curve.getD (k + 1) ⟨0, 0⟩).load < (curve.getD k ⟨0, 0⟩).load := by
  induction curve with
  | nil => simp [curveLoadsRising]
  | cons p rest ih =>
    cases rest with
    | nil => simp [curveLoadsRising]
    | cons q rest =>
      rw [curveLoadsRising, Bool.and_eq_false_iff, ih, decide_eq_false_iff_not, Nat.not_le]
      constructor
      · rintro (here | ⟨k, below, fails⟩)
        · exact ⟨0, Nat.succ_pos _, here⟩
        · exact ⟨k + 1, by simp only [List.length_cons] at below ⊢; omega, fails⟩
      · rintro ⟨k, below, fails⟩
        cases k with
        | zero => exact .inl fails
        | succ k => exact .inr ⟨k, by simp only [List.length_cons] at below ⊢; omega, fails⟩

/-! ### GO_ACTIVE -/

theorem goActiveOwner_of_active {s : State} (active : s.device.state = .active) (index : BitVec 5) :
    goActiveOwner index s = (plainReply .done index, s) := by
  rw [goActiveOwner, active]

theorem goActiveOwner_enters {s : State} (index : BitVec 5)
    (may : s.device.state = .waitRelease ∨ s.device.state = .standby ∧ firstIncomplete s = none) :
    goActiveOwner index s = (plainReply .done index,
      settle { s with device := { s.device with state := .active } }) := by
  obtain waits | ⟨standby, complete⟩ := may
  · rw [goActiveOwner, waits, setDeviceState_of_not_active (by rw [waits]; exact DeviceState.noConfusion)]
  · rw [goActiveOwner, standby, complete,
      setDeviceState_of_not_active (by rw [standby]; exact DeviceState.noConfusion)]

theorem goActiveOwner_of_incomplete {s : State} {t : TableId} {i reason : Nat} (index : BitVec 5)
    (standby : s.device.state = .standby) (fails : firstIncomplete s = some (t, i, reason)) :
    goActiveOwner index s = (configReply index t i reason, s) := by
  rw [goActiveOwner, standby, fails]

theorem goStandbyOwner_of_standby {s : State} (standby : s.device.state = .standby)
    (index : BitVec 5) : goStandbyOwner index s = (plainReply .done index, s) := by
  rw [goStandbyOwner, standby]
  rfl

/-! ### GO_STANDBY -/

/-- R99, R175: a channel whose exercise has ended. -/
structure Channel.Ended (how : ExerciseEnd) (x : Channel) : Prop where
  lastEnd : x.lastEnd = how
  timer : x.exerciseTimer = none
  action : x.exerciseAction = none
  state : x.state = .electronic ∨ x.state = .fallback

theorem Channel.Ended.not_exercise {how : ExerciseEnd} {x : Channel} (h : x.Ended how) :
    x.state ≠ .exercise := by
  obtain state | state := h.state <;> rw [state] <;> exact ControllerState.noConfusion

theorem Channel.Ended.not_off {how : ExerciseEnd} {x : Channel} (h : x.Ended how) :
    x.state ≠ .off := by
  obtain state | state := h.state <;> rw [state] <;> exact ControllerState.noConfusion

/-- R84: a channel that falls back afterwards shows the same end. -/
theorem settle_ended {c : Fin 4} {how : ExerciseEnd} {s : State} (h : s.channels[c].Ended how) :
    (settle s).channels[c].Ended how := by
  obtain ⟨u, -, gaps, channel, -, last, -, -⟩ := settle_at c s
  have ended : u.channels[c].Ended how := by
    rw [channel, gaps c]
    exact ⟨h.lastEnd, h.timer, h.action, h.state⟩
  rw [last]
  obtain same | same | same := followReason_cases c u
  · rw [same]
    exact ended
  · rw [same, State.setChannel_get_self]
    exact ⟨ended.lastEnd, ended.timer, ended.action, ended.state⟩
  · rw [same, enterFallback_channel]
    exact ⟨(if_neg ended.not_exercise).trans ended.lastEnd, rfl, rfl, .inr rfl⟩

theorem endExercises_channel (s : State) (c : Fin 4) :
    if s.channels[c].present = true ∧ s.channels[c].state = .exercise then
      (endExercises s).channels[c].Ended .standby
    else (endExercises s).channels[c] = s.channels[c] := by
  have step (d : Fin 4) (t : State) : Drove t (if t.channels[d].present
      && t.channels[d].state == .exercise then finishExercise d .standby t else t) := by
    split
    · exact finishExercise_drove d _ t
    · exact .refl t
  obtain ⟨u, -, unmoved, -, last⟩ := forEach_at Drove .refl .trans step (fun t => t.channels[c]) c
    (fun d t ne => by
      split
      · exact finishExercise_channel_ne ne.symm _ t
      · rfl) s
  have unmoved : u.channels[c] = s.channels[c] := unmoved
  have last : (endExercises s).channels[c] = _ := last
  split
  · next running =>
    obtain ⟨standing, exercise⟩ := running
    rw [unmoved, if_pos (by rw [standing, exercise]; rfl), finishExercise_channel, unmoved] at last
    rw [last]
    exact ⟨if_pos exercise, rfl, rfl, .inl rfl⟩
  · next stays =>
    rw [last, unmoved, if_neg (by rwa [Bool.and_eq_true, beq_iff_eq]), unmoved]

theorem Channel.Driven.command_eq {x y : Channel} (h : x.Driven y) : y.command = x.command := by
  rw [h.static]
  rfl

/-- R175: the release conditions once every exercise has ended. -/
theorem releaseConditions_endExercises {s : State} (law : ArbiterLaw s) :
    releaseConditions (endExercises s) = true ↔
      (∀ c : Fin 4, s.channels[c].present = true → s.channels[c].commanded = 0)
        ∧ ¬(s.rollover.state = .alert ∨ s.rollover.state = .test ∨ s.rollover.state = .intervene
          ∨ s.rollover.state = .recover) := by
  have drove := endExercises_drove s
  have commanded (c : Fin 4) : (endExercises s).channels[c].commanded = s.channels[c].commanded := by
    have before : s.channels[c].Arbitrated := (Channel.arbitrated_iff _).mpr (law c)
    rw [((drove.channels c).arbiter before).1, before.1, (drove.channels c).command_eq]
  have state (c : Fin 4) (standing : s.channels[c].present = true) :
      (endExercises s).channels[c].state ≠ .exercise := by
    have channel := endExercises_channel s c
    split at channel
    · exact channel.not_exercise
    · next stays =>
      rw [channel]
      exact fun exercise => stays ⟨standing, exercise⟩
  rw [releaseConditions_iff, drove.rollover]
  refine and_congr (forall_congr' fun c => ?_) (by tauto)
  rw [commanded c, (drove.channels c).present_eq]
  exact ⟨fun h standing => (h standing).1, fun h standing => ⟨h standing, state c standing⟩⟩

/-- R64, R175: the part before the channels follow a GO_STANDBY that enters the state `d`. -/
def leaving (d : DeviceState) (s : State) : State :=
  if s.device.state = .active then
    forceLowering { endExercises s with device := { s.device with state := d } }
  else { endExercises s with device := { s.device with state := d } }

theorem setDeviceState_endExercises {d : DeviceState} (notActive : d ≠ .active) (s : State) :
    setDeviceState d (endExercises s) = settle (leaving d s) := by
  unfold setDeviceState leaving
  dsimp only
  rw [(endExercises_drove s).device]
  refine congrArg settle (if_congr ?_ rfl rfl)
  rw [Bool.and_eq_true, beq_iff_eq, bne_iff_ne]
  exact and_iff_left notActive

theorem leaving_liftDrove (d : DeviceState) (s : State) :
    LiftDrove { endExercises s with device := { s.device with state := d } } (leaving d s) :=
  keeps_ite (P := LiftDrove _) (fun _ => forceLowering_liftDrove _) fun _ => .refl _

theorem leaving_channels (d : DeviceState) (s : State) :
    (leaving d s).channels = (endExercises s).channels :=
  keeps_ite (P := fun t => t.channels = (endExercises s).channels)
    (fun _ => forceLowering_channels _) fun _ => rfl

theorem ForcedLowering.of_same {s u t : State} (h : ForcedLowering u t) (axles : u.axles = s.axles)
    (lift : u.lift = s.lift)
    (request : u.outputs[liftOutput].requested = s.outputs[liftOutput].requested) :
    ForcedLowering s t := by
  intro a found
  have same := h a (by
    unfold liftAxle
    rw [axles]
    exact found)
  rwa [axles, lift, request] at same

theorem leaving_forced {d : DeviceState} {s : State} (active : s.device.state = .active) :
    ForcedLowering s (leaving d s) := by
  have drove := endExercises_drove s
  rw [leaving, if_pos active]
  exact (forceLowering_forced _).of_same drove.axles drove.lift drove.liftRequest

theorem goStandbyOwner_enters {s : State} (control : s.device.state = .active
    ∨ s.device.state = .waitRelease) (index : BitVec 5) : goStandbyOwner index s =
      (plainReply .done index, settle (leaving
        (if releaseConditions (endExercises s) then .standby else .waitRelease) s)) := by
  have within : (s.device.state == .active || s.device.state == .waitRelease) = true := by
    rwa [Bool.or_eq_true, beq_iff_eq, beq_iff_eq]
  rw [← setDeviceState_endExercises (by split <;> exact DeviceState.noConfusion), goStandbyOwner,
    if_pos within]

/-- R173: the reason of the first condition that an axle record fails, point by point. -/
theorem axleIncomplete_getD (x : Axle) (reason : Nat) : axleIncomplete x = some reason ↔
    reason ≠ 0 ∧ reason = (if x.curve.length < 2 ∨ 6 < x.curve.length then 1
      else if ∃ k < x.curve.length - 1,
          (x.curve.getD (k + 1) ⟨0, 0⟩).bellows ≤ (x.curve.getD k ⟨0, 0⟩).bellows then 2
      else if ∃ k < x.curve.length - 1,
          (x.curve.getD (k + 1) ⟨0, 0⟩).load < (x.curve.getD k ⟨0, 0⟩).load then 3
      else if x.l1 < x.l0 + 50 then 4
      else 0) := by
  unfold axleIncomplete
  simp only [← curveIncreasing_eq_false_iff, ← curveLoadsRising_eq_false_iff]
  repeat' split
  all_goals simp
  all_goals omega

/-- R175: what GO_STANDBY leaves, out of ACTIVE or WAIT_RELEASE. -/
structure LeftControl (d : DeviceState) (s t : State) : Prop where
  device : t.device = { s.device with state := d }
  ended : ∀ c : Fin 4, s.channels[c].present = true → s.channels[c].state = .exercise →
    t.channels[c].Ended .standby
  quiet : d = .standby → (∀ o : Fin 13, t.outputs[o].energised = false)
    ∧ ∀ c : Fin 4, s.channels[c].present = true → s.channels[c].state ≠ .off →
      t.channels[c].state = .fallback ∧ t.channels[c].reason = .notActive
  lowered : s.device.state = .active → ForcedLowering s t
  stays : s.device.state ≠ .active → t.axles = s.axles ∧ t.lift = s.lift
  rollover : t.rollover = s.rollover
  wheels : t.wheels = s.wheels
  tyres : t.tyres = s.tyres
  link : t.link = s.link

theorem settle_leaving (d : DeviceState) (s : State) : LeftControl d s (settle (leaving d s)) := by
  have drove := endExercises_drove s
  have lowered := leaving_liftDrove d s
  have channels := leaving_channels d s
  have settled := settle_drove (leaving d s)
  have channel (c : Fin 4) : (leaving d s).channels[c] = (endExercises s).channels[c] := by rw [channels]
  have device : (leaving d s).device = { s.device with state := d } := lowered.device
  exact {
    device := settled.device.trans device
    ended := fun c standing exercise => settle_ended (by
      have ended := endExercises_channel s c
      rw [if_pos ⟨standing, exercise⟩] at ended
      rwa [channel])
    quiet := fun standby => by
      obtain ⟨off, fell⟩ := settle_standby (s := leaving d s) (Bool.eq_false_iff.mpr fun control => by
        rw [inControl_iff, device, standby] at control
        exact control.elim DeviceState.noConfusion DeviceState.noConfusion)
      refine ⟨off, fun c standing notOff => fell c ?_ ?_⟩
      · rw [channel, (drove.channels c).present_eq]
        exact standing
      · rw [channel]
        have ended := endExercises_channel s c
        split at ended
        · exact ended.not_off
        · rw [ended]
          exact notOff
    lowered := fun active => (leaving_forced active).settle
    stays := fun notActive => by
      rw [settled.axles, settled.lift, leaving, if_neg notActive]
      exact ⟨drove.axles, drove.lift⟩
    rollover := settled.rollover.trans (lowered.rollover.trans drove.rollover)
    wheels := settled.wheels.trans (lowered.wheels.trans drove.wheels)
    tyres := settled.tyres.trans (lowered.tyres.trans drove.tyres)
    link := settled.sameLink.trans (lowered.sameLink.trans drove.sameLink) }

/-- Settles O51: the owners' answers, and the search for the first failure. -/
theorem deviceStateRequests : Obligations.DeviceStateRequests := by
  refine ⟨fun index s served => ?_, fun index a c s served standby => ?_⟩
  · intro reply none' ready alarmed idle
    have complete : firstIncomplete (closeTransaction s) = none ↔ ready :=
      firstIncomplete_eq_none_iff _
    refine ⟨fun active => ?_, fun enters => ?_, fun standby fails => ?_, fun standby => ?_,
      fun law control => ?_⟩
    · exact congrArg Host.Outcome.next
        (request_answers served (goActiveOwner_of_active (s := closeTransaction s) active index))
    · have owner := goActiveOwner_enters (s := closeTransaction s) index
        (enters.imp id fun both => ⟨both.1, complete.mpr both.2⟩)
      have answer : request 10 (goActiveOwner index) s = _ := request_of_served served
      rw [owner] at answer
      have ran : exec (.goActive index) s = _ := congrArg Host.Outcome.next answer
      have drove := settle_drove { closeTransaction s with
        device := { (closeTransaction s).device with state := .active } }
      have fallback (c : Fin 4) (h : s.channels[c].state = .fallback) :=
        settle_keeps_fallback (c := c) (s := { closeTransaction s with
          device := { (closeTransaction s).device with state := .active } }) h
      have off (o : Fin 13) := settle_energised (o := o) (s := { closeTransaction s with
        device := { (closeTransaction s).device with state := .active } })
      generalize settle { closeTransaction s with
        device := { (closeTransaction s).device with state := .active } } = t at *
      refine ⟨_, ran, ⟨ran, ?_, rfl⟩, drove.device, drove.axles, drove.rollover, drove.lift,
        fun c _ h => fallback c h, fun o on => (off o on).1⟩
      exact congrArg Link.select drove.sameLink
    · cases found : firstIncomplete (closeTransaction s) with
      | none => exact absurd (complete.mp found) fails
      | some x =>
        obtain ⟨t, i, reason⟩ := x
        exact ⟨_, congrArg Host.Outcome.next (request_answers (t := s) served
          (goActiveOwner_of_incomplete index standby found)), rfl, rfl, rfl, rfl⟩
    · exact congrArg Host.Outcome.next
        (request_answers served (goStandbyOwner_of_standby (s := closeTransaction s) standby index))
    · have released : releaseConditions (endExercises (closeTransaction s)) = true ↔ idle :=
        releaseConditions_endExercises (s := closeTransaction s) law
      have answer : request 11 (goStandbyOwner index) s = _ := request_of_served served
      rw [goStandbyOwner_enters (s := closeTransaction s) control] at answer
      have ran : exec (.goStandby index) s = _ := congrArg Host.Outcome.next answer
      have state : (if releaseConditions (endExercises (closeTransaction s)) then DeviceState.standby
          else .waitRelease) = if idle then .standby else .waitRelease := if_congr released rfl rfl
      rw [state] at ran
      have left := settle_leaving (if idle then .standby else .waitRelease) (closeTransaction s)
      generalize settle (leaving (if idle then .standby else .waitRelease) (closeTransaction s)) = t
        at ran left
      refine ⟨_, ran, ⟨ran, congrArg Link.select left.link, rfl⟩, left.device,
        fun c standing exercise => ?_, fun rest => left.quiet (if_pos rest), ?_, left.rollover,
        left.wheels, left.tyres⟩
      · have ended := left.ended c standing exercise
        exact ⟨ended.lastEnd, ended.timer, ended.action, ended.not_exercise⟩
      · split
        · next active => exact left.lowered active
        · next notActive => exact left.stays notActive
  · intro reasonOf axleBad channelBad answers
    have answer {t : TableId} {i reason : Nat}
        (fails : firstIncomplete (closeTransaction s) = some (t, i, reason)) :
        exec (.goActive index) s = .next (Answered 10 (configReply index t i reason) s) :=
      congrArg Host.Outcome.next (request_answers served
        (goActiveOwner_of_incomplete index standby fails))
    have good (b : Fin 4) (h : ¬axleBad b) : axleCheck (closeTransaction s) b = none := by
      refine (axleCheck_eq_none_iff _ _).mpr fun standing => ?_
      cases found : axleIncomplete (closeTransaction s).axles[b] with
      | none => rfl
      | some reason =>
        obtain ⟨some, same⟩ := (axleIncomplete_getD _ _).mp found
        exact absurd ⟨standing, fun zero => some (same.trans zero)⟩ h
    refine ⟨fun bad first => ?_, fun axles bad first => ?_⟩
    · obtain ⟨standing, some⟩ := bad
      have incomplete : axleIncomplete s.axles[a] = Option.some (reasonOf s.axles[a]) :=
        (axleIncomplete_getD _ _).mpr ⟨some, rfl⟩
      have here : axleCheck (closeTransaction s) a
          = Option.some (.axle, a.val, reasonOf s.axles[a]) :=
        (if_pos standing).trans (congrArg (Option.map _) incomplete)
      exact answer (firstIncomplete_of_axle here fun b below => good b (first b below))
    · obtain ⟨standing, below⟩ := bad
      have here : channelCheck (closeTransaction s) c = some (.channel, c.val, 5) :=
        (if_pos standing).trans (congrArg (Option.map _) (if_pos below))
      refine answer (firstIncomplete_of_channel (fun b => good b (axles b)) here fun d less => ?_)
      exact (channelCheck_eq_none_iff _ _).mpr fun standing => Nat.not_lt.mp fun bad =>
        first d less ⟨standing, bad⟩

end Sys2Proof.Machine
end

section
/-! The Speed Capture Unit at a window end: speeds, sensor states and the reference speed (O25 to O27). -/

namespace Sys2Proof.Machine

/-! ### A wheel-end after a sample set -/

/-- R101: the judgement writes the slip, the deceleration and the wish only. -/
theorem Wheel.judged_eq (x : Wheel) (v slipRel : Nat) : x.judged v slipRel = { x with
    slip := (x.judged v slipRel).slip
    deceleration := (x.judged v slipRel).deceleration
    wish := (x.judged v slipRel).wish } := by
  unfold Wheel.judged
  split <;> rfl

/-- Of an existing wheel-end a sample set leaves the closed window and its judgement. -/
theorem sampleSet_wheel_eq {s : State} {w : Fin 8} (existing : s.wheels[w].present = true)
    (now : Stamp) (lines : BitVec 8) (first : Bool) :
    (sampleSet now lines first s).wheels[w] = { s.wheels[w].close now (lines.getLsbD w.val)
        (axleDown s (axleOfWheel w)) (speedSuspect s w) (masked s (.speed w)) s.device.referenceSpeed with
      slip := (sampleSet now lines first s).wheels[w].slip
      deceleration := (sampleSet now lines first s).wheels[w].deceleration
      wish := (sampleSet now lines first s).wheels[w].wish } := by
  have judged := sampleSet_wheel_of_present existing now lines first
  generalize (sampleSet now lines first s).wheels[w] = y at *
  rw [judged]
  exact Wheel.judged_eq _ _ _

theorem sampleSet_wheel_of_absent {s : State} {w : Fin 8} (absent : s.wheels[w].present = false)
    (now : Stamp) (lines : BitVec 8) (first : Bool) :
    (sampleSet now lines first s).wheels[w] = s.wheels[w] := by
  have closed : (windowEnd now lines s).wheels[w] = s.wheels[w] :=
    (windowEnd_wheel now lines s w).trans (if_neg (Bool.eq_false_iff.mp absent))
  rw [sampleSet_wheels, judgeWheels_wheel, closed]
  exact if_neg (Bool.eq_false_iff.mp absent)

/-! ### The speed of a window -/

theorem span_eq_zero_iff (a b : Stamp) : span a b = 0 ↔ a = b := by
  unfold span
  bv_omega

theorem spanQuotient_of_ne {a b : Stamp} (ne : a ≠ b) (circumference teeth : Nat) :
    spanQuotient circumference teeth (span a b)
      = circumference * 100000 / (teeth * (b - a).toNat) :=
  if_neg (mt (span_eq_zero_iff a b).mp ne)

/-- Settles O25: rule by rule, the window's result being the closed wheel-end's. -/
theorem wheelSpeedsAtSampleSet : Obligations.WheelSpeedsAtSampleSet := by
  intro now lines first s running window
  refine ⟨_, exec_sampleSet_of_running running window now lines first,
    fun w absent => sampleSet_wheel_of_absent absent now lines first, fun w existing => ?_⟩
  have whole := sampleSet_wheel_eq existing now lines first
  generalize (sampleSet now lines first s).wheels[w] = y at whole
  have speed : y.speed = (windowSpeed s.wheels[w] now).1 := by rw [whole]; rfl
  have time : y.lastEdgeTime = (windowSpeed s.wheels[w] now).2 := by rw [whole]; rfl
  have previous : y.previousSpeed = s.wheels[w].speed := by rw [whole]; rfl
  have counted : y.edgeCount = 0 := by rw [whole]; rfl
  clear whole
  intro x y' between quotient e
  change y.speed = (windowSpeed x now).1 at speed
  change y.lastEdgeTime = (windowSpeed x now).2 at time
  refine ⟨fun many => ?_, fun one none => ?_, fun one => ?_, fun one some ne => ?_,
    fun zero none => ?_, fun zero some late => ?_, fun zero some ne early => ?_, previous, counted⟩
  · rw [speed, time, windowSpeed, if_pos many]
    exact ⟨rfl, rfl⟩
  · rw [speed, windowSpeed, if_neg (by omega), if_pos one, none]
  · rw [time, windowSpeed, if_neg (by omega), if_pos one]
    cases x.lastEdgeTime <;> rfl
  · obtain ⟨t, found⟩ := Option.ne_none_iff_exists'.mp some
    have here : e = t := by rw [show e = x.lastEdgeTime.getD 0 from rfl, found]; rfl
    rw [here] at ne ⊢
    rw [speed, windowSpeed, if_neg (by omega), if_pos one, found]
    exact congrArg (min 6000) (spanQuotient_of_ne ne _ _)
  · rw [speed, time, windowSpeed, if_neg (by omega), if_neg (by omega), none]
    exact ⟨rfl, rfl⟩
  · obtain ⟨t, found⟩ := Option.ne_none_iff_exists'.mp some
    have here : e = t := by rw [show e = x.lastEdgeTime.getD 0 from rfl, found]; rfl
    rw [here] at late
    rw [speed, time, windowSpeed, if_neg (by omega), if_neg (by omega), found]
    dsimp only
    rw [if_pos (show 250000 ≤ span t now from late)]
    exact ⟨rfl, rfl⟩
  · obtain ⟨t, found⟩ := Option.ne_none_iff_exists'.mp some
    have here : e = t := by rw [show e = x.lastEdgeTime.getD 0 from rfl, found]; rfl
    rw [here] at ne early ⊢
    rw [speed, time, windowSpeed, if_neg (by omega), if_neg (by omega), found]
    dsimp only
    rw [if_neg (show ¬250000 ≤ span t now from Nat.not_le.mpr early), spanQuotient_of_ne ne]
    exact ⟨rfl, rfl⟩

/-! ### The frame of a sample set -/

/-- Of a channel the sample set writes the ROLLOVER request, the anti-lock state and what follows them. -/
def Channel.Sampled (x y : Channel) : Prop := y = { x with
  rolloverRequest := y.rolloverRequest, antiLock := y.antiLock, cap := y.cap,
  holdTimer := y.holdTimer, stepTimer := y.stepTimer, releaseCount := y.releaseCount,
  commanded := y.commanded, winning := y.winning }

theorem Channel.Sampled.refl (x : Channel) : x.Sampled x := rfl

theorem Channel.Sampled.trans {x y z : Channel} (h : x.Sampled y) (k : y.Sampled z) : x.Sampled z := by
  have one : y = _ := h
  have two : z = _ := k
  unfold Channel.Sampled
  rw [two, one]

/-- What both blocks of a sample set leave of the outputs, the axles, the channels and the fault set. -/
structure Sampled (s t : State) : Prop where
  outputs : ∀ o : Fin 13, o ≠ liftOutput → t.outputs[o] = s.outputs[o]
  axles : ∀ a : Fin 4, t.axles[a] = { s.axles[a] with
    liftState := t.axles[a].liftState, changeMark := t.axles[a].changeMark }
  channels : ∀ c : Fin 4, s.channels[c].Sampled t.channels[c]
  faults : ∀ f, (∀ o : Fin 13, f ≠ .valveOpen o) → (∀ c : Fin 4, f ≠ .supplyWait c) →
    t.faults.get f = s.faults.get f

theorem Sampled.refl (s : State) : Sampled s s :=
  ⟨fun _ _ => rfl, fun _ => rfl, fun _ => rfl, fun _ _ _ => rfl⟩

theorem Sampled.trans {s t u : State} (h : Sampled s t) (k : Sampled t u) : Sampled s u where
  outputs o ne := (k.outputs o ne).trans (h.outputs o ne)
  axles a := by rw [k.axles a, h.axles a]
  channels c := (h.channels c).trans (k.channels c)
  faults f opens waits := (k.faults f opens waits).trans (h.faults f opens waits)

theorem setChannel_sampled {c : Fin 4} {x : Channel} {s : State} (h : s.channels[c].Sampled x) :
    Sampled s (s.setChannel c x) :=
  { Sampled.refl s with
    channels := fun d => by
      by_cases same : d = c
      · subst same
        rw [State.setChannel_get_self]
        exact h
      · rw [State.setChannel_get_ne _ _ _ _ same]
        exact .refl _ }

theorem LiftDrove.sampled {s t : State} (h : LiftDrove s t)
    (outputs : ∀ o : Fin 13, o ≠ liftOutput → t.outputs[o] = s.outputs[o])
    (channels : t.channels = s.channels) : Sampled s t where
  outputs := outputs
  axles a := (h.axles a).static
  channels c := by rw [channels]; exact .refl _
  faults := h.others

theorem startLowering_sampled (a : Fin 4) (s : State) : Sampled s (startLowering a s) :=
  (startLowering_liftDrove a s).sampled (fun _ ne => startLowering_other ne a s)
    (startLowering_channels a s)

theorem monitorClosed_sampled (s : State) : MonitorClosed (Sampled s) where
  record _ h := ⟨h.outputs, h.axles, h.channels, h.faults⟩
  event h := ⟨h.outputs, h.axles, h.channels, h.faults⟩
  lowering h := forceLowering_keeps h fun a => h.trans (startLowering_sampled a _)
  request v c h := by
    refine keeps_ite (P := Sampled s) (fun _ => ?_) fun _ => h
    rw [arbitrate_setChannel]
    exact h.trans (setChannel_sampled rfl)

theorem antiLockStep_sampled (x : Channel) (runs release settled : Bool) :
    x.Sampled (x.antiLockStep runs release settled) := by
  have reapply : x.Sampled x.enterReapply := by
    unfold Channel.enterReapply
    split <;> rfl
  unfold Channel.antiLockStep
  split
  case isFalse => rfl
  split
  case h_1 | h_2 | h_3 => split <;> rfl
  case h_4 =>
    split
    · rfl
    · split
      · exact reapply
      · rfl
  case h_5 =>
    split
    · rfl
    · split <;> rfl

theorem antiLockSample_sampled (s : State) : Sampled s (antiLockSample s) := by
  have judged : Sampled s (judgeWheels s) := { Sampled.refl s with }
  refine judged.trans (forEach_rel Sampled .refl .trans (fun c t => ?_) _)
  refine keeps_ite (P := Sampled t) (fun _ => ?_) fun _ => .refl t
  rw [arbitrate_setChannel]
  exact setChannel_sampled ((antiLockStep_sampled _ _ _ _).trans rfl)

theorem sampleSet_sampled (now : Stamp) (lines : BitVec 8) (first : Bool) (s : State) :
    Sampled (windowEnd now lines s) (sampleSet now lines first s) := by
  cases first with
  | true =>
    rw [sampleSet_antiLock_first]
    exact (monitorClosed_sampled _).rolloverSample (antiLockSample_sampled _)
  | false =>
    rw [sampleSet_antiLock_last]
    exact ((monitorClosed_sampled _).rolloverSample (.refl _)).trans (antiLockSample_sampled _)

/-! ### The window end -/

/-- R30: the state of a window end before the sensor conditions are reported. -/
def formed (now : Stamp) (lines : BitVec 8) (s : State) : State :=
  formReference (closeWindows lines { s with capture := { s.capture with timestamp := now } })

theorem windowEnd_eq (now : Stamp) (lines : BitVec 8) (s : State) :
    windowEnd now lines s = reportSensors (formed now lines s) := rfl

theorem reportSensors_faultsOnly (s : State) : FaultsOnly s (reportSensors s) :=
  forEach_rel FaultsOnly .refl .trans (fun w t => by
    split
    · exact (report_spec _ _ t).1
    · exact .refl t) s

/-- R40: the marks of the wheel-ends' sensors after their reports. -/
theorem reportSensors_mark (s : State) (w : Fin 8) : (reportSensors s).faults.get (.speed w) =
    if s.wheels[w].present then reportedMark s (.speed w) s.wheels[w].sensorState.isFault
    else s.faults.get (.speed w) := by
  have step (v : Fin 8) (t : State) : FaultsOnly t (if t.wheels[v].present then
      report (.speed v) t.wheels[v].sensorState.isFault t else t) := by
    split
    · exact (report_spec _ _ t).1
    · exact .refl t
  obtain ⟨u, reached, unmoved, -, last⟩ := forEach_at FaultsOnly .refl .trans step
    (fun t => t.faults.get (.speed w)) w (fun v t ne => by
      split
      · exact report_other (fun same => ne (FaultId.speed.inj same).symm) _ t
      · rfl) s
  have last : (reportSensors s).faults.get (.speed w) = _ := last
  rw [last, reached.wheels]
  split
  · exact report_mark_of_same unmoved (congrArg Device.faultMask reached.device) _
  · exact unmoved

theorem windowEnd_mark (now : Stamp) (lines : BitVec 8) (s : State) (w : Fin 8) :
    (windowEnd now lines s).faults.get (.speed w) = if s.wheels[w].present then
      reportedMark s (.speed w) (windowEnd now lines s).wheels[w].sensorState.isFault
    else s.faults.get (.speed w) := by
  have wheels : (windowEnd now lines s).wheels = (formed now lines s).wheels :=
    (reportSensors_faultsOnly _).wheels
  have present : (formed now lines s).wheels[w].present = s.wheels[w].present := by
    rw [← wheels, windowEnd_wheel]
    split <;> rfl
  rw [wheels, windowEnd_eq, reportSensors_mark, present]
  rfl

/-! ### The sensor state -/

/-- R38. -/
theorem noSignalNext_eq (established : Bool) (count speed : Nat) (bearing : Bool) (reference : Nat) :
    noSignalNext established count speed bearing reference =
      if established then
        (if speed = 0 then (true, 0)
        else if 100 ≤ count + 1 then (false, 0) else (true, count + 1))
      else if speed = 0 ∧ bearing = true ∧ 278 ≤ reference then
        (if 200 ≤ count + 1 then (true, 0) else (false, count + 1))
      else (false, 0) := by
  unfold noSignalNext
  refine if_congr Iff.rfl ?_ rfl
  rw [← ite_not]
  exact if_congr (by omega) rfl rfl

/-- R37. -/
theorem sensorStateOf_eq (enabled line quiet masked : Bool) : sensorStateOf enabled line quiet masked =
    if enabled = false then .disabled
    else if line = true ∧ masked = false then .openLine
    else if quiet = true ∧ masked = false then .noSignal
    else .ok := by
  cases enabled <;> cases line <;> cases quiet <;> cases masked <;> rfl

theorem SensorState.isFault_eq (x : SensorState) : x.isFault = (x == .openLine || x == .noSignal) := by
  cases x <;> rfl

theorem sampleSet_mark (now : Stamp) (lines : BitVec 8) (first : Bool) (s : State) (w : Fin 8) :
    (sampleSet now lines first s).faults.get (.speed w) = if s.wheels[w].present then
      reportedMark s (.speed w) (sampleSet now lines first s).wheels[w].sensorState.isFault
    else s.faults.get (.speed w) := by
  have state : (sampleSet now lines first s).wheels[w].sensorState
      = (windowEnd now lines s).wheels[w].sensorState := by
    rw [sampleSet_wheels, judgeWheels_wheel]
    split
    · rw [Wheel.judged_eq]
    · rfl
  rw [(sampleSet_sampled now lines first s).faults _ (fun _ => FaultId.noConfusion)
    fun _ => FaultId.noConfusion, windowEnd_mark, state]

section
variable (x : Wheel) (now : Stamp) (line down suspect masked : Bool) (reference : Nat)

theorem Wheel.close_quiet : ((x.close now line down suspect masked reference).noSignal,
    (x.close now line down suspect masked reference).noSignalCount) =
      if x.enabled = false ∨ line = true then (false, 0)
      else noSignalNext x.noSignal x.noSignalCount (windowSpeed x now).1 down reference :=
  if_congr (by cases x.enabled <;> simp) rfl rfl

theorem Wheel.close_sensorState : (x.close now line down suspect masked reference).sensorState =
    sensorStateOf x.enabled line (x.close now line down suspect masked reference).noSignal masked := rfl

theorem Wheel.close_valid : (x.close now line down suspect masked reference).valid = true ↔
    (x.close now line down suspect masked reference).sensorState = .ok ∧ down = true
      ∧ suspect = false := by
  rw [Wheel.close_sensorState]
  unfold Wheel.close
  dsimp only
  rw [Bool.and_eq_true, Bool.and_eq_true, beq_iff_eq, Bool.not_eq_true', and_assoc]

end

/-- Settles O26: row by row, and the report of the state. -/
theorem sensorStateAndValidity : Obligations.SensorStateAndValidity := by
  intro now lines first s running window
  refine ⟨_, exec_sampleSet_of_running running window now lines first, fun w existing => ?_,
    fun w absent => (sampleSet_mark now lines first s w).trans
      (if_neg (Bool.eq_false_iff.mp absent))⟩
  have whole := sampleSet_wheel_eq existing now lines first
  have mark := (sampleSet_mark now lines first s w).trans (if_pos existing)
  generalize sampleSet now lines first s = t at *
  intro x y axle line masked' down suspect quiet
  have bearing : axleDown s (axleOfWheel w) = down := congrArg (axle.present && ·) (isDown_eq _)
  have soft : speedSuspect s w = suspect := rfl
  have state : y = { x.close now line down suspect masked' s.device.referenceSpeed with
      slip := y.slip, deceleration := y.deceleration, wish := y.wish } := by
    rw [← bearing]
    exact whole
  have speed : y.speed = (windowSpeed x now).1 := by rw [state]; rfl
  have quiet_eq : (y.noSignal, y.noSignalCount) = quiet := by
    have closed := x.close_quiet now line down suspect masked' s.device.referenceSpeed
    rw [← speed, noSignalNext_eq] at closed
    rw [state]
    exact closed
  have signal : y.noSignal = quiet.1 := congrArg Prod.fst quiet_eq
  have shown : y.sensorState = sensorStateOf x.enabled line y.noSignal masked' := by
    rw [state]
    exact x.close_sensorState now line down suspect masked' s.device.referenceSpeed
  have valid : y.valid = true ↔ y.sensorState = .ok ∧ down = true ∧ suspect = false := by
    rw [state]
    exact x.close_valid now line down suspect masked' s.device.referenceSpeed
  refine ⟨quiet_eq, ?_, ?_, ?_, valid, ?_, ?_⟩
  · rw [shown, signal, sensorStateOf_eq]
  · rw [state]
    rfl
  · rw [state]
    rfl
  · rw [mark, ← SensorState.isFault_eq]
    rfl
  · exact (FaultMark.reported_spec rfl mark).2

end Sys2Proof.Machine
end

section
/-! The reference speed, the wheel edges and the frame of a sample set, and the anti-lock timers (O24, O27,
O30). -/

namespace Sys2Proof.Machine

/-! ### The reference speed -/

theorem max?_map_eq {α : Type} (f : α → Nat) (l : List α) : (l.map f).max? =
    if l = [] then none else some (l.foldl (fun v a => max v (f a)) 0) := by
  cases l with
  | nil => rfl
  | cons a l =>
    rw [if_neg (List.cons_ne_nil a l), List.map_cons, List.max?_cons', List.foldl_map,
      List.foldl_cons, Nat.zero_max]

/-- R44 to R46. -/
theorem Reference.next_eq (r : Reference) (l : List (Fin 8)) (top : Nat) :
    let after := r.next (if l = [] then none else some top)
    (after.speed, after.mode, after.count, after.lost) =
      if l = [] then
        match r.mode with
        | .seeking => (0, .seeking, 0, r.lost)
        | .tracking => (r.speed, .holding, 1, false)
        | .holding => if 50 ≤ r.count + 1 then (0, .seeking, 0, true)
          else (r.speed, .holding, r.count + 1, false)
      else
        match r.mode with
        | .seeking => (top, .tracking, 0, false)
        | .tracking | .holding => (max (r.speed - 12) (min (r.speed + 15) top), .tracking, 0, false) := by
  rcases r with ⟨speed, mode, count, lost⟩
  by_cases none : l = []
  · rw [if_pos none, if_pos none]
    cases mode with
    | seeking | tracking => rfl
    | holding =>
      dsimp only [Reference.next]
      split <;> rfl
  · rw [if_neg none, if_neg none]
    cases mode <;> rfl

theorem judgeWheels_capture (s : State) : (judgeWheels s).capture = s.capture := rfl

theorem sampleSet_capture (now : Stamp) (lines : BitVec 8) (first : Bool) (s : State) :
    (sampleSet now lines first s).capture = (windowEnd now lines s).capture := by
  cases first with
  | true =>
    rw [sampleSet_antiLock_first, (rolloverSample_monitorOnly _).capture,
      (antiLockSample_valveOnly _).capture, judgeWheels_capture]
  | false =>
    rw [sampleSet_antiLock_last, (antiLockSample_valveOnly _).capture, judgeWheels_capture,
      (rolloverSample_monitorOnly _).capture]

/-- R44: the wheel-ends that count for the reference speed. -/
def validWheels (s : State) : List (Fin 8) :=
  (List.finRange 8).filter fun w => s.wheels[w].present && s.wheels[w].valid

/-- R44: the largest of their speeds. -/
def topSpeed (s : State) : Nat := (validWheels s).foldl (fun v w => max v s.wheels[w].speed) 0

theorem candidateSpeed_eq (s : State) :
    candidateSpeed s = if validWheels s = [] then none else some (topSpeed s) :=
  max?_map_eq _ _

/-- R101: the judgement of the wheel-ends leaves what the reference speed is formed from. -/
theorem judgeWheels_valid (s : State) :
    validWheels (judgeWheels s) = validWheels s ∧ topSpeed (judgeWheels s) = topSpeed s := by
  have same (w : Fin 8) : (judgeWheels s).wheels[w].present = s.wheels[w].present
      ∧ (judgeWheels s).wheels[w].valid = s.wheels[w].valid
      ∧ (judgeWheels s).wheels[w].speed = s.wheels[w].speed := by
    rw [judgeWheels_wheel]
    split
    · rw [Wheel.judged_eq]
      exact ⟨rfl, rfl, rfl⟩
    · exact ⟨rfl, rfl, rfl⟩
  have list : validWheels (judgeWheels s) = validWheels s :=
    congrArg (fun p => (List.finRange 8).filter p) (funext fun w => by
      rw [(same w).1, (same w).2.1])
  refine ⟨list, ?_⟩
  unfold topSpeed
  rw [list]
  exact congrArg (fun f => (validWheels s).foldl f 0) (funext fun v => funext fun w => by
    rw [(same w).2.2])

theorem validWheels_congr {s t : State} (same : t.wheels = s.wheels) :
    validWheels t = validWheels s ∧ topSpeed t = topSpeed s := by
  unfold topSpeed validWheels
  rw [same]
  exact ⟨rfl, rfl⟩

/-- R44 to R46: what a window end writes of the reference speed. -/
theorem windowEnd_reference (now : Stamp) (lines : BitVec 8) (s : State) :
    let v := windowEnd now lines s
    Reference.mk v.device.referenceSpeed v.capture.mode v.capture.lostCount v.device.referenceLost
      = (Reference.mk s.device.referenceSpeed s.capture.mode s.capture.lostCount
        s.device.referenceLost).next
          (if validWheels v = [] then none else some (topSpeed v)) := by
  intro v
  have frame := reportSensors_faultsOnly (formed now lines s)
  have wheels : v.wheels = (closeWindows lines { s with
    capture := { s.capture with timestamp := now } }).wheels := frame.wheels
  obtain ⟨list, top⟩ := validWheels_congr wheels
  rw [list, top, ← candidateSpeed_eq, show v.device = _ from frame.device,
    show v.capture = _ from frame.capture]
  rfl

theorem sampleSet_reference (now : Stamp) (lines : BitVec 8) (first : Bool) (s : State) :
    let t := sampleSet now lines first s
    Reference.mk t.device.referenceSpeed t.capture.mode t.capture.lostCount t.device.referenceLost
      = (Reference.mk s.device.referenceSpeed s.capture.mode s.capture.lostCount
        s.device.referenceLost).next
          (if validWheels t = [] then none else some (topSpeed t)) := by
  intro t
  obtain ⟨list, top⟩ := validWheels_congr (sampleSet_wheels now lines first s)
  obtain ⟨list', top'⟩ := judgeWheels_valid (windowEnd now lines s)
  rw [show t.device = _ from sampleSet_device now lines first s,
    show t.capture = _ from sampleSet_capture now lines first s, list.trans list', top.trans top']
  exact windowEnd_reference now lines s

/-- R44 to R46, field by field. -/
theorem reference_fields {s t : State}
    (next : Reference.mk t.device.referenceSpeed t.capture.mode t.capture.lostCount
        t.device.referenceLost
      = (Reference.mk s.device.referenceSpeed s.capture.mode s.capture.lostCount
        s.device.referenceLost).next
          (if validWheels t = [] then none else some (topSpeed t))) :
    (t.device.referenceSpeed, t.capture.mode, t.capture.lostCount, t.device.referenceLost) =
      (if validWheels t = [] then
        match s.capture.mode with
        | .seeking => (0, .seeking, 0, s.device.referenceLost)
        | .tracking => (s.device.referenceSpeed, .holding, 1, false)
        | .holding => if 50 ≤ s.capture.lostCount + 1 then (0, .seeking, 0, true)
          else (s.device.referenceSpeed, .holding, s.capture.lostCount + 1, false)
      else
        match s.capture.mode with
        | .seeking => (topSpeed t, .tracking, 0, false)
        | .tracking | .holding => (max (s.device.referenceSpeed - 12)
          (min (s.device.referenceSpeed + 15) (topSpeed t)), .tracking, 0, false)) := by
  have fields := Reference.next_eq (Reference.mk s.device.referenceSpeed s.capture.mode
    s.capture.lostCount s.device.referenceLost) (validWheels t) (topSpeed t)
  dsimp only at fields
  rwa [← next] at fields

/-- Settles O27. -/
theorem referenceSpeedFollowsValidWheels : Obligations.ReferenceSpeedFollowsValidWheels := by
  intro now lines first s running window
  exact ⟨_, exec_sampleSet_of_running running window now lines first,
    reference_fields (sampleSet_reference now lines first s)⟩

/-! ### The wheel edges and the frame of SAMPLE_SET -/

theorem windowEnd_sampled (now : Stamp) (lines : BitVec 8) (s : State) :
    (∀ o : Fin 13, (windowEnd now lines s).outputs[o] = s.outputs[o])
      ∧ (windowEnd now lines s).axles = s.axles ∧ (windowEnd now lines s).channels = s.channels := by
  have frame := reportSensors_faultsOnly (formed now lines s)
  have outputs : (windowEnd now lines s).outputs = s.outputs := frame.outputs
  exact ⟨fun o => congrArg (·[o]) outputs, frame.axles, frame.channels⟩

/-- What a window end leaves of every block but the Speed Capture Unit. -/
structure Untimed (s t : State) : Prop where
  pending : t.pending = s.pending
  analog : t.analog = s.analog
  loadUnit : t.loadUnit = s.loadUnit
  tyres : t.tyres = s.tyres
  receiver : t.receiver = s.receiver
  supervisor : t.supervisor = s.supervisor
  link : t.link = { s.link with
    faultPending := t.link.faultPending, rolloverPending := t.link.rolloverPending }

theorem Untimed.trans {s t u : State} (h : Untimed s t) (k : Untimed t u) : Untimed s u where
  pending := k.pending.trans h.pending
  analog := k.analog.trans h.analog
  loadUnit := k.loadUnit.trans h.loadUnit
  tyres := k.tyres.trans h.tyres
  receiver := k.receiver.trans h.receiver
  supervisor := k.supervisor.trans h.supervisor
  link := by rw [k.link, h.link]

theorem MonitorOnly.untimed {s t : State} (h : MonitorOnly s t) : Untimed s t :=
  ⟨h.pending, h.analog, h.loadUnit, h.tyres, h.receiver, h.supervisor, h.link⟩

theorem ValveOnly.untimed {s t : State} (h : ValveOnly s t) : Untimed s t :=
  ⟨h.pending, h.analog, h.loadUnit, h.tyres, h.receiver, h.supervisor, by rw [h.link]⟩

theorem formed_untimed (now : Stamp) (lines : BitVec 8) (s : State) :
    Untimed s (formed now lines s) := ⟨rfl, rfl, rfl, rfl, rfl, rfl, rfl⟩

theorem antiLockSample_untimed (s : State) : Untimed s (antiLockSample s) :=
  Untimed.trans (t := judgeWheels s) ⟨rfl, rfl, rfl, rfl, rfl, rfl, rfl⟩
    (antiLockSample_valveOnly s).untimed

theorem sampleSet_untimed (now : Stamp) (lines : BitVec 8) (first : Bool) (s : State) :
    Untimed s (sampleSet now lines first s) := by
  have closed : Untimed s (windowEnd now lines s) :=
    (formed_untimed now lines s).trans (reportSensors_valveOnly _).untimed
  cases first with
  | true =>
    rw [sampleSet_antiLock_first]
    exact (closed.trans (antiLockSample_untimed _)).trans (rolloverSample_monitorOnly _).untimed
  | false =>
    rw [sampleSet_antiLock_last]
    exact (closed.trans (rolloverSample_monitorOnly _).untimed).trans (antiLockSample_untimed _)

theorem windowEnd_capture (now : Stamp) (lines : BitVec 8) (s : State) :
    (windowEnd now lines s).capture.timestamp = now
      ∧ (windowEnd now lines s).capture.windowTimer = s.capture.windowTimer := by
  rw [windowEnd_eq, (reportSensors_valveOnly _).capture]
  exact ⟨rfl, rfl⟩

/-- Settles O24. -/
theorem wheelEdgesAndSampleSetOrder : Obligations.WheelEdgesAndSampleSetOrder := by
  refine ⟨fun w now s running => ?_, fun now lines first s running window => ?_⟩
  · refine congrArg Host.Outcome.next ((whileRunning_of_running running).trans ?_)
    by_cases standing : s.wheels[w].present = true
    · refine (if_pos standing).trans ?_
      rw [if_pos standing]
      rfl
    · refine (if_neg standing).trans ?_
      rw [if_neg standing]
  · have ran := exec_sampleSet_of_running running window now lines first
    refine ⟨ran, fun t same => ?_⟩
    have sampled := sampleSet_sampled now lines first s
    have rest := sampleSet_untimed now lines first s
    have device := sampleSet_device now lines first s
    have capture := sampleSet_capture now lines first s
    obtain ⟨outputs, axles, channels⟩ := windowEnd_sampled now lines s
    obtain ⟨time, timer⟩ := windowEnd_capture now lines s
    have whole : (sampleSet now lines first s).device = { s.device with
        referenceSpeed := (sampleSet now lines first s).device.referenceSpeed
        referenceLost := (sampleSet now lines first s).device.referenceLost } := by
      rw [device]
      exact windowEnd_device now lines s
    obtain rfl : sampleSet now lines first s = t := Host.Outcome.next.inj (ran.symm.trans same)
    refine ⟨rest.pending, rest.analog, rest.loadUnit, rest.tyres, rest.receiver, rest.supervisor, ?_, ?_,
      whole, rest.link, fun o ne => (sampled.outputs o ne).trans (outputs o), fun a => ?_, fun c => ?_⟩
    · rw [capture, time]
    · rw [capture, timer]
    · have axle := sampled.axles a
      rw [axles] at axle
      exact axle
    · have channel := sampled.channels c
      rw [channels] at channel
      exact channel

/-! ### The anti-lock timers -/

/-- Settles O30. -/
theorem holdAndStepTimersExpire : Obligations.HoldAndStepTimersExpire := by
  intro c s running
  refine ⟨fun timer hold => ?_, fun timer reapply => ?_, fun stopped => ?_, fun stopped => ?_⟩
  · refine congrArg Host.Outcome.next ((whileRunning_of_running running).trans
      ((if_pos timer).trans ?_))
    rw [if_pos hold, arbitrate_setChannel]
    rfl
  · refine congrArg Host.Outcome.next ((whileRunning_of_running running).trans
      ((if_pos timer).trans ?_))
    rw [if_pos reapply, arbitrate_setChannel]
    rfl
  · refine congrArg Host.Outcome.next ((whileRunning_of_running running).trans (if_neg ?_))
    rw [stopped]
    exact Bool.false_ne_true
  · refine congrArg Host.Outcome.next ((whileRunning_of_running running).trans (if_neg ?_))
    rw [stopped]
    exact Bool.false_ne_true

end Sys2Proof.Machine
end

section
/-! The Anti-Lock Unit at a sample set (O29). -/

namespace Sys2Proof.Machine

/-! ### The conditions of a channel's step -/

theorem antiLockRuns_iff (s : State) (c : Fin 4) : antiLockRuns s c = true ↔
    (s.device.state = .active ∨ s.device.state = .waitRelease)
      ∧ (s.device.braking = true ∨ 0 < s.channels[c].rolloverRequest)
      ∧ 150 ≤ s.device.referenceSpeed ∧ countedWheels s c ≠ [] := by
  unfold antiLockRuns
  simp [inControl_iff, and_assoc]

theorem selectsRelease_iff (s : State) (c : Fin 4) : selectsRelease s c = true ↔
    if s.channels[c].policy = .selectLow then ∃ w ∈ countedWheels s c, s.wheels[w].wish = .release
    else ∀ w ∈ countedWheels s c, s.wheels[w].wish = .release := by
  unfold selectsRelease
  cases s.channels[c].policy with
  | selectLow => simp
  | selectHigh => simp

theorem slipsSettled_iff (s : State) (c : Fin 4) : slipsSettled s c = true ↔
    ∀ w ∈ countedWheels s c, s.wheels[w].slip ≠ none ∧ s.wheels[w].slip.getD 0 < 51 := by
  unfold slipsSettled
  rw [List.all_eq_true]
  refine forall_congr' fun w => forall_congr' fun _ => ?_
  cases s.wheels[w].slip <;> simp

/-! ### A channel's step within the sample set -/

theorem antiLockChannel_eq (c : Fin 4) (s : State) : antiLockChannel c s =
    if s.channels[c].present then s.setChannel c (s.channels[c].antiLockStep (antiLockRuns s c)
      (selectsRelease s c) (slipsSettled s c)).arbitrate else s := by
  unfold antiLockChannel
  rw [arbitrate_setChannel]

theorem antiLockChannel_channel_ne {c d : Fin 4} (ne : d ≠ c) (s : State) :
    (antiLockChannel c s).channels[d] = s.channels[d] := by
  rw [antiLockChannel_eq]
  split
  · exact State.setChannel_get_ne _ _ _ _ ne
  · rfl

/-- The step reads its channel, the WHEEL records and the DEVICE record. -/
theorem antiLockChannel_congr {c : Fin 4} {s t : State} (h : ValveOnly s t)
    (channel : t.channels[c] = s.channels[c]) :
    (antiLockChannel c t).channels[c] = (antiLockChannel c s).channels[c] := by
  have counted : countedWheels t c = countedWheels s c := by
    unfold countedWheels
    rw [h.wheels]
  have runs : antiLockRuns t c = antiLockRuns s c := by
    unfold antiLockRuns inControl
    rw [counted, h.device, channel]
  have release : selectsRelease t c = selectsRelease s c := by
    unfold selectsRelease
    rw [counted, h.wheels, channel]
  have settled : slipsSettled t c = slipsSettled s c := by
    unfold slipsSettled
    rw [counted, h.wheels]
  rw [antiLockChannel_eq, antiLockChannel_eq, runs, release, settled, channel]
  split
  · rw [State.setChannel_get_self, State.setChannel_get_self]
  · exact channel

theorem antiLockSample_channel (s : State) (c : Fin 4) : (antiLockSample s).channels[c]
    = (antiLockChannel c (judgeWheels s)).channels[c] := by
  obtain ⟨u, reached, unmoved, -, last⟩ := forEach_at ValveOnly .refl .trans antiLockChannel_valveOnly
    (fun t => t.channels[c]) c (fun d t ne => antiLockChannel_channel_ne ne.symm t) (judgeWheels s)
  exact last.trans (antiLockChannel_congr reached unmoved)

/-- R111: the anti-lock state of a channel and what it sets. -/
def Channel.antiLockPart (x : Channel) : AntiLockState × Option Nat × Timer × Timer × Nat :=
  (x.antiLock, x.cap, x.holdTimer, x.stepTimer, x.releaseCount)

theorem monitorClosed_antiLockPart (c : Fin 4) (p : AntiLockState × Option Nat × Timer × Timer × Nat) :
    MonitorClosed fun t => t.channels[c].antiLockPart = p where
  record _ h := h
  event h := h
  lowering {s} h := by rw [forceLowering_channels]; exact h
  request {s} v d h := by
    by_cases same : c = d
    · subst same
      rw [handRequest_get_self, Channel.handed]
      split <;> exact h
    · rw [handRequest_get_ne same]
      exact h

theorem antiLockPart_rolloverSample {c : Fin 4} {s : State} {x : Channel}
    (same : s.channels[c] = x) : (rolloverSample s).channels[c].antiLockPart = x.antiLockPart :=
  (monitorClosed_antiLockPart c x.antiLockPart).rolloverSample (congrArg Channel.antiLockPart same)

/-- R101, R107: the step of a channel within a sample set that the Anti-Lock Unit takes first. -/
theorem sampleSet_step_first (now : Stamp) (lines : BitVec 8) (c : Fin 4) (s : State) :
    (sampleSet now lines true s).channels[c].antiLockPart
      = (antiLockChannel c (judgeWheels (windowEnd now lines s))).channels[c].antiLockPart := by
  rw [sampleSet_antiLock_first]
  exact antiLockPart_rolloverSample (antiLockSample_channel (windowEnd now lines s) c)

/-- R101, R107: the step of a channel within a sample set that the Anti-Lock Unit takes last. -/
theorem sampleSet_step_last (now : Stamp) (lines : BitVec 8) (c : Fin 4) (s : State) :
    (sampleSet now lines false s).channels[c]
      = (antiLockChannel c (judgeWheels (rolloverSample (windowEnd now lines s)))).channels[c] := by
  rw [sampleSet_antiLock_last]
  exact antiLockSample_channel (rolloverSample (windowEnd now lines s)) c

theorem Channel.antiLockPart_eq_iff (x y : Channel) : x.antiLockPart = y.antiLockPart ↔
    x.antiLock = y.antiLock ∧ x.cap = y.cap ∧ x.holdTimer = y.holdTimer ∧ x.stepTimer = y.stepTimer
      ∧ x.releaseCount = y.releaseCount := by
  simp only [Channel.antiLockPart, Prod.mk.injEq]

theorem Channel.antiLockPart_answers {x y : Channel} {p : Prop} (part : x.antiLockPart = y.antiLockPart)
    (whole : p → x = y) : x.antiLock = y.antiLock ∧ x.cap = y.cap ∧ x.holdTimer = y.holdTimer
      ∧ x.stepTimer = y.stepTimer ∧ x.releaseCount = y.releaseCount ∧ (p → x = y) := by
  obtain ⟨state, cap, hold, step, count⟩ := (Channel.antiLockPart_eq_iff x y).mp part
  exact ⟨state, cap, hold, step, count, whole⟩

/-- Settles O29: the step by its conditions, and the step within either order. -/
theorem antiLockStepsAtSampleSet : Obligations.AntiLockStepsAtSampleSet := by
  refine ⟨fun c s => ?_, fun now lines first c s => ⟨rfl, fun running window => ?_⟩⟩
  · intro x counted runs release settled u off follow released hold reapply
    have runs_iff : antiLockRuns s c = true ↔ runs := antiLockRuns_iff s c
    have release_iff : selectsRelease s c = true ↔ release := selectsRelease_iff s c
    have settled_iff : slipsSettled s c = true ↔ settled := slipsSettled_iff s c
    refine (antiLockChannel_eq c s).trans (if_congr Iff.rfl ?_ rfl)
    refine congrArg (fun y : Channel => s.setChannel c y.arbitrate) (if_congr runs_iff ?_ rfl)
    cases x.antiLock with
    | off | follow | release => exact if_congr release_iff rfl rfl
    | hold => exact if_congr release_iff rfl (if_congr settled_iff rfl rfl)
    | reapply => exact if_congr release_iff rfl rfl
  · refine ⟨_, exec_sampleSet_of_running running window now lines first, ?_⟩
    intro taken judged
    have last (h : first = false) : judged = judgeWheels (rolloverSample taken) :=
      congrArg judgeWheels (if_neg (by rw [h]; exact Bool.false_ne_true))
    have ahead (h : first = true) : judged = judgeWheels taken :=
      congrArg judgeWheels (if_pos h)
    clear_value judged
    have whole (h : first = false) : (sampleSet now lines first s).channels[c]
        = (antiLockChannel c judged).channels[c] := by
      rw [last h, h]
      exact sampleSet_step_last now lines c s
    refine Channel.antiLockPart_answers ?_ whole
    cases h : first with
    | true =>
      rw [ahead h]
      exact sampleSet_step_first now lines c s
    | false =>
      rw [h] at whole
      exact congrArg Channel.antiLockPart (whole rfl)

end Sys2Proof.Machine
end

section
/-! The Rollover Monitor's first stages: OFF, DEGRADED and the estimate (O31, O32). -/

namespace Sys2Proof.Machine

/-! ### What the Rollover Monitor's operations leave -/

theorem handRequest_channelsOnly (v : Nat) (c : Fin 4) (s : State) :
    ChannelsOnly s (handRequest v c s) := by
  unfold handRequest
  split
  · rw [arbitrate_setChannel]
    rfl
  · rfl

/-- R131: beside the channels and the level, a request to all leaves the state. -/
theorem handAll_eq (v : Nat) (s : State) : handAll v s = { s with
    rollover := { s.rollover with level := v }, channels := (handAll v s).channels } :=
  (forEach_rel ChannelsOnly .refl .trans (handRequest_channelsOnly v) (s.setRollover
    { s.rollover with level := v }) :)

theorem handAll_channel_of_present {v : Nat} {s : State} {c : Fin 4}
    (standing : s.channels[c].present = true) : (handAll v s).channels[c]
      = ({ s.channels[c] with rolloverRequest := v } : Channel).arbitrate := by
  rw [handAll_channel, Channel.handed, if_pos standing]

/-- R124, R126: the end of a test, if one is running. -/
def Rollover.tested (r : Rollover) (result : TestResult) : Rollover :=
  { r with
    testResult := if r.state = .test then result else r.testResult
    testTimer := if r.state = .test then none else r.testTimer
    spacingTimer := if r.state = .test then some 1000000 else r.spacingTimer }

theorem endTest_eq (result : TestResult) (s : State) :
    endTest result s = s.setRollover (s.rollover.tested result) := by
  unfold endTest Rollover.tested
  by_cases test : s.rollover.state = .test
  · simp only [if_pos test]
    rfl
  · simp only [if_neg test]
    rfl

/-- R116, R117: the record of a monitor that has withdrawn. -/
def Rollover.withdrawn (r : Rollover) (next : RolloverState) : Rollover :=
  { r.tested .noResult with
    state := next, raw := none, axle := none, testTimer := none, minTimer := none, rampTimer := none
    level := 0 }

theorem withdraw_eq (next : RolloverState) (s : State) : withdraw next s = { s with
    rollover := s.rollover.withdrawn next, channels := (withdraw next s).channels } := by
  unfold withdraw
  rw [endTest_eq]
  exact handAll_eq 0 _

theorem withdraw_channel {next : RolloverState} {s : State} {c : Fin 4}
    (standing : s.channels[c].present = true) : (withdraw next s).channels[c]
      = ({ s.channels[c] with rolloverRequest := 0 } : Channel).arbitrate := by
  unfold withdraw
  rw [endTest_eq]
  exact handAll_channel_of_present standing

theorem withdraw_link (next : RolloverState) (s : State) : (withdraw next s).link = s.link :=
  (congrArg State.link (withdraw_eq next s)).trans rfl

theorem withdraw_rollover (next : RolloverState) (s : State) :
    (withdraw next s).rollover = s.rollover.withdrawn next :=
  (congrArg State.rollover (withdraw_eq next s)).trans rfl

/-- R116: the record, the requests and the ROLLOVER source after the monitor has gone OFF. -/
theorem enterOff_of_not_off {s : State} (notOff : s.rollover.state ≠ .off) :
    (enterOff s).rollover = s.rollover.withdrawn .off
      ∧ (enterOff s).channels = (withdraw .off s).channels
      ∧ (enterOff s).link.rolloverPending
        = (s.link.rolloverPending || s.rollover.state == .degraded) := by
  have link := withdraw_link .off s
  have rollover := withdraw_rollover .off s
  unfold enterOff raiseRollover
  rw [if_neg notOff]
  by_cases degraded : s.rollover.state = .degraded
  · rw [if_pos degraded, degraded]
    exact ⟨rollover, rfl, (Bool.or_true _).symm⟩
  · rw [if_neg degraded, beq_eq_false_iff_ne.mpr degraded, Bool.or_false]
    exact ⟨rollover, rfl, congrArg Link.rolloverPending link⟩

theorem raiseRollover_rollover (s : State) : (raiseRollover s).rollover = s.rollover := rfl

theorem raiseRollover_channels (s : State) : (raiseRollover s).channels = s.channels := rfl

theorem raiseRollover_pending (s : State) : (raiseRollover s).link.rolloverPending = true := rfl

/-- R117: the record, the requests and the ROLLOVER source after the monitor has become DEGRADED. -/
theorem enterDegraded_spec (s : State) :
    (enterDegraded s).rollover = s.rollover.withdrawn .degraded
      ∧ (enterDegraded s).channels = (withdraw .degraded s).channels
      ∧ (enterDegraded s).link.rolloverPending = true := by
  unfold enterDegraded
  rw [raiseRollover_rollover, raiseRollover_channels, raiseRollover_pending, withdraw_rollover]
  exact ⟨rfl, rfl, rfl⟩

/-! ### The first two stages -/

/-- R117: the condition is noted before anything else. -/
def noticed (s : State) : State :=
  s.setRollover { s.rollover with degradedSeen := degradedCondition s }

/-- R116, R117: the first two stages of a sample set. -/
def staged (s : State) : State := applyOffAndDegraded (degradedCondition s) (noticed s)

/-- R115: the fifth stage, by the state that the first two leave. -/
def followed (degraded : Bool) (t : State) : State :=
  match t.rollover.state with
  | .off => t
  | .degraded => t
  | .monitor => monitorRule (estimate t)
  | .alert => alertRule (estimate t)
  | .test => testRule (estimate t)
  | .intervene => interveneRule degraded (estimate t)
  | .recover => recoverRule degraded (estimate t)

theorem rolloverSample_eq (s : State) :
    rolloverSample s = followed (degradedCondition s) (staged s) := rfl

theorem followed_of_off {t : State} (off : t.rollover.state = .off) (degraded : Bool) :
    followed degraded t = t := by rw [followed, off]

theorem followed_of_degraded {t : State} (state : t.rollover.state = .degraded) (degraded : Bool) :
    followed degraded t = t := by rw [followed, state]

/-- R116: what takes the monitor to OFF. -/
def tooSlow (s : State) : Prop :=
  (s.device.state ≠ .active ∧ s.device.state ≠ .waitRelease)
    ∨ s.device.referenceSpeed < 556 ∧ s.rollover.state ≠ .intervene ∧ s.rollover.state ≠ .recover

theorem tooSlow_iff (s : State) : (!inControl s
    || (decide (s.device.referenceSpeed < 556) && !s.rollover.state.intervening)) = true ↔ tooSlow s := by
  have out : (!inControl s) = true ↔ s.device.state ≠ .active ∧ s.device.state ≠ .waitRelease := by
    rw [Bool.not_eq_true', ← Bool.not_eq_true, inControl_iff, not_or]
  have calm : (!s.rollover.state.intervening) = true
      ↔ s.rollover.state ≠ .intervene ∧ s.rollover.state ≠ .recover := by
    cases s.rollover.state <;> simp [RolloverState.intervening]
  rw [Bool.or_eq_true, Bool.and_eq_true, out, calm, decide_eq_true_eq, tooSlow]

theorem staged_of_slow {s : State} (slow : tooSlow s) : staged s = enterOff (noticed s) :=
  if_pos ((tooSlow_iff s).mpr slow)

theorem staged_of_not_slow {s : State} (notSlow : ¬tooSlow s) : staged s =
    match s.rollover.state with
    | .off => if degradedCondition s then enterDegraded (noticed s) else enterMonitor (noticed s)
    | .degraded => if degradedCondition s then noticed s else enterMonitor (noticed s)
    | .monitor | .alert | .test =>
      if degradedCondition s then enterDegraded (noticed s) else noticed s
    | .intervene | .recover => noticed s := by
  refine (if_neg (mt (tooSlow_iff s).mp notSlow)).trans ?_
  have same : (noticed s).rollover.state = s.rollover.state := rfl
  rw [same] <;> cases s.rollover.state <;> rfl

/-- R117: a DEGRADED condition. -/
theorem degradedCondition_iff (s : State) : degradedCondition s = true ↔
    (∀ a : Fin 4, ¬((s.axles[a].present = true
          ∧ (s.axles[a].liftState = .down ∨ s.axles[a].liftState = .notLiftable))
        ∧ s.wheels[wheelOf a .left].valid = true ∧ s.wheels[wheelOf a .right].valid = true))
      ∨ s.faults.demand.present = true ∨ s.faults.demand.latched = true
      ∨ ∀ c : Fin 4, s.channels[c].present = true → s.channels[c].state = .fallback := by
  have none : (estimatingAxle s == none) = true ↔
      ∀ a : Fin 4, ¬((s.axles[a].present = true
          ∧ (s.axles[a].liftState = .down ∨ s.axles[a].liftState = .notLiftable))
        ∧ s.wheels[wheelOf a .left].valid = true ∧ s.wheels[wheelOf a .right].valid = true) := by
    rw [beq_iff_eq, estimatingAxle, List.find?_eq_none]
    simp only [axleDown, isDown_eq, Bool.and_eq_true, Bool.or_eq_true, beq_iff_eq, List.mem_finRange,
      forall_const, and_assoc]
  have all : ((List.finRange 4).all fun c =>
      !s.channels[c].present || s.channels[c].state == .fallback) = true ↔
        ∀ c : Fin 4, s.channels[c].present = true → s.channels[c].state = .fallback := by
    rw [List.all_eq_true]
    refine forall_congr' fun c => ?_
    simp only [List.mem_finRange, forall_const]
    cases s.channels[c].present <;> simp
  rw [degradedCondition, Bool.or_eq_true, Bool.or_eq_true, none, all, faulty_iff, or_assoc, or_assoc]
  rfl

theorem monitorClosed_pending : MonitorClosed fun t => t.link.rolloverPending = true where
  record _ h := h
  event _ := rfl
  lowering h := by rw [(forceLowering_liftOnly _).link]; exact h
  request v c h := by rw [handRequest_channelsOnly v c _]; exact h

/-- R116, R117: a monitor that asks for nothing any more, its record as named. -/
theorem withdrawn_answers {s t : State} {r : Rollover} {next : RolloverState}
    (rollover : t.rollover = r.withdrawn next) (channels : t.channels = (withdraw next s).channels) :
    t.rollover = { r with
          state := next, raw := none, axle := none, testTimer := none, minTimer := none
          rampTimer := none, level := 0
          testResult := if r.state = .test then .noResult else r.testResult
          spacingTimer := if r.state = .test then some 1000000 else r.spacingTimer }
      ∧ ∀ c : Fin 4, s.channels[c].present = true →
        t.channels[c] = ({ s.channels[c] with rolloverRequest := 0 } : Channel).arbitrate := by
  refine ⟨rollover, fun c standing => ?_⟩
  rw [channels]
  exact withdraw_channel standing

/-- Settles O31: stage by stage. -/
theorem rolloverStandsDown : Obligations.RolloverStandsDown := by
  intro s t r v slow down degraded quiet
  have seen : decide degraded = degradedCondition s := by
    rw [Bool.eq_iff_iff, decide_eq_true_iff]
    exact (degradedCondition_iff s).symm
  have condition : degradedCondition s = true ↔ degraded := degradedCondition_iff s
  have sampled : t = followed (degradedCondition s) (staged s) := rolloverSample_eq s
  clear_value t
  have answers {next : RolloverState} (rollover : t.rollover = (noticed s).rollover.withdrawn next)
      (channels : t.channels = (withdraw next (noticed s)).channels) : quiet next := by
    obtain ⟨record, requests⟩ := withdrawn_answers rollover channels
    refine ⟨record.trans ?_, requests⟩
    rw [seen]
    rfl
  refine ⟨fun isSlow notOff => ?_, fun isSlow off => ?_, fun notSlow bad state => ?_,
    fun notSlow bad state => ?_, fun notSlow good state => ?_⟩
  · obtain ⟨rollover, channels, pending⟩ := enterOff_of_not_off (s := noticed s) notOff
    rw [← staged_of_slow isSlow] at rollover channels pending
    rw [followed_of_off (congrArg Rollover.state rollover)] at sampled
    rw [← sampled] at rollover channels pending
    exact ⟨answers rollover channels, pending⟩
  · have stays : staged s = noticed s := (staged_of_slow isSlow).trans (if_pos off)
    rw [sampled, stays, followed_of_off (t := noticed s) off, seen]
    rfl
  · have entered : staged s = enterDegraded (noticed s) := by
      rw [staged_of_not_slow notSlow, condition.mpr bad]
      obtain h | h | h | h := state <;> rw [show s.rollover.state = _ from h] <;> rfl
    obtain ⟨rollover, channels, pending⟩ := enterDegraded_spec (noticed s)
    rw [← entered] at rollover channels pending
    rw [followed_of_degraded (congrArg Rollover.state rollover)] at sampled
    rw [← sampled] at rollover channels pending
    exact ⟨answers rollover channels, pending⟩
  · have stays : staged s = noticed s := by
      rw [staged_of_not_slow notSlow, condition.mpr bad, show s.rollover.state = _ from state]
      rfl
    rw [sampled, stays, followed_of_degraded (t := noticed s) state, noticed, condition.mpr bad]
    rfl
  · have entered : staged s = enterMonitor (noticed s) := by
      rw [staged_of_not_slow notSlow, Bool.eq_false_iff.mpr (mt condition.mp good),
        show s.rollover.state = _ from state]
      rfl
    have raised : (enterMonitor (noticed s)).link.rolloverPending = true := by
      unfold enterMonitor
      dsimp only
      rw [if_pos (show (noticed s).rollover.state = .degraded from state)]
      rfl
    have monitor : (enterMonitor (noticed s)).rollover.state = .monitor := by
      unfold enterMonitor
      dsimp only
      split <;> rfl
    rw [sampled, entered, followed, monitor]
    exact monitorClosed_pending.monitorRule (monitorClosed_pending.estimate raised)

end Sys2Proof.Machine
end

section
/-! The Rollover Monitor's estimate, and what its rules do with it (O32 to O35). -/

namespace Sys2Proof.Machine

/-! ### The entries -/

/-- Every existing channel is handed the request. -/
def Channel.allHanded (channels : Vector Channel 4) (v : Fin 4 → Nat) : Vector Channel 4 :=
  Vector.ofFn fun c => channels[c].handed (v c)

theorem Channel.allHanded_get (channels : Vector Channel 4) (v : Fin 4 → Nat) (c : Fin 4) :
    (Channel.allHanded channels v)[c] = channels[c].handed (v c) := by
  simp [Channel.allHanded]

theorem handRequests_eq {v : Fin 4 → State → Nat} {w : Fin 4 → Nat} {s : State}
    (same : ∀ c t, HandedOnly s t → v c t = w c) :
    forEach 4 (fun c s => handRequest (v c s) c s) s
      = { s with channels := Channel.allHanded s.channels w } := by
  have only : ChannelsOnly s (forEach 4 (fun c s => handRequest (v c s) c s) s) :=
    forEach_rel ChannelsOnly .refl .trans (fun c t => handRequest_channelsOnly (v c t) c t) s
  have channels : (forEach 4 (fun c s => handRequest (v c s) c s) s).channels
      = Channel.allHanded s.channels w := by
    refine Vector.ext fun i below => ?_
    have here := (handRequests_channel same ⟨i, below⟩).trans
      (Channel.allHanded_get s.channels w ⟨i, below⟩).symm
    exact here
  rw [show forEach 4 _ s = _ from only, channels]

theorem handAll_whole (v : Nat) (s : State) : handAll v s = { s with
    rollover := { s.rollover with level := v }
    channels := Channel.allHanded s.channels fun _ => v } :=
  handRequests_eq (s := s.setRollover { s.rollover with level := v }) fun _ _ _ => rfl

/-- R128: the record of a monitor that has entered INTERVENE. -/
def Rollover.intervened (r : Rollover) : Rollover :=
  { r with
    state := .intervene
    inner := if r.state = .monitor ∨ r.state = .alert then innerSide r.filtered r.inner else r.inner
    interventions := min 255 (r.interventions + 1)
    minTimer := some 500000
    calm := 0
    rampTimer := none
    level := r.pRoll }

theorem enterIntervene_eq (s : State) : enterIntervene s = { s with
    rollover := s.rollover.intervened
    channels := Channel.allHanded s.channels fun _ => s.rollover.pRoll
    link := { s.link with rolloverPending := true } } := by
  unfold enterIntervene raiseRollover
  dsimp only
  rw [handAll_whole]
  unfold Rollover.intervened
  cases s.rollover.state <;> rfl

/-- R125: the record of a monitor that has entered TEST. -/
def Rollover.testing (r : Rollover) : Rollover :=
  { r with
    state := .test
    inner := innerSide r.filtered r.inner
    level := r.pTest
    testResult := .noResult
    tests := min 255 (r.tests + 1)
    testTimer := some 400000 }

/-- R125: the request of a side channel at the start of a test. -/
def Rollover.testShare (r : Rollover) (side : ChannelSide) : Nat :=
  if innerSide r.filtered r.inner = some .left ∧ side = .left
      ∨ innerSide r.filtered r.inner = some .right ∧ side = .right then r.pTest else 0

theorem enterTest_eq (s : State) : enterTest s = { s with
    rollover := s.rollover.testing
    channels := Channel.allHanded s.channels fun c => s.rollover.testShare s.channels[c].side } := by
  refine handRequests_eq (s := s.setRollover s.rollover.testing)
    (v := fun c t => testRequest t (innerSide s.rollover.filtered s.rollover.inner) c)
    fun c t same => ?_
  have side : t.channels[c].side = s.channels[c].side := same.sides c
  have share : t.rollover.pTest = s.rollover.pTest := (congrArg Rollover.pTest same.rollover).trans rfl
  unfold testRequest Rollover.testShare
  rw [side, share]
  cases innerSide s.rollover.filtered s.rollover.inner with
  | none => simp
  | some side => cases side <;> simp [ChannelSide.isOn_iff]

/-! ### The rules leave the estimate -/

/-- R118 to R122: what a sample set estimates. -/
structure SameEstimate (r x : Rollover) : Prop where
  axle : x.axle = r.axle
  raw : x.raw = r.raw
  filtered : x.filtered = r.filtered
  threshold : x.threshold = r.threshold
  alertLevel : x.alertLevel = r.alertLevel
  degradedSeen : x.degradedSeen = r.degradedSeen

theorem SameEstimate.refl (r : Rollover) : SameEstimate r r := ⟨rfl, rfl, rfl, rfl, rfl, rfl⟩

theorem SameEstimate.trans {r x y : Rollover} (h : SameEstimate r x) (k : SameEstimate x y) :
    SameEstimate r y :=
  ⟨k.axle.trans h.axle, k.raw.trans h.raw, k.filtered.trans h.filtered, k.threshold.trans h.threshold,
    k.alertLevel.trans h.alertLevel, k.degradedSeen.trans h.degradedSeen⟩

theorem enterIntervene_sameEstimate (s : State) :
    SameEstimate s.rollover (enterIntervene s).rollover := by
  rw [enterIntervene_eq]
  exact ⟨rfl, rfl, rfl, rfl, rfl, rfl⟩

theorem endTest_sameEstimate (result : TestResult) (s : State) :
    SameEstimate s.rollover (endTest result s).rollover := by
  rw [endTest_eq]
  exact ⟨rfl, rfl, rfl, rfl, rfl, rfl⟩

theorem alertRule_sameEstimate (s : State) : SameEstimate s.rollover (alertRule s).rollover := by
  unfold alertRule
  refine keeps_ite (P := fun t => SameEstimate s.rollover t.rollover)
    (fun _ => enterIntervene_sameEstimate s) fun _ => ?_
  refine keeps_ite (P := fun t => SameEstimate s.rollover t.rollover)
    (fun _ => ⟨rfl, rfl, rfl, rfl, rfl, rfl⟩) fun _ => ?_
  refine keeps_ite (P := fun t => SameEstimate s.rollover t.rollover) (fun _ => ?_) fun _ => .refl _
  rw [enterTest_eq]
  exact ⟨rfl, rfl, rfl, rfl, rfl, rfl⟩

theorem forceLowering_rollover (s : State) : (forceLowering s).rollover = s.rollover :=
  (forceLowering_liftOnly s).rollover

theorem monitorRule_sameEstimate (s : State) : SameEstimate s.rollover (monitorRule s).rollover := by
  unfold monitorRule
  refine keeps_ite (P := fun t => SameEstimate s.rollover t.rollover) (fun _ => ?_) fun _ =>
    keeps_ite (P := fun t => SameEstimate s.rollover t.rollover) (fun _ => ?_) fun _ => .refl _
  · have entered := enterIntervene_sameEstimate (forceLowering s)
    rwa [forceLowering_rollover] at entered
  · have ruled := alertRule_sameEstimate
      (forceLowering (s.setRollover { s.rollover with state := .alert }))
    rw [forceLowering_rollover] at ruled
    exact ⟨ruled.axle, ruled.raw, ruled.filtered, ruled.threshold, ruled.alertLevel,
      ruled.degradedSeen⟩

theorem testRule_sameEstimate (s : State) : SameEstimate s.rollover (testRule s).rollover :=
  keeps_ite (P := fun t => SameEstimate s.rollover t.rollover)
    (fun _ => (endTest_sameEstimate _ s).trans (enterIntervene_sameEstimate _)) fun _ =>
      keeps_ite (P := fun t => SameEstimate s.rollover t.rollover)
        (fun _ => (endTest_sameEstimate _ s).trans (enterIntervene_sameEstimate _)) fun _ => .refl _

theorem interveneRule_sameEstimate (degraded : Bool) (s : State) :
    SameEstimate s.rollover (interveneRule degraded s).rollover := by
  have recovers : SameEstimate s.rollover
      (enterRecover (s.setRollover { s.rollover with calm := s.rollover.calmAfter })).rollover :=
    ⟨rfl, rfl, rfl, rfl, rfl, rfl⟩
  exact keeps_ite (P := fun t => SameEstimate s.rollover t.rollover) (fun _ => recovers) fun _ =>
    keeps_ite (P := fun t => SameEstimate s.rollover t.rollover) (fun _ => recovers) fun _ =>
      keeps_ite (P := fun t => SameEstimate s.rollover t.rollover) (fun _ => recovers)
        fun _ => ⟨rfl, rfl, rfl, rfl, rfl, rfl⟩

theorem recoverRule_sameEstimate (degraded : Bool) (s : State) :
    SameEstimate s.rollover (recoverRule degraded s).rollover :=
  keeps_ite (P := fun t => SameEstimate s.rollover t.rollover)
    (fun _ => enterIntervene_sameEstimate s) fun _ => .refl _

/-- R118 to R122: where the monitor is neither OFF nor DEGRADED, its estimate stands. -/
theorem followed_sameEstimate {t : State} (notOff : t.rollover.state ≠ .off)
    (notDegraded : t.rollover.state ≠ .degraded) (degraded : Bool) :
    SameEstimate (estimate t).rollover (followed degraded t).rollover := by
  unfold followed
  split
  case h_1 off => exact absurd off notOff
  case h_2 state => exact absurd state notDegraded
  case h_3 => exact monitorRule_sameEstimate _
  case h_4 => exact alertRule_sameEstimate _
  case h_5 => exact testRule_sameEstimate _
  case h_6 => exact interveneRule_sameEstimate _ _
  case h_7 => exact recoverRule_sameEstimate _ _

/-! ### The estimate -/

/-- R116, R117, R120: the record of a monitor that is fit to estimate, from OFF or DEGRADED afresh. -/
def Rollover.fit (r : Rollover) : Rollover :=
  { r with
    degradedSeen := false
    state := if r.state = .off ∨ r.state = .degraded then .monitor else r.state
    filtered := if r.state = .off ∨ r.state = .degraded then 0 else r.filtered }

theorem Rollover.fit_afresh {r : Rollover} (h : r.state = .off ∨ r.state = .degraded) :
    r.fit = { r with degradedSeen := false, state := .monitor, filtered := 0 } := by
  rw [Rollover.fit, if_pos h, if_pos h]

theorem Rollover.fit_running {r : Rollover} (h : ¬(r.state = .off ∨ r.state = .degraded)) :
    r.fit = { r with degradedSeen := false } := by
  rw [Rollover.fit, if_neg h, if_neg h]

/-- R116, R117, R120: the state of a monitor that is fit to estimate. -/
def State.fit (s : State) (pending : Bool) : State :=
  { s with rollover := s.rollover.fit, link := { s.link with rolloverPending := pending } }

/-- R116: in control, and at speed unless an intervention or a recovery runs. -/
theorem not_tooSlow {s : State} (control : s.device.state = .active ∨ s.device.state = .waitRelease)
    (speed : 556 ≤ s.device.referenceSpeed ∨ s.rollover.state = .intervene
      ∨ s.rollover.state = .recover) : ¬tooSlow s := by
  rintro (⟨notActive, notWait⟩ | ⟨slow, notIntervene, notRecover⟩)
  · exact control.elim notActive notWait
  · obtain speed | state | state := speed
    · omega
    · exact notIntervene state
    · exact notRecover state

/-- R116, R117: the first two stages in control, at speed and without a DEGRADED condition. -/
theorem staged_fit {s : State} (control : s.device.state = .active ∨ s.device.state = .waitRelease)
    (speed : 556 ≤ s.device.referenceSpeed) (good : degradedCondition s = false) :
    ∃ pending, staged s = s.fit pending := by
  have stages := staged_of_not_slow (not_tooSlow control (.inl speed))
  have seen : noticed s = s.setRollover { s.rollover with degradedSeen := false } := by
    rw [noticed, good]
  rw [good] at stages
  rcases state : s.rollover.state with _ | _ | _ | _ | _ | _ | _
  case off =>
    rw [state] at stages
    refine ⟨s.link.rolloverPending, ?_⟩
    rw [State.fit, Rollover.fit_afresh (.inl state), stages, seen]
    exact if_neg (c := s.rollover.state = .degraded) (by rw [state]; exact RolloverState.noConfusion)
  case degraded =>
    rw [state] at stages
    refine ⟨true, ?_⟩
    rw [State.fit, Rollover.fit_afresh (.inr state), stages, seen]
    exact if_pos (c := s.rollover.state = .degraded) state
  all_goals
    rw [state] at stages
    refine ⟨s.link.rolloverPending, ?_⟩
    rw [State.fit, Rollover.fit_running (by simp [state]), stages, seen]
    rfl

theorem Rollover.fit_state_ne (r : Rollover) : r.fit.state ≠ .off ∧ r.fit.state ≠ .degraded := by
  unfold Rollover.fit
  dsimp only
  split
  · exact ⟨RolloverState.noConfusion, RolloverState.noConfusion⟩
  · next quiet => exact not_or.mp quiet

/-- R118: the lowest axle that is down with both wheel-ends valid. -/
theorem estimatingAxle_eq_some_iff (s : State) (a : Fin 4) : estimatingAxle s = some a ↔
    (axleDown s a = true ∧ s.wheels[wheelOf a .left].valid = true
        ∧ s.wheels[wheelOf a .right].valid = true)
      ∧ ∀ b < a, ¬(axleDown s b = true ∧ s.wheels[wheelOf b .left].valid = true
        ∧ s.wheels[wheelOf b .right].valid = true) := by
  rw [estimatingAxle, ← Fin.find?_eq_find?_finRange, Fin.find?_eq_some_iff]
  simp [and_assoc]

theorem estimatingAxle_isSome {s : State} (good : degradedCondition s = false) :
    ∃ a, estimatingAxle s = some a := by
  cases found : estimatingAxle s with
  | none =>
    rw [degradedCondition, found] at good
    cases good
  | some a => exact ⟨a, rfl⟩

/-- R122: the outer side's soft tyre, for a filtered value of either sign. -/
theorem thresholdNow_eq (s : State) (filtered : Int) : thresholdNow s filtered =
    let base := thresholdOf s.rollover.aEmpty s.rollover.aLaden s.device.fTot
    if ∃ p : Fin 16, s.tyres[p].present = true ∧ axleDown s (axleOfTyre p) = true
        ∧ (0 < filtered ∧ sideOfTyre p = .left ∨ filtered < 0 ∧ sideOfTyre p = .right)
        ∧ (s.tyres[p].level = .lowAlarm ∨ s.tyres[p].level = .flat) then base - base / 8
    else base := by
  have soft (outer : Side) : outerTyreSoft s outer = true ↔
      ∃ p : Fin 16, s.tyres[p].present = true ∧ axleDown s (axleOfTyre p) = true
        ∧ sideOfTyre p = outer ∧ (s.tyres[p].level = .lowAlarm ∨ s.tyres[p].level = .flat) := by
    simp [outerTyreSoft, List.any_eq_true, and_assoc]
  unfold thresholdNow outerSide
  rcases lt_trichotomy filtered 0 with negative | zero | positive
  · simp [negative, not_lt_of_gt negative, soft, thresholdCut]
  · simp [zero]
  · simp [positive, not_lt_of_gt positive, soft, thresholdCut]

/-- R118 to R122: the estimate of a monitor that is fit to make one. -/
theorem estimate_fit {s : State} {pending : Bool} {a : Fin 4} (axle : estimatingAxle s = some a)
    (speed : 556 ≤ s.device.referenceSpeed) :
    let raw := lateralRaw s.device.referenceSpeed s.wheels[wheelOf a .left].speed
      s.wheels[wheelOf a .right].speed s.axles[a].trackWidth
    let filtered := lateralFilter s.rollover.fit.filtered raw
    estimate (s.fit pending) = (s.fit pending).setRollover { s.rollover.fit with
        axle := some a, raw := some raw, filtered := filtered, threshold := thresholdNow s filtered,
        alertLevel := alertOf (thresholdNow s filtered) } := by
  intro raw filtered
  have computed : rawNow s = some raw := by
    unfold rawNow
    rw [axle]
    exact if_pos speed
  unfold estimate
  rw [show rawNow (s.fit pending) = some raw from computed,
    show estimatingAxle (s.fit pending) = some a from axle]
  rfl

/-- Settles O32: the rules after the estimate leave it. -/
theorem rolloverEstimatesLateralAcceleration : Obligations.RolloverEstimatesLateralAcceleration := by
  intro s control speed good t r down before filtered base soft
  obtain ⟨a, axle⟩ := estimatingAxle_isSome good
  obtain ⟨pending, fit⟩ := staged_fit control speed good
  have same : SameEstimate (estimate (staged s)).rollover t.rollover := by
    refine followed_sameEstimate ?_ ?_ _
    · rw [fit]; exact s.rollover.fit_state_ne.1
    · rw [fit]; exact s.rollover.fit_state_ne.2
  rw [fit, estimate_fit axle speed] at same
  clear_value t
  have downIs (b : Fin 4) : down b = axleDown s b := by
    change _ = (_ && LiftState.isDown _)
    rw [isDown_eq]
  have value : filtered = lateralFilter before _ := same.filtered
  have threshold : t.rollover.threshold = if soft then base - base / 8 else base := by
    refine (same.threshold.trans (congrArg (thresholdNow s) same.filtered.symm)).trans ?_
    rw [thresholdNow_eq]
    simp only [← downIs]
    rfl
  obtain ⟨⟨isDown, left, right⟩, lowest⟩ := (estimatingAxle_eq_some_iff s a).mp axle
  refine ⟨⟨a, same.axle, (downIs a).trans isDown, left, right, fun b below => ?_, same.raw, value⟩,
    threshold, ?_, same.degradedSeen⟩
  · rw [downIs]
    exact lowest b below
  · rw [same.alertLevel, same.threshold]
    rfl

end Sys2Proof.Machine
end

section
/-! The Rollover Monitor's intervention, its recovery and its timers (O34, O35). -/

namespace Sys2Proof.Machine

theorem Rollover.calmAfter_eq (r : Rollover) : r.calmAfter =
    if r.raw = none then r.calm
    else if r.filtered.natAbs < r.threshold / 2 then min 60 (r.calm + 1) else 0 := by
  unfold Rollover.calmAfter Rollover.magnitude
  cases r.raw <;> rfl

/-- R129: an intervention ends at one of three conditions, and stands otherwise. -/
theorem interveneRule_eq (degraded : Bool) (s : State) {leave : Prop} [Decidable leave]
    (ends : leave ↔ s.device.referenceSpeed < 556 ∨ degraded = true ∧ s.rollover.minTimer = none
      ∨ 60 ≤ s.rollover.calmAfter ∧ s.rollover.minTimer = none) :
    interveneRule degraded s = s.setRollover { s.rollover with
      calm := s.rollover.calmAfter
      state := if leave then .recover else s.rollover.state
      rampTimer := if leave then some 50000 else s.rollover.rampTimer } := by
  have early : (degraded && s.rollover.minTimer.isNone) = true
      ↔ degraded = true ∧ s.rollover.minTimer = none := by
    rw [Bool.and_eq_true, Option.isNone_iff_eq_none]
  by_cases leaves : leave
  · rw [if_pos leaves, if_pos leaves]
    unfold interveneRule
    refine ite_eq_left_iff.mpr fun notSlow => ite_eq_left_iff.mpr fun notEarly => if_pos ?_
    obtain slow | bad | calm := ends.mp leaves
    · exact absurd slow notSlow
    · exact absurd (early.mpr bad) notEarly
    · exact calm
  · rw [if_neg leaves, if_neg leaves]
    refine (if_neg fun slow => leaves (ends.mpr (.inl slow))).trans ?_
    refine (if_neg fun bad => leaves (ends.mpr (.inr (.inl (early.mp bad))))).trans ?_
    exact if_neg fun calm => leaves (ends.mpr (.inr (.inr calm)))

theorem recoverRule_eq (degraded : Bool) (s : State) {again : Prop} [Decidable again]
    (back : again ↔ s.rollover.raw ≠ none ∧ s.rollover.threshold ≤ s.rollover.filtered.natAbs
      ∧ ¬s.device.referenceSpeed < 556 ∧ ¬degraded = true) :
    recoverRule degraded s = if again then enterIntervene s else s := by
  have same : (s.rollover.raw.isSome && decide (s.rollover.threshold ≤ s.rollover.magnitude)
      && decide (556 ≤ s.device.referenceSpeed) && !degraded) = true ↔ again := by
    rw [back, Bool.and_eq_true, Bool.and_eq_true, Bool.and_eq_true, Option.isSome_iff_ne_none,
      decide_eq_true_eq, decide_eq_true_eq, Bool.not_eq_true', Nat.not_lt, Bool.not_eq_true,
      and_assoc, and_assoc]
    rfl
  exact if_congr same rfl rfl

theorem allHanded_request {channels : Vector Channel 4} {v : Fin 4 → Nat} {c : Fin 4}
    (standing : channels[c].present = true) :
    (Channel.allHanded channels v)[c].rolloverRequest = v c := by
  rw [Channel.allHanded_get, Channel.handed, if_pos standing]
  rfl

/-- R116, R117: an intervention and a recovery run on through the first two stages. -/
theorem staged_alarmed {s : State} (control : s.device.state = .active ∨ s.device.state = .waitRelease)
    (alarmed : s.rollover.state = .intervene ∨ s.rollover.state = .recover) : staged s = noticed s := by
  rw [staged_of_not_slow (not_tooSlow control (.inr alarmed))]
  obtain state | state := alarmed <;> rw [state]

/-- Settles O34: by the state, whose rule the estimate feeds. -/
theorem rolloverIntervenesAndRecovers : Obligations.RolloverIntervenesAndRecovers := by
  intro s control alarmed t r x m slow degraded calm
  have sampled : t = followed (degradedCondition s) (noticed s) :=
    (rolloverSample_eq s).trans (congrArg _ (staged_alarmed control alarmed))
  clear_value t
  have estimated : SameEstimate (estimate (noticed s)).rollover x := by
    rw [show x = t.rollover from rfl, sampled]
    refine followed_sameEstimate ?_ ?_ _
    · obtain state | state := alarmed <;> rw [show (noticed s).rollover.state = _ from state] <;>
        exact RolloverState.noConfusion
    · obtain state | state := alarmed <;> rw [show (noticed s).rollover.state = _ from state] <;>
        exact RolloverState.noConfusion
  refine ⟨fun state => ?_, fun state => ?_⟩
  · intro leave
    have counted : (estimate (noticed s)).rollover.calmAfter = calm := by
      rw [Rollover.calmAfter_eq, ← estimated.raw, ← estimated.filtered, ← estimated.threshold]
      rfl
    rw [followed, show (noticed s).rollover.state = _ from state] at sampled
    dsimp only at sampled
    rw [interveneRule_eq (leave := leave) _ _ (by rw [counted]; exact Iff.rfl), counted] at sampled
    have record : x = _ := congrArg State.rollover sampled
    clear_value calm
    refine ⟨(congrArg Rollover.calm record).trans rfl, (congrArg Rollover.state record).trans ?_,
      (congrArg Rollover.rampTimer record).trans rfl, (congrArg Rollover.level record).trans rfl,
      (congrArg State.channels sampled).trans rfl⟩
    rw [← state]
    rfl
  · intro again
    rw [followed, show (noticed s).rollover.state = _ from state] at sampled
    dsimp only at sampled
    rw [recoverRule_eq (again := again) _ _ (by
      rw [← estimated.raw, ← estimated.filtered, ← estimated.threshold]; exact Iff.rfl)] at sampled
    refine ⟨?_, fun back => ?_, fun stays => ?_⟩
    · by_cases back : again
      · rw [if_pos back] at sampled ⊢
        rw [enterIntervene_eq] at sampled
        exact (congrArg (fun t => t.rollover.state) sampled).trans rfl
      · rw [if_neg back] at sampled ⊢
        exact (congrArg (fun t => t.rollover.state) sampled).trans state
    · rw [if_pos back, enterIntervene_eq] at sampled
      have record : x = _ := congrArg State.rollover sampled
      refine ⟨(congrArg Rollover.level record).trans rfl,
        (congrArg Rollover.interventions record).trans rfl,
        (congrArg Rollover.minTimer record).trans rfl, (congrArg Rollover.calm record).trans rfl,
        (congrArg Rollover.rampTimer record).trans rfl,
        (congrArg (fun t => t.link.rolloverPending) sampled).trans rfl, fun c standing => ?_⟩
      rw [sampled]
      exact allHanded_request standing
    · rw [if_neg stays] at sampled
      have record : x = _ := congrArg State.rollover sampled
      exact ⟨(congrArg Rollover.level record).trans rfl,
        (congrArg Rollover.rampTimer record).trans rfl, (congrArg State.channels sampled).trans rfl⟩

/-! ### The timers -/

theorem withdraw_channels (next : RolloverState) (s : State) :
    (withdraw next s).channels = Channel.allHanded s.channels fun _ => 0 := by
  unfold withdraw
  rw [endTest_eq, handAll_whole]
  rfl

theorem allHanded_allHanded (channels : Vector Channel 4) (v : Nat) :
    Channel.allHanded (Channel.allHanded channels fun _ => v) (fun _ => v)
      = Channel.allHanded channels fun _ => v := by
  refine Vector.ext fun i below => ?_
  have here := Channel.allHanded_get channels (fun _ => v) ⟨i, below⟩
  refine ((Channel.allHanded_get _ _ ⟨i, below⟩).trans ?_).trans here.symm
  rw [here]
  unfold Channel.handed
  by_cases standing : channels[(⟨i, below⟩ : Fin 4)].present = true
  · rw [if_pos standing]
    exact if_pos standing
  · rw [if_neg standing]
    exact if_neg standing

/-- R131: where only the monitor's record, its requests and the link differ. -/
def RolloverSide (s t : State) : Prop :=
  t = { s with rollover := t.rollover, channels := t.channels, link := t.link }

theorem RolloverSide.trans {s t u : State} (h : RolloverSide s t) (k : RolloverSide t u) :
    RolloverSide s u := by
  unfold RolloverSide at h k ⊢
  rw [h] at k
  exact k

theorem withdraw_rolloverSide (next : RolloverState) (s : State) : RolloverSide s (withdraw next s) := by
  unfold RolloverSide
  rw [withdraw_eq]

theorem raiseRollover_rolloverSide (s : State) : RolloverSide s (raiseRollover s) := rfl

/-- R116, R117, R130: what a recovery ends in. -/
structure RecoveryLeft (s t : State) (next : RolloverState) : Prop where
  side : RolloverSide s t
  state : t.rollover.state = next
  level : t.rollover.level = 0
  ramp : t.rollover.rampTimer = none
  requests : t.channels = Channel.allHanded s.channels fun _ => 0
  event : t.link.rolloverPending = (s.link.rolloverPending || next == .degraded)

theorem enterOff_left {s : State} (recover : s.rollover.state = .recover) :
    RecoveryLeft s (enterOff s) .off := by
  have notOff : s.rollover.state ≠ .off := by rw [recover]; exact RolloverState.noConfusion
  have notDegraded : s.rollover.state ≠ .degraded := by rw [recover]; exact RolloverState.noConfusion
  obtain ⟨rollover, channels, pending⟩ := enterOff_of_not_off notOff
  refine ⟨?_, congrArg Rollover.state rollover, congrArg Rollover.level rollover,
    congrArg Rollover.rampTimer rollover, channels.trans (withdraw_channels .off s), ?_⟩
  · rw [enterOff, if_neg notOff, if_neg notDegraded]
    exact withdraw_rolloverSide .off s
  · rw [pending, recover]
    rfl

theorem enterDegraded_left (s : State) : RecoveryLeft s (enterDegraded s) .degraded := by
  obtain ⟨rollover, channels, pending⟩ := enterDegraded_spec s
  refine ⟨(withdraw_rolloverSide .degraded s).trans (raiseRollover_rolloverSide _),
    congrArg Rollover.state rollover, congrArg Rollover.level rollover,
    congrArg Rollover.rampTimer rollover, channels.trans (withdraw_channels .degraded s), ?_⟩
  rw [pending]
  exact (Bool.or_true _).symm

/-- R130: a recovery whose requests are gone ends by the latest sample set. -/
theorem leaveRecover_left {s : State} {channels : Vector Channel 4}
    (recover : s.rollover.state = .recover) (level : s.rollover.level = 0)
    (ramp : s.rollover.rampTimer = none)
    (requests : s.channels = Channel.allHanded channels fun _ => 0) :
    RecoveryLeft s (leaveRecover s)
      (if (s.device.state ≠ .active ∧ s.device.state ≠ .waitRelease)
          ∨ s.device.referenceSpeed < 556 then .off
      else if s.rollover.degradedSeen then .degraded else .monitor) := by
  have slow : (!inControl s || decide (s.device.referenceSpeed < 556)) = true
      ↔ (s.device.state ≠ .active ∧ s.device.state ≠ .waitRelease)
        ∨ s.device.referenceSpeed < 556 := by
    rw [Bool.or_eq_true, decide_eq_true_eq, Bool.not_eq_true', ← Bool.not_eq_true, inControl_iff,
      not_or]
  unfold leaveRecover
  by_cases isSlow : (s.device.state ≠ .active ∧ s.device.state ≠ .waitRelease)
      ∨ s.device.referenceSpeed < 556
  · rw [if_pos isSlow, if_pos (slow.mpr isSlow)]
    exact enterOff_left recover
  rw [if_neg isSlow, if_neg (mt slow.mp isSlow)]
  by_cases degraded : s.rollover.degradedSeen = true
  · rw [if_pos degraded, if_pos degraded]
    exact enterDegraded_left s
  · rw [if_neg degraded, if_neg degraded]
    refine ⟨rfl, rfl, level, ramp, ?_, (Bool.or_false _).symm⟩
    rw [requests, allHanded_allHanded]
    exact requests

theorem Rollover.tested_of_test {r : Rollover} (test : r.state = .test) (result : TestResult) :
    r.tested result = { r with
      testResult := result, testTimer := none, spacingTimer := some 1000000 } := by
  rw [Rollover.tested, if_pos test, if_pos test, if_pos test]

/-- Settles O35: each expiry's body, with its requests handed to all. -/
theorem rolloverTimersExpire : Obligations.RolloverTimersExpire := by
  intro s running r all
  have body (f : State → State) : whileRunning f s = f s := whileRunning_of_running running
  have handed {v : Nat} {t : State}
      (channels : t.channels = Channel.allHanded s.channels fun _ => v) : all v t := fun c => by
    rw [channels, Channel.allHanded_get]
    rfl
  refine ⟨fun timer test => ?_, congrArg Host.Outcome.next (body _),
    congrArg Host.Outcome.next (body _), fun timer recover => ?_⟩
  · refine ⟨{ s with
      rollover := { s.rollover with
        state := if r.alertLevel ≤ r.filtered.natAbs then .alert else .monitor
        testResult := .noLift, testTimer := none, spacingTimer := some 1000000, level := 0 }
      channels := Channel.allHanded s.channels fun _ => 0 },
      congrArg Host.Outcome.next ((body _).trans ((if_pos timer).trans ((if_pos test).trans ?_))),
      rfl, handed rfl, rfl⟩
    dsimp only
    rw [endTest_eq, handAll_whole, Rollover.tested_of_test test]
    rfl
  · have lowered := (body fun s => if s.rollover.rampTimer.isSome then
        if s.rollover.state = .recover then
          let level := s.rollover.level - 50
          let s := handAll level s
          if 0 < level then s.setRollover { s.rollover with rampTimer := some rampTime }
          else leaveRecover (s.setRollover { s.rollover with rampTimer := none })
        else s.setRollover { s.rollover with rampTimer := none }
      else s).trans ((if_pos timer).trans (if_pos recover))
    dsimp only at lowered
    rw [handAll_whole] at lowered
    by_cases high : 50 < r.level
    · have more : 0 < s.rollover.level - 50 := Nat.sub_pos_of_lt high
      rw [if_pos more] at lowered
      exact ⟨_, congrArg Host.Outcome.next lowered, handed rfl, rfl, fun _ => ⟨rfl, rfl⟩,
        fun low => absurd high (Nat.not_lt.mpr low), rfl⟩
    · have gone : s.rollover.level - 50 = 0 := Nat.sub_eq_zero_of_le (Nat.not_lt.mp high)
      rw [gone, if_neg (Nat.lt_irrefl 0)] at lowered
      have left := leaveRecover_left (channels := s.channels) (s := State.setRollover { s with
          rollover := { s.rollover with level := 0 }
          channels := Channel.allHanded s.channels fun _ => 0 }
        { s.rollover with level := 0, rampTimer := none }) recover rfl rfl rfl
      refine ⟨_, congrArg Host.Outcome.next lowered, ?_⟩
      have left : RecoveryLeft _ (leaveRecover _) _ := left
      generalize leaveRecover _ = t at left
      obtain ⟨side, state, level, ramp, requests, event⟩ := left
      have zero : r.level - 50 = 0 := gone
      rw [zero]
      refine ⟨handed (requests.trans (allHanded_allHanded s.channels 0)), level,
        fun more => absurd more high, fun _ => ⟨ramp, state, ?_⟩, side⟩
      rw [state]
      exact event

end Sys2Proof.Machine
end

section
/-! The Rollover Monitor in MONITOR, ALERT and TEST (O33). -/

namespace Sys2Proof.Machine

/-- R123, R124: where MONITOR and ALERT go. -/
def Rollover.watchNext (r : Rollover) : RolloverState :=
  if r.threshold ≤ r.filtered.natAbs then .intervene
  else if r.filtered.natAbs < r.alertLevel then .monitor
  else if r.spacingTimer = none then .test
  else .alert

/-- R123 to R126, R128: what a rule does to the monitor's record, its requests and its source. -/
structure Watched (e t : State) (next : RolloverState) : Prop where
  state : t.rollover.state = next
  test : next = .test → e.rollover.state ≠ .test → t.rollover = e.rollover.testing
    ∧ t.channels = Channel.allHanded e.channels fun c => e.rollover.testShare e.channels[c].side
  intervene : next = .intervene →
    t.rollover = (e.rollover.tested (if e.rollover.threshold ≤ e.rollover.filtered.natAbs
      then .noResult else .lift)).intervened
    ∧ t.channels = Channel.allHanded e.channels (fun _ => e.rollover.pRoll)
    ∧ t.link.rolloverPending = true
  quiet : next = .monitor ∨ next = .alert → t.channels = e.channels

/-- The lift axle, its timers and every output. -/
def LiftRests (s t : State) : Prop := t.axles = s.axles ∧ t.lift = s.lift ∧ t.outputs = s.outputs

theorem ForcedLowering.trans_same {s t u : State} (h : ForcedLowering s t) (same : LiftRests t u) :
    ForcedLowering s u := by
  obtain ⟨axles, lift, outputs⟩ := same
  unfold ForcedLowering
  rw [axles, lift, outputs]
  exact h

theorem enterIntervene_liftRests (s : State) : LiftRests s (enterIntervene s) := by
  rw [enterIntervene_eq]
  exact ⟨rfl, rfl, rfl⟩

theorem Rollover.tested_of_not_test {r : Rollover} (notTest : r.state ≠ .test) (result : TestResult) :
    r.tested result = r := by
  rw [Rollover.tested, if_neg notTest, if_neg notTest, if_neg notTest]

theorem enterIntervene_watched {s : State} (notTest : s.rollover.state ≠ .test) :
    Watched s (enterIntervene s) .intervene := by
  rw [enterIntervene_eq]
  refine ⟨rfl, fun h => RolloverState.noConfusion h, fun _ => ⟨?_, rfl, rfl⟩,
    fun h => h.elim (fun h => RolloverState.noConfusion h) fun h => RolloverState.noConfusion h⟩
  rw [Rollover.tested_of_not_test notTest]

/-- R124. -/
theorem alertRule_watched {s : State} (alert : s.rollover.state = .alert) :
    Watched s (alertRule s) s.rollover.watchNext ∧ LiftRests s (alertRule s) := by
  have notTest : s.rollover.state ≠ .test := by rw [alert]; exact RolloverState.noConfusion
  unfold alertRule Rollover.watchNext Rollover.magnitude
  by_cases reached : s.rollover.threshold ≤ s.rollover.filtered.natAbs
  · rw [if_pos reached, if_pos reached]
    exact ⟨enterIntervene_watched notTest, enterIntervene_liftRests s⟩
  rw [if_neg reached, if_neg reached]
  by_cases calm : s.rollover.filtered.natAbs < s.rollover.alertLevel
  · rw [if_pos calm, if_pos calm]
    exact ⟨⟨rfl, fun h => RolloverState.noConfusion h, fun h => RolloverState.noConfusion h,
      fun _ => rfl⟩, rfl, rfl, rfl⟩
  rw [if_neg calm, if_neg calm]
  by_cases spaced : s.rollover.spacingTimer = none
  · rw [if_pos spaced, if_pos (Option.isNone_iff_eq_none.mpr spaced), enterTest_eq]
    exact ⟨⟨rfl, fun _ _ => ⟨rfl, rfl⟩, fun h => RolloverState.noConfusion h,
      fun h => h.elim (fun h => RolloverState.noConfusion h) fun h => RolloverState.noConfusion h⟩,
      rfl, rfl, rfl⟩
  · rw [if_neg spaced, if_neg (mt Option.isNone_iff_eq_none.mp spaced)]
    exact ⟨⟨alert, fun h => RolloverState.noConfusion h, fun h => RolloverState.noConfusion h,
      fun _ => rfl⟩, rfl, rfl, rfl⟩

theorem Rollover.intervened_of_alert {r : Rollover} (monitor : r.state = .monitor) :
    ({ r with state := .alert } : Rollover).intervened = r.intervened := by
  unfold Rollover.intervened
  rw [if_pos (.inr rfl), if_pos (.inl monitor)]

/-- R123: what follows a departure from MONITOR is what follows it from ALERT. -/
theorem Watched.of_lowered {s t u : State} {next : RolloverState} (h : Watched u t next)
    (monitor : s.rollover.state = .monitor)
    (rollover : u.rollover = s.rollover ∨ u.rollover = { s.rollover with state := .alert })
    (channels : u.channels = s.channels) : Watched s t next := by
  have notTest : s.rollover.state ≠ .test := by rw [monitor]; exact RolloverState.noConfusion
  obtain rollover | rollover := rollover
  · obtain ⟨state, test, intervene, quiet⟩ := h
    rw [rollover, channels] at test
    rw [rollover, channels] at intervene
    rw [channels] at quiet
    exact ⟨state, test, intervene, quiet⟩
  · obtain ⟨state, test, intervene, quiet⟩ := h
    rw [rollover, channels] at test
    rw [rollover, channels, Rollover.tested_of_not_test (r := { s.rollover with state := .alert })
      RolloverState.noConfusion] at intervene
    rw [channels] at quiet
    refine ⟨state, fun h _ => test h RolloverState.noConfusion, fun h => ?_, quiet⟩
    obtain ⟨record, requests⟩ := intervene h
    refine ⟨record.trans ?_, requests⟩
    rw [Rollover.tested_of_not_test notTest]
    exact Rollover.intervened_of_alert monitor

/-- R123, R64. -/
theorem monitorRule_watched {s : State} (monitor : s.rollover.state = .monitor) :
    Watched s (monitorRule s) s.rollover.watchNext
      ∧ if s.rollover.watchNext ≠ .monitor then ForcedLowering s (monitorRule s)
        else LiftRests s (monitorRule s) := by
  have notTest : s.rollover.state ≠ .test := by rw [monitor]; exact RolloverState.noConfusion
  unfold monitorRule Rollover.magnitude
  by_cases reached : s.rollover.threshold ≤ s.rollover.filtered.natAbs
  · have next : s.rollover.watchNext = .intervene := if_pos reached
    rw [if_pos reached, next, if_pos (by decide : RolloverState.intervene ≠ .monitor)]
    have lowered := forceLowering_rollover s
    refine ⟨(enterIntervene_watched (by rw [lowered]; exact notTest)).of_lowered monitor
      (.inl lowered) (forceLowering_channels s), ?_⟩
    exact (forceLowering_forced s).trans_same (enterIntervene_liftRests _)
  rw [if_neg reached]
  by_cases calm : s.rollover.filtered.natAbs < s.rollover.alertLevel
  · have next : s.rollover.watchNext = .monitor := (if_neg reached).trans (if_pos calm)
    rw [if_neg (Nat.not_le.mpr calm), next, if_neg (not_not.mpr rfl)]
    exact ⟨⟨monitor, fun h => RolloverState.noConfusion h, fun h => RolloverState.noConfusion h,
      fun _ => rfl⟩, rfl, rfl, rfl⟩
  · have next : s.rollover.watchNext ≠ .monitor := by
      rw [Rollover.watchNext, if_neg reached, if_neg calm]
      split <;> exact RolloverState.noConfusion
    rw [if_pos (Nat.not_lt.mp calm), if_pos next]
    have lowered := forceLowering_rollover (s.setRollover { s.rollover with state := .alert })
    have channels := forceLowering_channels (s.setRollover { s.rollover with state := .alert })
    have forced := forceLowering_forced (s.setRollover { s.rollover with state := .alert })
    generalize forceLowering (s.setRollover { s.rollover with state := .alert }) = u
      at lowered channels forced
    have lowered : u.rollover = { s.rollover with state := .alert } := lowered
    obtain ⟨watched, same⟩ := alertRule_watched (congrArg Rollover.state lowered)
    rw [lowered] at watched
    exact ⟨watched.of_lowered monitor (.inr lowered) channels,
      (forced.trans_same same).of_same rfl rfl rfl⟩

/-- R126. -/
theorem testRule_watched {s : State} (test : s.rollover.state = .test) {lift : Prop} [Decidable lift]
    (shows : lift ↔ s.rollover.inner.any (innerLift s) = true) :
    Watched s (testRule s) (if s.rollover.threshold ≤ s.rollover.filtered.natAbs then .intervene
        else if lift then .intervene else .test) ∧ LiftRests s (testRule s) := by
  have enters (result : TestResult)
      (right : result = if s.rollover.threshold ≤ s.rollover.filtered.natAbs then .noResult
        else .lift) : Watched s (enterIntervene (endTest result s)) .intervene
          ∧ LiftRests s (enterIntervene (endTest result s)) := by
    rw [endTest_eq, enterIntervene_eq]
    exact ⟨⟨rfl, fun h => RolloverState.noConfusion h,
      fun _ => ⟨congrArg (fun result => (s.rollover.tested result).intervened) right, rfl, rfl⟩,
      fun h => h.elim (fun h => RolloverState.noConfusion h) fun h => RolloverState.noConfusion h⟩,
      rfl, rfl, rfl⟩
  unfold testRule Rollover.magnitude
  by_cases reached : s.rollover.threshold ≤ s.rollover.filtered.natAbs
  · rw [if_pos reached, if_pos reached]
    exact enters .noResult (if_pos reached).symm
  rw [if_neg reached, if_neg reached]
  by_cases lifts : lift
  · rw [if_pos lifts, if_pos (shows.mp lifts)]
    exact enters .lift (if_neg reached).symm
  · rw [if_neg lifts, if_neg (mt shows.mpr lifts)]
    exact ⟨⟨test, fun _ notTest => absurd test notTest, fun h => RolloverState.noConfusion h,
      fun h => h.elim (fun h => RolloverState.noConfusion h) fun h => RolloverState.noConfusion h⟩,
      rfl, rfl, rfl⟩

/-- R126: an inner wheel-end shows lift. -/
theorem innerLift_iff (s : State) : s.rollover.inner.any (innerLift s) = true ↔
    ∃ w : Fin 8, s.rollover.inner = some (sideOfWheel w)
      ∧ axleDown s (axleOfWheel w) = true ∧ s.wheels[w].valid = true
      ∧ (s.rollover.slipLift ≤ slipOf s.device.referenceSpeed s.wheels[w].speed
        ∨ s.wheels[w].wish = .release) := by
  cases s.rollover.inner with
  | none => simp
  | some side => simp [innerLift, and_assoc, eq_comm (a := side)]

/-- R124, R126: the state that the fit monitor's rule enters. -/
def Rollover.nextState (r : Rollover) (lift : Bool) : RolloverState :=
  if r.threshold ≤ r.filtered.natAbs then .intervene
  else if r.state = .test then (if lift then .intervene else .test)
  else if r.filtered.natAbs < r.alertLevel then .monitor
  else if r.spacingTimer = none then .test
  else .alert

/-- R123 to R126: the rule of a monitor in MONITOR, ALERT or TEST. -/
theorem followed_watched (degraded : Bool) {t : State}
    (state : t.rollover.state = .monitor ∨ t.rollover.state = .alert ∨ t.rollover.state = .test)
    (e : State) (estimated : estimate t = e) (same : e.rollover.state = t.rollover.state) :
    Watched e (followed degraded t) (e.rollover.nextState (e.rollover.inner.any (innerLift e)))
      ∧ if t.rollover.state = .monitor
          ∧ e.rollover.nextState (e.rollover.inner.any (innerLift e)) ≠ .monitor then
          ForcedLowering e (followed degraded t)
        else LiftRests e (followed degraded t) := by
  subst estimated
  obtain monitor | alert | test := state
  · have next (lift : Bool) : (estimate t).rollover.nextState lift
        = (estimate t).rollover.watchNext := by
      rw [Rollover.nextState, if_neg (by rw [same, monitor]; decide : ¬_ = RolloverState.test)]
      rfl
    rw [next, if_congr (and_iff_right monitor) rfl rfl, followed, monitor]
    exact monitorRule_watched (same.trans monitor)
  · have next (lift : Bool) : (estimate t).rollover.nextState lift
        = (estimate t).rollover.watchNext := by
      rw [Rollover.nextState, if_neg (by rw [same, alert]; decide : ¬_ = RolloverState.test)]
      rfl
    rw [next, alert, if_neg (fun h => RolloverState.noConfusion h.1), followed, alert]
    exact alertRule_watched (same.trans alert)
  · rw [Rollover.nextState, if_pos (same.trans test), test,
      if_neg (c := RolloverState.test = .monitor ∧ _) (fun h => RolloverState.noConfusion h.1),
      followed, test]
    exact testRule_watched (same.trans test) Iff.rfl

theorem LiftRests.of_same {s u t : State} (h : LiftRests u t) (same : LiftRests s u) :
    LiftRests s t :=
  ⟨h.1.trans same.1, h.2.1.trans same.2.1, h.2.2.trans same.2.2⟩

/-- R116, R117: where the monitor, fit to watch, was and is. -/
theorem Rollover.fit_state_watch {r : Rollover} (notIntervene : r.state ≠ .intervene)
    (notRecover : r.state ≠ .recover) :
    (r.fit.state = .monitor ∧ (r.state = .off ∨ r.state = .monitor ∨ r.state = .degraded))
      ∨ (r.fit.state = .alert ∧ r.state = .alert) ∨ (r.fit.state = .test ∧ r.state = .test) := by
  unfold Rollover.fit
  cases state : r.state <;> simp_all

/-- The next state, by conditions that say the same. -/
theorem Rollover.nextState_eq {r : Rollover} {shows : Bool} {reached test lift calm spaced : Prop}
    [Decidable reached] [Decidable test] [Decidable lift] [Decidable calm] [Decidable spaced]
    (reachedIff : r.threshold ≤ r.filtered.natAbs ↔ reached) (testIff : r.state = .test ↔ test)
    (liftIff : shows = true ↔ lift) (calmIff : r.filtered.natAbs < r.alertLevel ↔ calm)
    (spacedIff : r.spacingTimer = none ↔ spaced) : r.nextState shows
      = if reached then .intervene
        else if test then (if lift then .intervene else .test)
        else if calm then .monitor
        else if spaced then .test
        else .alert :=
  if_congr reachedIff rfl (if_congr testIff (if_congr liftIff rfl rfl)
    (if_congr calmIff rfl (if_congr spacedIff rfl rfl)))

/-- What the rules of a watching monitor read beside the estimate, as it was before it. -/
structure WatchInputs (s e : State) : Prop where
  state : e.rollover.state = s.rollover.fit.state
  inner : e.rollover.inner = s.rollover.inner
  pTest : e.rollover.pTest = s.rollover.pTest
  pRoll : e.rollover.pRoll = s.rollover.pRoll
  tests : e.rollover.tests = s.rollover.tests
  interventions : e.rollover.interventions = s.rollover.interventions
  spacing : e.rollover.spacingTimer = s.rollover.spacingTimer
  channels : e.channels = s.channels
  lift : LiftRests s e
  shows : innerLift e = innerLift s

/-- Settles O33: the rule of the state that the first stages leave, on the estimate. -/
theorem rolloverWatchesAndTests : Obligations.RolloverWatchesAndTests := by
  intro s control speed good notIntervene notRecover t r x m inner lift next
  obtain ⟨a, axle⟩ := estimatingAxle_isSome good
  obtain ⟨pending, fit⟩ := staged_fit control speed good
  have est := estimate_fit (pending := pending) axle speed
  have sampled : t = followed (degradedCondition s) (s.fit pending) := by
    rw [← fit]
    exact rolloverSample_eq s
  clear_value t
  have watch := Rollover.fit_state_watch notIntervene notRecover
  have fitState : (s.fit pending).rollover.state = s.rollover.fit.state := rfl
  have estimated : SameEstimate (estimate (s.fit pending)).rollover x := by
    rw [show x = t.rollover from rfl, sampled]
    exact followed_sameEstimate s.rollover.fit_state_ne.1 s.rollover.fit_state_ne.2 _
  have kept : WatchInputs s (estimate (s.fit pending)) := by
    rw [est]
    exact ⟨rfl, rfl, rfl, rfl, rfl, rfl, rfl, rfl, ⟨rfl, rfl, rfl⟩, rfl⟩
  generalize made : estimate (s.fit pending) = e at estimated kept
  clear est
  obtain ⟨watched, lowering⟩ := followed_watched (degradedCondition s) (t := s.fit pending)
    (by rw [fitState]; exact watch.imp And.left (.imp And.left And.left)) e made kept.state
  rw [← sampled] at watched lowering
  have filtered := estimated.filtered
  have wasTest : e.rollover.state = .test ↔ r.state = .test := by
    rw [kept.state]
    obtain ⟨state, off | monitor | degraded⟩ | ⟨state, alert⟩ | ⟨state, test⟩ := watch <;>
      simp_all [r]
  have nextIs : e.rollover.nextState (e.rollover.inner.any (innerLift e)) = next :=
    Rollover.nextState_eq (by rw [← filtered, ← estimated.threshold]) wasTest
      (by rw [kept.shows, kept.inner]; exact innerLift_iff s)
      (by rw [← filtered, ← estimated.alertLevel]) (by rw [kept.spacing])
  rw [nextIs] at watched lowering
  clear_value next
  have side : innerSide e.rollover.filtered e.rollover.inner = inner := by
    rw [← filtered, kept.inner]
    rfl
  refine ⟨watched.state, fun isTest notTest => ?_, fun intervenes => ?_, fun quiet c => ?_, ?_⟩
  · obtain ⟨record, requests⟩ := watched.test isTest (mt wasTest.mp notTest)
    refine ⟨(congrArg Rollover.inner record).trans side,
      (congrArg Rollover.level record).trans kept.pTest,
      (congrArg Rollover.testResult record).trans rfl,
      (congrArg Rollover.tests record).trans (by rw [← kept.tests]; rfl),
      (congrArg Rollover.testTimer record).trans rfl, fun c standing => ?_⟩
    rw [requests, allHanded_request (by rw [kept.channels]; exact standing), Rollover.testShare,
      side, kept.pTest, kept.channels]
  · obtain ⟨record, requests, pending⟩ := watched.intervene intervenes
    refine ⟨(congrArg Rollover.inner record).trans ?_,
      (congrArg Rollover.level record).trans kept.pRoll,
      (congrArg Rollover.interventions record).trans (by rw [← kept.interventions]; rfl),
      (congrArg Rollover.minTimer record).trans rfl, (congrArg Rollover.calm record).trans rfl,
      (congrArg Rollover.rampTimer record).trans rfl, pending, fun test => ?_,
      fun c standing => ?_⟩
    · have watching : (e.rollover.state = .monitor ∨ e.rollover.state = .alert)
          ↔ ¬r.state = .test := by
        rw [← wasTest, kept.state]
        obtain ⟨state, was⟩ | ⟨state, alert⟩ | ⟨state, test⟩ := watch <;> simp [state]
      refine (if_congr watching side kept.inner).trans ?_
      exact ite_not _ _ _
    · rw [Rollover.tested_of_test (wasTest.mpr test)] at record
      refine ⟨(congrArg Rollover.testTimer record).trans rfl,
        (congrArg Rollover.spacingTimer record).trans rfl,
        (congrArg Rollover.testResult record).trans ?_⟩
      rw [← filtered, ← estimated.threshold]
      rfl
    · rw [requests, allHanded_request (by rw [kept.channels]; exact standing), kept.pRoll]
  · rw [watched.quiet quiet, kept.channels]
  · have wasMonitor : (s.fit pending).rollover.state = .monitor
        ↔ r.state = .off ∨ r.state = .monitor ∨ r.state = .degraded := by
      rw [fitState]
      obtain ⟨state, off | monitor | degraded⟩ | ⟨state, alert⟩ | ⟨state, test⟩ := watch <;>
        simp_all [r]
    rw [if_congr (and_congr_left fun _ => wasMonitor) rfl rfl] at lowering
    split_ifs at lowering ⊢ with leaves
    · exact lowering.of_same kept.lift.1 kept.lift.2.1 (by rw [kept.lift.2.2])
    · exact lowering.of_same kept.lift

end Sys2Proof.Machine
end

section
/-! The receive line and its characters (O37, O38). -/

namespace Sys2Proof.Machine

theorem charTime_eq (s : State) :
    charTime s = (if s.device.parity = .noParity then 10 else 11) * (4 * s.device.divisor) := by
  unfold charTime characterTime
  cases s.device.parity <;> rfl

/-- R138, R176: a jam is no latched kind. -/
theorem report_jam (c : Bool) (s : State) : report .jam c s = { s with
    faults := { s.faults with
      jam := ⟨c && !s.device.faultMask.getLsbD 10, s.faults.jam.latched⟩ } } := by
  have never (b : Bool) : (b && FaultId.jam.isLatched) = false := Bool.and_false b
  unfold report
  dsimp only
  rw [never, Bool.false_and, Bool.or_false, Bool.or_false]
  rfl

theorem Running.not_held {s : State} (running : Running s) : held s = false := by
  obtain ⟨supply, reset⟩ := running
  rw [held, supply, reset]
  rfl

/-- Settles O37: event by event, outside of a reset. -/
theorem receiveLineEvents : Obligations.ReceiveLineEvents := by
  intro s running r bits charTime' waits
  have here : charTime s = charTime' := charTime_eq s
  have body (f : State → State) : whileRunning f s = f s := whileRunning_of_running running
  have free {t u : State} : (if held s then t else u) = u :=
    if_neg (by rw [running.not_held]; exact Bool.noConfusion)
  refine ⟨congrArg Host.Outcome.next (free.trans ?_), congrArg Host.Outcome.next (free.trans ?_),
    fun pending spacing => congrArg Host.Outcome.next ((body _).trans (if_pos ?_)),
    fun timer => ⟨_, congrArg Host.Outcome.next ((body _).trans ((if_pos timer).trans
      (report_jam _ _))), rfl, rfl, rfl⟩,
    fun timer => ⟨_, congrArg Host.Outcome.next ((body _).trans ((if_pos timer).trans
      (report_jam _ _))), rfl, rfl, rfl⟩,
    fun timer => ⟨_, congrArg Host.Outcome.next ((body _).trans (if_pos timer)), rfl, rfl, rfl⟩⟩
  · rw [← here]
    rfl
  · rw [← here]
    rfl
  · rw [pending, spacing]
    rfl

/-! ### Characters -/

/-- R136: the counters after a judged character. -/
theorem countCharacter_eq (d : Device) (format : Parity) (data : Byte) (parityBit stop : Bool)
    {broken framing wrong : Prop} [Decidable broken] [Decidable framing] [Decidable wrong]
    (isBreak : broken ↔ data = 0 ∧ (format = .noParity ∨ parityBit = false) ∧ stop = false)
    (isFraming : framing ↔ ¬broken ∧ stop = false)
    (isWrong : wrong ↔ stop = true ∧ parityWrong format data parityBit = true) :
    d.countCharacter (judgeCharacter format data parityBit stop) = { d with
      breakErrors := if broken then min 65535 (d.breakErrors + 1) else d.breakErrors
      framingErrors := if framing then min 65535 (d.framingErrors + 1) else d.framingErrors
      parityErrors := if wrong then min 65535 (d.parityErrors + 1) else d.parityErrors } := by
  unfold judgeCharacter
  by_cases breaks : broken
  · have low : stop = false := (isBreak.mp breaks).2.2
    rw [if_pos breaks, if_neg fun h => (isFraming.mp h).1 breaks,
      if_neg fun h => Bool.noConfusion (low.symm.trans (isWrong.mp h).1), if_pos (isBreak.mp breaks)]
    rfl
  rw [if_neg breaks, if_neg (mt isBreak.mpr breaks)]
  by_cases frames : framing
  · have low : stop = false := (isFraming.mp frames).2
    rw [if_pos frames, if_neg fun h => Bool.noConfusion (low.symm.trans (isWrong.mp h).1), if_pos low]
    rfl
  have high : stop = true := Bool.eq_true_of_not_eq_false fun low => frames (isFraming.mpr ⟨breaks, low⟩)
  rw [if_neg frames, if_neg (by rw [high]; exact Bool.noConfusion)]
  by_cases wrongs : wrong
  · rw [if_pos wrongs, if_pos (isWrong.mp wrongs).2]
    rfl
  · rw [if_neg wrongs, if_neg fun h => wrongs (isWrong.mpr ⟨high, h⟩)]
    rfl

/-- R136: a good byte is handed on. -/
theorem judgeCharacter_byte (format : Parity) (data : Byte) (parityBit stop : Bool) :
    (judgeCharacter format data parityBit stop).byte =
      if stop = true ∧ ¬parityWrong format data parityBit = true then some data else none := by
  unfold judgeCharacter
  cases stop
  · rw [if_neg (c := false = true ∧ _) (fun h => Bool.noConfusion h.1), if_pos rfl]
    split <;> rfl
  · rw [if_neg (fun h => Bool.noConfusion h.2.2), if_neg Bool.noConfusion]
    by_cases wrong : parityWrong format data parityBit = true
    · rw [if_pos wrong, if_neg (fun h => h.2 wrong)]
      rfl
    · rw [if_neg wrong, if_pos ⟨rfl, wrong⟩]
      rfl

/-- R142: an arrival writes TYRE records, the candidate list and the CANDIDATE source. -/
def ArrivalOnly (s t : State) : Prop :=
  t = { s with
    tyres := t.tyres
    supervisor := { s.supervisor with candidates := t.supervisor.candidates }
    link := { s.link with candidatePending := t.link.candidatePending } }

theorem listCandidate_arrivalOnly (a : Arrival) (s : State) : ArrivalOnly s (listCandidate a s) := by
  unfold listCandidate
  exact keeps_ite (P := ArrivalOnly s) (fun _ => rfl) fun _ => rfl

theorem takeArrival_arrivalOnly (a : Arrival) (s : State) : ArrivalOnly s (takeArrival a s) := by
  have listed := listCandidate_arrivalOnly a s
  unfold takeArrival
  split
  · rfl
  split
  · exact keeps_ite (P := ArrivalOnly s) (fun _ => rfl) fun _ => listed
  · exact listed

/-- What a telegram leaves: the receiver, the clock and the counters of R136. -/
structure TelegramFrame (s t : State) : Prop where
  receiver : t.receiver = s.receiver
  clock : t.supervisor.clock = s.supervisor.clock
  breaks : t.device.breakErrors = s.device.breakErrors
  framing : t.device.framingErrors = s.device.framingErrors
  parity : t.device.parityErrors = s.device.parityErrors

theorem takeTelegram_frame (o : TelegramOutcome) (s : State) : TelegramFrame s (takeTelegram o s) := by
  unfold takeTelegram
  split
  case h_1 | h_2 => exact ⟨rfl, rfl, rfl, rfl, rfl⟩
  case h_3 a =>
    have only := takeArrival_arrivalOnly a
      { s with device := { s.device with telegramsAccepted := bump s.device.telegramsAccepted } }
    generalize takeArrival a _ = t at only
    unfold ArrivalOnly at only
    rw [only]
    exact ⟨rfl, rfl, rfl, rfl, rfl⟩

/-- R139, R140: the bytes collected after a good byte or a byte error. -/
def collectedAfter (old : List Byte) (b : Option Byte) : List Byte :=
  match b with
  | none => []
  | some b => if old = [] ∧ b ≠ 0x5C ∨ 8 ≤ old.length then [] else old ++ [b]

/-- R139, R140: the gap timer after a good byte or a byte error. -/
def gapAfter (gap : Nat) (r : Receiver) (b : Option Byte) : Option Nat :=
  match b with
  | none => none
  | some b =>
    if r.collected = [] ∧ b = 0x5C ∨ r.collected ≠ [] ∧ r.collected.length < 8 then some gap
    else if r.collected = [] then r.gapTimer else none

/-- R139: what the assembler does with a good byte or a byte error. -/
theorem assemble_spec (b : Option Byte) (s : State) :
    (assemble b s).receiver = { s.receiver with
        collected := collectedAfter s.receiver.collected b
        gapTimer := gapAfter (3 * charTime s) s.receiver b }
      ∧ TelegramFrame (s.setReceiver (assemble b s).receiver) (assemble b s)
      ∧ (b = none ∨ s.receiver.collected.length < 8 →
        assemble b s = s.setReceiver (assemble b s).receiver) := by
  have whole {t : State} {r : Receiver} (is : t = s.setReceiver r) (right : r = { s.receiver with
        collected := collectedAfter s.receiver.collected b
        gapTimer := gapAfter (3 * charTime s) s.receiver b }) :
      t.receiver = { s.receiver with
        collected := collectedAfter s.receiver.collected b
        gapTimer := gapAfter (3 * charTime s) s.receiver b }
      ∧ TelegramFrame (s.setReceiver t.receiver) t
      ∧ (b = none ∨ s.receiver.collected.length < 8 → t = s.setReceiver t.receiver) := by
    subst is
    exact ⟨right, ⟨rfl, rfl, rfl, rfl, rfl⟩, fun _ => rfl⟩
  cases b with
  | none => exact whole rfl rfl
  | some b =>
    by_cases hunting : s.receiver.collected = []
    · by_cases header : b = 0x5C
      · have collected : collectedAfter s.receiver.collected (some b) = s.receiver.collected ++ [b] :=
          if_neg fun h => h.elim (fun h => h.2 header) fun long => by
            rw [hunting] at long
            exact absurd long (by decide)
        have gap : gapAfter (3 * charTime s) s.receiver (some b) = some (3 * charTime s) :=
          if_pos (.inl ⟨hunting, header⟩)
        refine whole ((if_pos hunting).trans (if_pos header)) ?_
        rw [collected, gap, hunting]
        rfl
      · have collected : collectedAfter s.receiver.collected (some b) = s.receiver.collected :=
          (if_pos (.inl ⟨hunting, header⟩)).trans hunting.symm
        have gap : gapAfter (3 * charTime s) s.receiver (some b) = s.receiver.gapTimer :=
          (if_neg fun h => h.elim (fun h => header h.2) fun h => h.1 hunting).trans (if_pos hunting)
        refine whole (r := s.receiver) ((if_pos hunting).trans (if_neg header)) ?_
        rw [collected, gap]
    · by_cases short : s.receiver.collected.length < 8
      · have collected : collectedAfter s.receiver.collected (some b) = s.receiver.collected ++ [b] :=
          if_neg fun h => h.elim (fun h => hunting h.1) fun h => absurd short (Nat.not_lt.mpr h)
        have gap : gapAfter (3 * charTime s) s.receiver (some b) = some (3 * charTime s) :=
          if_pos (.inr ⟨hunting, short⟩)
        refine whole ((if_neg hunting).trans (if_pos short)) ?_
        rw [collected, gap]
      · have collected : collectedAfter s.receiver.collected (some b) = [] :=
          if_pos (.inr (Nat.not_lt.mp short))
        have gap : gapAfter (3 * charTime s) s.receiver (some b) = none :=
          (if_neg fun h => h.elim (fun h => hunting h.1) fun h => short h.2).trans (if_neg hunting)
        have ninth : assemble (some b) s = takeTelegram
            (judgeTelegram (s.receiver.collected ++ [b]) s.supervisor.clock)
            (s.setReceiver { s.receiver with collected := [], gapTimer := none }) :=
          (if_neg hunting).trans (if_neg short)
        have frame := takeTelegram_frame
          (judgeTelegram (s.receiver.collected ++ [b]) s.supervisor.clock)
          (s.setReceiver { s.receiver with collected := [], gapTimer := none })
        rw [← ninth] at frame
        refine ⟨frame.receiver.trans ?_, ⟨rfl, frame.clock, frame.breaks, frame.framing, frame.parity⟩,
          fun h => h.elim nofun fun h => absurd h short⟩
        rw [collected, gap]
        rfl

theorem parityWrong_iff (format : Parity) (data : Byte) (parityBit : Bool) :
    parityWrong format data parityBit = true ↔
      format = .odd ∧ (markingBits data + parityBit.toNat) % 2 = 0
        ∨ format = .even ∧ (markingBits data + parityBit.toNat) % 2 = 1 := by
  cases format <;> simp [parityWrong]

theorem exec_characterComplete {s : State} {format : Parity} (running : Running s)
    (taken : s.receiver.character = some format) (data : Byte) (parityBit stop : Bool) (ms : Nat) :
    exec (.characterComplete data parityBit stop ms) s = .next
      (assemble (judgeCharacter format data parityBit stop).byte { s with
        device := s.device.countCharacter (judgeCharacter format data parityBit stop)
        supervisor := { s.supervisor with clock := max s.supervisor.clock ms }
        receiver := { s.receiver with character := none, armed := stop } }) := by
  refine congrArg Host.Outcome.next ((whileRunning_of_running running).trans ?_)
  rw [taken]

theorem collectedAfter_judged {good : Prop} [Decidable good] (data : Byte) (old : List Byte) :
    collectedAfter old (if good then some data else none)
      = if ¬good ∨ old = [] ∧ data ≠ 0x5C ∨ 8 ≤ old.length then [] else old ++ [data] := by
  by_cases isGood : good
  · rw [if_pos isGood]
    exact if_congr ⟨.inr, fun h => h.resolve_left (not_not.mpr isGood)⟩ rfl rfl
  · rw [if_neg isGood, if_pos (.inl isGood), collectedAfter]

theorem gapAfter_judged {good : Prop} [Decidable good] (data : Byte) (gap : Nat) (r : Receiver) :
    gapAfter gap r (if good then some data else none)
      = if good ∧ (r.collected = [] ∧ data = 0x5C ∨ r.collected ≠ [] ∧ r.collected.length < 8) then
          some gap
        else if good ∧ r.collected = [] then r.gapTimer else none := by
  by_cases isGood : good
  · rw [if_pos isGood]
    exact if_congr (and_iff_right isGood).symm rfl (if_congr (and_iff_right isGood).symm rfl rfl)
  · rw [if_neg isGood, if_neg (c := good ∧ _) fun h => isGood h.1,
      if_neg (c := good ∧ _) fun h => isGood h.1, gapAfter]

/-- O38's first part: a character, judged and collected. -/
theorem charactersAreJudged (data : Byte) (parityBit stop : Bool) (ms : Nat) (format : Parity)
    {s t : State} {broken framing wrong good : Prop}
    [Decidable broken] [Decidable framing] [Decidable wrong] [Decidable good]
    (isBreak : broken ↔ data = 0 ∧ (format = .noParity ∨ parityBit = false) ∧ stop = false)
    (isFraming : framing ↔ ¬broken ∧ stop = false)
    (isWrong : wrong ↔ stop = true ∧ parityWrong format data parityBit = true)
    (isGood : good ↔ stop = true ∧ ¬wrong)
    (is : t = assemble (judgeCharacter format data parityBit stop).byte { s with
        device := s.device.countCharacter (judgeCharacter format data parityBit stop)
        supervisor := { s.supervisor with clock := max s.supervisor.clock ms }
        receiver := { s.receiver with character := none, armed := stop } }) :
    let old := s.receiver.collected
    t.device.breakErrors =
        (if broken then min 65535 (s.device.breakErrors + 1) else s.device.breakErrors)
      ∧ t.device.framingErrors =
        (if framing then min 65535 (s.device.framingErrors + 1) else s.device.framingErrors)
      ∧ t.device.parityErrors =
        (if wrong then min 65535 (s.device.parityErrors + 1) else s.device.parityErrors)
      ∧ t.receiver.character = none ∧ t.receiver.armed = stop
      ∧ t.supervisor.clock = max s.supervisor.clock ms
      ∧ t.receiver.collected =
        (if ¬good ∨ old = [] ∧ data ≠ 0x5C ∨ 8 ≤ old.length then [] else old ++ [data])
      ∧ t.receiver.gapTimer =
        (if good ∧ (old = [] ∧ data = 0x5C ∨ old ≠ [] ∧ old.length < 8) then some (3 * charTime s)
        else if good ∧ old = [] then s.receiver.gapTimer else none)
      ∧ (¬good ∨ old.length < 8 → t = { s with
          device := { s.device with
            breakErrors := t.device.breakErrors, framingErrors := t.device.framingErrors
            parityErrors := t.device.parityErrors }
          receiver := t.receiver
          supervisor := { s.supervisor with clock := t.supervisor.clock } }) := by
  intro old
  have byte : (judgeCharacter format data parityBit stop).byte = if good then some data else none := by
    rw [judgeCharacter_byte]
    refine if_congr ?_ rfl rfl
    rw [isGood, isWrong, not_and]
    exact and_congr_right fun high => ⟨fun h _ => h, fun h => h high⟩
  rw [countCharacter_eq s.device format data parityBit stop isBreak isFraming isWrong] at is
  generalize (judgeCharacter format data parityBit stop).byte = b at byte is
  obtain ⟨receiver, frame, whole⟩ := assemble_spec b { s with
    device := { s.device with
      breakErrors := if broken then min 65535 (s.device.breakErrors + 1) else s.device.breakErrors
      framingErrors := if framing then min 65535 (s.device.framingErrors + 1) else s.device.framingErrors
      parityErrors := if wrong then min 65535 (s.device.parityErrors + 1) else s.device.parityErrors }
    supervisor := { s.supervisor with clock := max s.supervisor.clock ms }
    receiver := { s.receiver with character := none, armed := stop } }
  rw [← is] at receiver frame whole
  have time : charTime { s with
    device := { s.device with
      breakErrors := if broken then min 65535 (s.device.breakErrors + 1) else s.device.breakErrors
      framingErrors := if framing then min 65535 (s.device.framingErrors + 1) else s.device.framingErrors
      parityErrors := if wrong then min 65535 (s.device.parityErrors + 1) else s.device.parityErrors }
    supervisor := { s.supervisor with clock := max s.supervisor.clock ms }
    receiver := { s.receiver with character := none, armed := stop } } = charTime s := rfl
  rw [time] at receiver
  clear is
  refine ⟨frame.breaks, frame.framing, frame.parity, (congrArg Receiver.character receiver).trans rfl,
    (congrArg Receiver.armed receiver).trans rfl, frame.clock,
    (congrArg Receiver.collected receiver).trans ?_, (congrArg Receiver.gapTimer receiver).trans ?_,
    fun standing => ?_⟩
  · rw [byte]
    exact collectedAfter_judged data old
  · rw [byte]
    exact gapAfter_judged data _ _
  · have same := whole (standing.imp (fun h => byte.trans (if_neg h)) id)
    rw [frame.breaks, frame.framing, frame.parity, frame.clock]
    exact same

/-! ### Telegrams -/

theorem judgeTelegram_nine (b0 b1 b2 b3 b4 b5 b6 b7 data : Byte) (time : Nat) :
    judgeTelegram [b0, b1, b2, b3, b4, b5, b6, b7, data] time =
      if (b0.toNat + b1.toNat + b2.toNat + b3.toNat + b4.toNat + b5.toNat + b6.toNat
          + b7.toNat + data.toNat) % 256 ≠ 0 then .checkError
      else if 1600 < b4.toNat * 256 + b5.toNat ∨ 200 < b6.toNat ∨ b1 ++ b2 ++ b3 = (0 : SensorId)
          ∨ b1 ++ b2 ++ b3 = (0xFFFFFF : SensorId) then .rangeError
      else .valid ⟨b1 ++ b2 ++ b3, b4.toNat * 256 + b5.toNat, b6.toNat,
        TelegramFlags.ofByte b7, time⟩ := by
  have sum : ([b0, b1, b2, b3, b4, b5, b6, b7, data].map BitVec.toNat).sum
      = b0.toNat + b1.toNat + b2.toNat + b3.toNat + b4.toNat + b5.toNat + b6.toNat
        + b7.toNat + data.toNat := by
    simp only [List.map_cons, List.map_nil, List.sum_cons, List.sum_nil]
    omega
  unfold judgeTelegram
  rw [sum]
  rfl

/-- O38's second part: the ninth byte. -/
theorem telegramsAreJudged {b0 b1 b2 b3 b4 b5 b6 b7 : Byte} (data : Byte) (ms : Nat) {s : State}
    (running : Running s) (taken : s.receiver.character = some .noParity)
    (eight : s.receiver.collected = [b0, b1, b2, b3, b4, b5, b6, b7]) :
    exec (.characterComplete data false true ms) s = .next (takeTelegram
      (judgeTelegram [b0, b1, b2, b3, b4, b5, b6, b7, data] (max s.supervisor.clock ms)) { s with
        supervisor := { s.supervisor with clock := max s.supervisor.clock ms }
        receiver := { s.receiver with
          character := none, armed := true, collected := [], gapTimer := none } }) := by
  have good : judgeCharacter .noParity data false true = .good data :=
    if_neg fun h => Bool.noConfusion h.2.2
  rw [exec_characterComplete running taken, good]
  refine congrArg Host.Outcome.next ((if_neg ?_).trans ((if_neg ?_).trans ?_))
  · rw [show State.receiver _ = _ from rfl, eight]
    exact List.cons_ne_nil _ _
  · rw [show State.receiver _ = _ from rfl, eight]
    exact Nat.lt_irrefl 8
  · rw [show State.receiver _ = _ from rfl, eight]
    rfl

/-- Settles O38: a judged character is collected, and the ninth byte's telegram judged. -/
theorem charactersAndTelegramsAreJudged : Obligations.CharactersAndTelegramsAreJudged := by
  refine ⟨fun data parityBit stop ms format s running taken =>
    ⟨_, exec_characterComplete running taken data parityBit stop ms, ?_⟩,
    fun b0 b1 b2 b3 b4 b5 b6 b7 data ms s running taken eight => ?_⟩
  · intro ones isBreak framing wrong good old bits
    have time : charTime s = bits * (4 * s.device.divisor) := charTime_eq s
    rw [← time]
    exact charactersAreJudged data parityBit stop ms format Iff.rfl Iff.rfl
      (and_congr_right fun _ => (parityWrong_iff format data parityBit).symm) Iff.rfl rfl
  · intro sum pressure id u
    refine (telegramsAreJudged data ms running taken eight).trans (congrArg Host.Outcome.next ?_)
    rw [judgeTelegram_nine]
    by_cases check : sum % 256 ≠ 0
    · rw [if_pos check, if_pos check]
      rfl
    rw [if_neg check, if_neg check]
    by_cases range : 1600 < pressure ∨ 200 < b6.toNat ∨ id = 0 ∨ id = 0xFFFFFF
    · rw [if_pos range, if_pos range]
      rfl
    · rw [if_neg range, if_neg range]
      rfl

end Sys2Proof.Machine
end

section
/-! The tyre requests (O46, O47). -/

namespace Sys2Proof.Machine

/-! ### The position that a request names -/

theorem namedTyre_of_out_of_range {s : State} {table : BitVec 3} {index : BitVec 5}
    (out : table ≠ 3 ∨ 16 ≤ index.toNat) : namedTyre s table index = .error .refusedRange := by
  unfold namedTyre
  by_cases tyre : table = 3
  · exact (if_pos tyre).trans (dif_neg (Nat.not_lt.mpr (out.resolve_left (not_not.mpr tyre))))
  · exact if_neg tyre

theorem namedTyre_of_named {s : State} {table : BitVec 3} {index : BitVec 5} {p : Fin 16}
    (named : table = 3 ∧ index.toNat = p.val) :
    namedTyre s table index = if s.tyres[p].present then .ok p else .error .refusedAbsent := by
  obtain ⟨tyre, here⟩ := named
  have below : index.toNat < 16 := here ▸ p.isLt
  obtain rfl : (⟨index.toNat, below⟩ : Fin 16) = p := Fin.ext here
  exact (if_pos tyre).trans (dif_pos below)

theorem idOfWords_eq (high low : Word) :
    idOfWords high low = BitVec.ofNat 24 (high.toNat * 65536 + low.toNat) := by
  refine BitVec.eq_of_toNat_eq ?_
  rw [idOfWords, BitVec.toNat_append, BitVec.extractLsb'_toNat, BitVec.toNat_ofNat, Nat.shiftRight_zero]
  have small : low.toNat < 2 ^ 16 := low.isLt
  rw [← Nat.shiftLeft_add_eq_or_of_lt small, Nat.shiftLeft_eq]
  omega

/-! ### ENROL -/

/-- R142 case 1: some existing paired position holds the ID. -/
theorem pairedPosition_isSome_iff (s : State) (id : SensorId) :
    (pairedPosition s id).isSome = true ↔ ∃ q : Fin 16, s.tyres[q].present = true
      ∧ (s.tyres[q].state = .live ∨ s.tyres[q].state = .missing) ∧ s.tyres[q].id = some id := by
  rw [Option.isSome_iff_ne_none, Ne, pairedPosition_eq_none_iff]
  simp only [not_forall, not_not, exists_prop]

/-- Settles O46: the checks in their order. -/
theorem enrolChecksInOrder : Obligations.EnrolChecksInOrder := by
  intro table index high low p s served id x named answers badId taken paired
  have same : idOfWords high low = id := idOfWords_eq high low
  have refused {e : Result} (position : namedTyre (closeTransaction s) table index = .ok p)
      (refusal : enrolRefusal (closeTransaction s) p high id = some e) : answers e s := by
    refine congrArg Host.Outcome.next (request_answers served ?_)
    rw [enrolOwner, position]
    dsimp only
    rw [same, refusal]
    rfl
  have unnamed {e : Result} (position : namedTyre (closeTransaction s) table index = .error e) :
      answers e s := by
    refine congrArg Host.Outcome.next (request_answers served ?_)
    rw [enrolOwner, position]
    rfl
  have position (isNamed : named) (present : x.present = true) :
      namedTyre (closeTransaction s) table index = .ok p :=
    (namedTyre_of_named isNamed).trans (if_pos present)
  refine ⟨fun out => unnamed (namedTyre_of_out_of_range out), fun isNamed absent => ?_,
    fun isNamed present bad => refused (position isNamed present) (if_pos bad),
    fun isNamed present good learning => refused (position isNamed present)
      ((if_neg good).trans (if_pos learning)),
    fun isNamed present good pairs => refused (position isNamed present)
      ((if_neg good).trans ((if_neg ?_).trans (if_pos ((TyreState.isPaired_iff _).mpr pairs)))),
    fun isNamed present good unpaired isTaken => refused (position isNamed present)
      ((if_neg good).trans ((if_neg ?_).trans ((if_neg ?_).trans
        (if_pos ((pairedPosition_isSome_iff s id).mpr isTaken))))),
    fun isNamed present good unpaired free => ?_⟩
  · refine unnamed ((namedTyre_of_named isNamed).trans (if_neg ?_))
    exact (Bool.eq_false_iff.mp absent :)
  · intro learning
    exact pairs.elim (fun h => TyreState.noConfusion (h.symm.trans learning))
      fun h => TyreState.noConfusion (h.symm.trans learning)
  · intro learning
    exact TyreState.noConfusion (learning.symm.trans unpaired)
  · rw [TyreState.isPaired_iff]
    exact fun h => h.elim (fun h => TyreState.noConfusion (h.symm.trans unpaired))
      fun h => TyreState.noConfusion (h.symm.trans unpaired)
  · refine congrArg Host.Outcome.next (request_answers served ?_)
    rw [enrolOwner, position isNamed present]
    dsimp only
    have accepted : enrolRefusal (closeTransaction s) p high id = none :=
      enrolRefusal_eq_none_iff.mpr ⟨good, unpaired, Option.not_isSome_iff_eq_none.mp
        (mt (pairedPosition_isSome_iff s id).mp free)⟩
    rw [same, accepted]
    dsimp only
    rw [putTyre_of_watchedDiffer (Tyre.watchedDiffer_of_state_ne ?_)]
    · rfl
    · exact fun h => TyreState.noConfusion (unpaired.symm.trans h)

/-! ### RETIRE and LEARN -/

/-- Settles O47: by the state of the position. -/
theorem retireAndLearn : Obligations.RetireAndLearn := by
  intro table index p s served x named answers unpaired learning
  have retired {e : Result} {t : State}
      (answer : retireOwner table index (closeTransaction s)
        = (plainReply e index, closeTransaction t)) : answers (.retire table index) 5 e t :=
    congrArg Host.Outcome.next (request_answers served answer)
  have learned {e : Result} {t : State}
      (answer : learnOwner table index (closeTransaction s)
        = (plainReply e index, closeTransaction t)) : answers (.learn table index) 6 e t :=
    congrArg Host.Outcome.next (request_answers served answer)
  have unnamed {e : Result} (position : namedTyre (closeTransaction s) table index = .error e) :
      answers (.retire table index) 5 e s ∧ answers (.learn table index) 6 e s :=
    ⟨retired (by rw [retireOwner, position]), learned (by rw [learnOwner, position])⟩
  have stands : learningPosition (closeTransaction s) = none ↔ ¬learning :=
    learningPosition_eq_none_iff.trans not_exists.symm
  refine ⟨fun out => unnamed (namedTyre_of_out_of_range out), fun isNamed absent =>
    unnamed ((namedTyre_of_named isNamed).trans (if_neg (Bool.eq_false_iff.mp absent :))),
    fun isNamed present => ?_⟩
  have position : namedTyre (closeTransaction s) table index = .ok p :=
    (namedTyre_of_named isNamed).trans (if_pos present)
  have changes {y : Tyre} (state : x.state ≠ y.state) : putTyre p y (closeTransaction s)
      = (closeTransaction s).setTyre p { y with changeMark := true } :=
    putTyre_of_watchedDiffer (Tyre.watchedDiffer_of_state_ne state)
  refine ⟨fun state => retired ?_, fun state => retired ?_, fun state => retired ?_,
    fun busy => learned ?_, fun state free => learned ?_⟩
  · rw [retireOwner, position]
    dsimp only
    rw [show (closeTransaction s).tyres[p].state = _ from state]
  · rw [retireOwner, position]
    dsimp only
    rw [show (closeTransaction s).tyres[p].state = _ from state]
    exact congrArg (Prod.mk _) (endLearning_of_learning .cancelled state)
  · rw [retireOwner, position]
    dsimp only
    obtain state | state := state <;> rw [show (closeTransaction s).tyres[p].state = _ from state] <;>
      exact congrArg (Prod.mk _) (changes (by rw [state]; exact TyreState.noConfusion))
  · rw [learnOwner, position]
    refine if_neg fun h => busy.elim (fun h' => h' h.1) fun stand => stands.mp h.2 stand
  · rw [learnOwner, position]
    refine (if_pos ⟨state, stands.mpr free⟩).trans ?_
    exact congrArg (Prod.mk _) (changes (by rw [state]; exact TyreState.noConfusion))

end Sys2Proof.Machine
end

section
/-! The link's output words, the attention sources and the transactions without an owner (O42). -/

namespace Sys2Proof.Machine

/-! ### Words put together -/

theorem toNat_append_add {m n : Nat} (x : BitVec m) (y : BitVec n) :
    (x ++ y).toNat = x.toNat * 2 ^ n + y.toNat := by
  rw [BitVec.toNat_append, ← Nat.shiftLeft_add_eq_or_of_lt y.isLt, Nat.shiftLeft_eq]

/-- R176: a word of fault kinds, by its bits. -/
theorem kindBits_toNat (f : FaultMark → Bool) (x : FaultSet) : (kindBits f x).toNat =
    2048 * (f x.linkFrame).toNat + 1024 * (f x.jam).toNat + 512 * (f x.supplyLow).toNat
      + 256 * (f x.lift).toNat + 128 * (x.supplyWait.toList.any f).toNat
      + 64 * (x.speed.toList.any f).toNat + 32 * (x.bellows.toList.any f).toNat
      + 16 * (f x.reservoir).toNat + 8 * (f x.demand).toNat + 4 * (x.delivered.toList.any f).toNat
      + 2 * (x.valveShort.toList.any f).toNat + (x.valveOpen.toList.any f).toNat := by
  unfold kindBits
  simp only [toNat_append_add, BitVec.toNat_ofBool, BitVec.toNat_ofNat]
  omega

/-- R176: a word of fault kinds is zero where no fault has the mark. -/
theorem kindBits_ne_zero_iff (f : FaultMark → Bool) (x : FaultSet) :
    (kindBits f x != 0) = true ↔ ∃ id : FaultId, f (x.get id) = true := by
  have zero : kindBits f x = 0 ↔ (kindBits f x).toNat = 0 :=
    ⟨fun h => by rw [h]; rfl, fun h => BitVec.eq_of_toNat_eq (h.trans rfl)⟩
  have bit (b : Bool) : b.toNat = 0 ↔ b = false := by cases b <;> decide
  rw [bne_iff_ne, Ne, zero, kindBits_toNat]
  simp only [Nat.add_eq_zero_iff, Nat.mul_eq_zero, OfNat.ofNat_ne_zero, false_or, bit]
  constructor
  · intro notAll
    by_contra no
    have off (id : FaultId) : f (x.get id) = false := Bool.eq_false_iff.mpr fun h => no ⟨id, h⟩
    have offAll {n : Nat} {v : Vector FaultMark n} (all : ∀ i : Fin n, f v[i] = false) :
        v.toList.any f = false := by
      rw [List.any_eq_false]
      intro m mem
      obtain ⟨i, below, rfl⟩ := List.getElem_of_mem mem
      rw [Vector.getElem_toList]
      exact Bool.eq_false_iff.mp (all ⟨i, by simpa using below⟩)
    exact notAll ⟨⟨⟨⟨⟨⟨⟨⟨⟨⟨⟨off .linkFrame, off .jam⟩, off .supplyLow⟩, off .lift⟩,
      offAll fun c => off (.supplyWait c)⟩, offAll fun w => off (.speed w)⟩,
      offAll fun a => off (.bellows a)⟩, off .reservoir⟩, off .demand⟩,
      offAll fun c => off (.delivered c)⟩, offAll fun o => off (.valveShort o)⟩,
      offAll fun o => off (.valveOpen o)⟩
  · rintro ⟨id, on⟩ ⟨⟨⟨⟨⟨⟨⟨⟨⟨⟨⟨linkFrame, jam⟩, supplyLow⟩, lift⟩, supplyWait⟩, speed⟩, bellows⟩,
      reservoir⟩, demand⟩, delivered⟩, valveShort⟩, valveOpen⟩
    have offOne {n : Nat} {v : Vector FaultMark n} (all : v.toList.any f = false) (i : Fin n) :
        f v[i] = false := by
      rw [List.any_eq_false] at all
      refine Bool.eq_false_iff.mpr (all _ ?_)
      exact Vector.mem_toList_iff.mpr (Vector.getElem_mem i.isLt)
    have off : f (x.get id) = false := by
      cases id with
      | valveOpen o => exact offOne valveOpen o
      | valveShort o => exact offOne valveShort o
      | delivered c => exact offOne delivered c
      | demand => exact demand
      | reservoir => exact reservoir
      | bellows a => exact offOne bellows a
      | speed w => exact offOne speed w
      | supplyWait c => exact offOne supplyWait c
      | lift => exact lift
      | supplyLow => exact supplyLow
      | jam => exact jam
      | linkFrame => exact linkFrame
    exact Bool.noConfusion (off.symm.trans on)

/-- R176: some fault is present or latched. -/
theorem faulted_eq (s : State) : (faultsPresent s != 0 || faultsLatched s != 0)
    = allFaults.any fun f => (s.faults.get f).present || (s.faults.get f).latched := by
  rw [Bool.eq_iff_iff, Bool.or_eq_true, faultsPresent, faultsLatched, kindBits_ne_zero_iff,
    kindBits_ne_zero_iff, ← exists_or, List.any_eq_true]
  simp [mem_allFaults]

theorem resultWord_toNat (r : Response) : (resultWord r).toNat =
    4096 * r.result.code + 64 * r.kind.toNat + r.index.toNat := by
  have small : r.result.code < 16 := by cases r.result <;> decide
  unfold resultWord
  simp only [toNat_append_add, BitVec.toNat_ofNat]
  omega

theorem attentionCode_eq (s : State) : attentionCode s =
    ((List.range 6).find? fun k => (attentionRaised s).getLsbD k).elim 0 (· + 1) := by
  have first (p : Nat → Bool) : (if p 0 then 1 else if p 1 then 2 else if p 2 then 3
      else if p 3 then 4 else if p 4 then 5 else if p 5 then 6 else 0)
        = ((List.range 6).find? p).elim 0 (· + 1) := by
    rw [show List.range 6 = [0, 1, 2, 3, 4, 5] from rfl]
    simp only [List.find?_cons, List.find?_nil]
    cases p 0; cases p 1; cases p 2; cases p 3; cases p 4; cases p 5
    all_goals rfl
  exact first _

theorem attentionCode_le (s : State) : attentionCode s ≤ 6 := by
  unfold attentionCode
  split_ifs <;> omega

theorem fallbackCount_le (s : State) : fallbackCount s ≤ 4 :=
  List.countP_le_length.trans (by rw [List.length_finRange])

theorem statusWord_toNat (s : State) : (statusWord s).toNat =
    32768 * (faultsPresent s != 0 || faultsLatched s != 0).toNat
      + 16384 * (attentionRaised s != 0).toNat + 4096 * s.device.state.code
      + 256 * attentionCode s + 128 * s.device.restarted.toNat + 64 * s.device.failsafe.toNat
      + 8 * s.rollover.state.code + fallbackCount s := by
  have device : s.device.state.code < 4 := by cases s.device.state <;> decide
  have rollover : s.rollover.state.code < 8 := by cases s.rollover.state <;> decide
  have code := attentionCode_le s
  have count := fallbackCount_le s
  unfold statusWord
  simp only [toNat_append_add, BitVec.toNat_ofBool, BitVec.toNat_ofNat]
  omega

/-! ### The output words -/

theorem outputWord_of_le {l : Link} {n : Nat} (past : 10 ≤ n) : l.outputWord n = l.dataRest :=
  dif_neg (Nat.not_lt.mpr past)

theorem outputWord_fin (l : Link) (k : Fin 10) : l.outputWord k = l.dataOut[k] := dif_pos k.isLt

theorem outputWords_data (s : State) (k : Fin 8) :
    (outputWords s)[k.val + 2] = s.link.response.data[k] := by
  simp [outputWords]

theorem beginTransaction_of_serves {s : State} (serves : linkServes s = true) : beginTransaction s
    = { s with link := { s.link with
        select := .serving, dataOut := outputWords s, dataRest := 0 } } := by
  rw [beginTransaction, if_pos serves]

theorem beginTransaction_of_not_serves {s : State} (quiet : linkServes s = false) :
    beginTransaction s = { s with link := { s.link with
        select := .unserved, dataOut := Vector.replicate 10 0xFFFF, dataRest := 0xFFFF } } := by
  rw [beginTransaction, quiet]
  rfl

/-! ### The attention sources -/

theorem attentionPending_bits (s : State) :
    (attentionPending s).getLsbD 0 = s.link.faultPending
      ∧ (attentionPending s).getLsbD 1 = s.link.rolloverPending
      ∧ (attentionPending s).getLsbD 2 = tyreMarked s
      ∧ (attentionPending s).getLsbD 3 = learnOutstanding s
      ∧ (attentionPending s).getLsbD 4 = axleMarked s
      ∧ (attentionPending s).getLsbD 5 = s.link.candidatePending := by
  have bits : ∀ a b c d e f : Bool,
      let x : BitVec 6 := BitVec.ofBool a ++ BitVec.ofBool b ++ BitVec.ofBool c ++ BitVec.ofBool d
        ++ BitVec.ofBool e ++ BitVec.ofBool f
      x.getLsbD 0 = f ∧ x.getLsbD 1 = e ∧ x.getLsbD 2 = d ∧ x.getLsbD 3 = c ∧ x.getLsbD 4 = b
        ∧ x.getLsbD 5 = a := by decide
  exact bits _ _ _ _ _ _

theorem bne_zero_iff_getLsbD {n : Nat} (x : BitVec n) :
    (x != 0) = true ↔ ∃ k : Fin n, x.getLsbD k = true := by
  rw [bne_iff_ne, Ne, ← not_iff_comm, not_exists]
  constructor
  · intro off
    refine BitVec.eq_of_getLsbD_eq fun i below => ?_
    simpa using off ⟨i, below⟩
  · rintro rfl k
    simp

theorem attentionLow_iff (s : State) : attentionLow s = true ↔ Running s ∧ s.device.state ≠ .init
    ∧ ∃ k : Fin 6, (attentionPending s).getLsbD k = true
      ∧ s.device.attentionEnable.getLsbD k = true := by
  rw [attentionLow, Bool.and_eq_true, linkServes_iff, bne_zero_iff_getLsbD, attentionRaised, and_assoc]
  simp only [BitVec.getLsbD_and, Bool.and_eq_true]

/-! ### Frame errors -/

/-- R165, R176: LINK_FRAME is present for an instant, and latches. -/
theorem linkFrame_pulse (s : State) : report .linkFrame false (report .linkFrame true s) = { s with
    faults := { s.faults with linkFrame := ⟨false, s.faults.linkFrame.latched
      || (!s.device.faultMask.getLsbD 11 && !s.faults.linkFrame.present)⟩ }
    link := { s.link with faultPending := s.link.faultPending
      || (!s.device.faultMask.getLsbD 11 && !s.faults.linkFrame.present
        && !s.faults.linkFrame.latched) } } := by
  simp [report, FaultSet.get, FaultSet.set, masked, FaultId.isLatched, FaultId.bit]

/-- Settles O42: the fall of SELECT, the sources, and the requests that no owner takes. -/
theorem selectFramesTransactions : Obligations.SelectFramesTransactions := by
  refine ⟨fun n s => ⟨fun running notInit => ?_, fun quiet => ?_, fun low => ?_⟩, fun s => ?_,
    fun h kind index s served => ⟨?_, ?_, ?_⟩⟩
  · have serves := (linkServes_iff s).mpr ⟨running, notInit⟩
    refine ⟨_, congrArg Host.Outcome.next (beginTransaction_of_serves serves), rfl, outputWord_of_le,
      outputWord_fin _, ?_, ?_, ?_⟩
    · refine (statusWord_toNat s).trans ?_
      rw [faulted_eq, attentionCode_eq]
      rfl
    · exact resultWord_toNat s.link.response
    · exact outputWords_data s
  · have notServes : linkServes s = false := (linkServes_eq_false_iff s).mpr quiet
    refine ⟨_, congrArg Host.Outcome.next (beginTransaction_of_not_serves notServes), rfl, ?_⟩
    by_cases inside : n < 10
    · exact (outputWord_fin _ ⟨n, inside⟩).trans (Vector.getElem_replicate inside)
    · exact outputWord_of_le (Nat.not_lt.mp inside)
  · have opened : openTransaction s = s := by
      unfold openTransaction
      obtain low | low := low <;> rw [low]
    refine ⟨congrArg Host.Outcome.next ((ite_self _).trans ?_), congrArg Host.Outcome.next ?_⟩ <;>
      rw [opened] <;> rfl
  · obtain ⟨fault, rollover, tyre, learn, load, candidate⟩ := attentionPending_bits s
    refine ⟨fault, rollover, ?_, ?_, ?_, candidate, attentionLow_iff s⟩
    · rw [tyre]
      simp [tyreMarked]
    · rw [learn]
      simp [learnOutstanding]
    · rw [load]
      simp [axleMarked]
  · intro hk hi unmasked old
    refine congrArg Host.Outcome.next ((transact_of_served served).trans ?_)
    rw [linkFrame_pulse]
    cases h <;> rfl
  · exact congrArg Host.Outcome.next (request_answers served rfl)
  · exact congrArg Host.Outcome.next (request_answers served rfl)

end Sys2Proof.Machine
end

section
/-! The Tyre Supervisor's arrivals and ageing (O39, O40, O41). -/

namespace Sys2Proof.Machine

/-! ### The dispatch of an arrival -/

theorem takeArrival_of_paired {s : State} {a : Arrival} {p : Fin 16}
    (found : pairedPosition s a.id = some p) : takeArrival a s
      = putTyre p { s.tyres[p].update a with bearing := axleDown s (axleOfTyre p) } s := by
  rw [takeArrival, found]

theorem takeArrival_of_learning {s : State} {a : Arrival} {p : Fin 16}
    (unpaired : pairedPosition s a.id = none) (learns : learningPosition s = some p)
    (fit : qualifies s a = true) : takeArrival a s = learnArrival p a s := by
  rw [takeArrival, unpaired, learns]
  exact if_pos fit

theorem takeArrival_of_listed {s : State} {a : Arrival} (unpaired : pairedPosition s a.id = none)
    (unfit : learningPosition s = none ∨ qualifies s a = false) :
    takeArrival a s = listCandidate a s := by
  rw [takeArrival, unpaired]
  cases learns : learningPosition s with
  | none => rfl
  | some p =>
    refine if_neg (Bool.eq_false_iff.mp (unfit.resolve_left ?_))
    rw [learns]
    exact Option.some_ne_none p

theorem qualifies_iff (s : State) (a : Arrival) : qualifies s a = true ↔ a.flags.learnTrigger = true
    ∨ ∃ k ∈ s.supervisor.candidates, k.id = a.id ∧ a.pAbs - 101 + 40 ≤ k.lastGauge := by
  rw [qualifies, Bool.or_eq_true, List.any_eq_true]
  refine or_congr_right (exists_congr fun k => and_congr_right fun _ => ?_)
  rw [Bool.and_eq_true, beq_iff_eq, decide_eq_true_iff]
  rfl

/-- Settles O40: the arrival reaches the list. -/
theorem candidateListTakesArrivals : Obligations.CandidateListTakesArrivals := by
  intro a s unpaired unfit l
  have listed : takeArrival a s = listCandidate a s := by
    refine takeArrival_of_listed (pairedPosition_eq_none_iff.mpr unpaired) (unfit.imp ?_ ?_)
    · intro idle
      exact learningPosition_eq_none_iff.mpr fun q ⟨present, learning⟩ => idle q present learning
    · rintro ⟨noTrigger, low⟩
      refine Bool.eq_false_iff.mpr fun fit => ?_
      obtain trigger | ⟨k, here, same, high⟩ := (qualifies_iff s a).mp fit
      · exact Bool.noConfusion (noTrigger.symm.trans trigger)
      · exact absurd high (Nat.not_le.mpr (low k here same))
  rw [listed]
  refine ⟨fun known => ?_, fun new => ?_⟩
  · refine (if_pos known).trans ?_
    simp only [beq_iff_eq]
    rfl
  · refine (if_neg (Bool.eq_false_iff.mp new)).trans ?_
    have room : (if l.length < 8 then l else l.drop 1) = if 8 ≤ l.length then l.drop 1 else l := by
      rw [← ite_not, if_congr Nat.not_lt rfl rfl]
    rw [room]
    rfl

/-! ### The records that an arrival updates -/

/-- Settles O39's second part: the level and RAPID. -/
theorem levelAfter_and_rapidAfter (before : AlarmLevel) (rapid : Bool)
    (nominal p20 old time since : Nat) :
    levelAfter before nominal p20 =
        (if before.severity < (levelAt nominal 0 p20).severity then levelAt nominal 0 p20
        else if (levelAt nominal 10 p20).severity < before.severity then levelAt nominal 10 p20
        else before)
      ∧ rapidAfter rapid none p20 time = rapid
      ∧ (120000 < time - since → rapidAfter rapid (some ⟨old, since⟩) p20 time = rapid)
      ∧ (time - since ≤ 120000 →
          let rate : Int := (((old : Int) - p20) * 60000).tdiv (max 1 (time - since) : Nat)
          rapidAfter rapid (some ⟨old, since⟩) p20 time =
            (if 30 ≤ rate then true else if rate < 10 then false else rapid)) :=
  ⟨rfl, rfl, fun late => if_neg (Nat.not_le.mpr late), fun soon => if_pos soon⟩

/-- R153: the record of a position that has learned an arrival. -/
def Tyre.learned (x : Tyre) (a : Arrival) (down : Bool) : Tyre :=
  { (x.paired a.id).update a with
    learnResult := .success, learnOutstanding := true, bearing := down, changeMark := true }

theorem learnArrival_eq {s : State} {p : Fin 16} (a : Arrival)
    (learning : s.tyres[p].state = .learning) : learnArrival p a s
      = (s.setTyre p (s.tyres[p].learned a (axleDown s (axleOfTyre p)))).setCandidates
        (s.supervisor.candidates.filter fun k => k.id != a.id) := by
  unfold learnArrival removeCandidate
  rw [putTyre_of_watchedDiffer (Tyre.watchedDiffer_of_state_ne ?_)]
  · rfl
  · rw [learning]
    exact TyreState.noConfusion

theorem listCandidate_tyres (a : Arrival) (s : State) : (listCandidate a s).tyres = s.tyres := by
  unfold listCandidate
  dsimp only
  split <;> rfl

/-- Settles O39: by the dispatch. -/
theorem arrivalsUpdateTyreRecords : Obligations.ArrivalsUpdateTyreRecords := by
  refine ⟨fun a p s => ?_, fun before rapid nominal p20 old time since =>
    levelAfter_and_rapidAfter before rapid nominal p20 old time since⟩
  intro x y holds learns fit paired learned down p20 celsius
  have isDown : axleDown s (axleOfTyre p) = down := by
    change (_ && LiftState.isDown _) = _
    rw [isDown_eq]
  have frame := takeArrival_arrivalOnly a s
  have whole : takeArrival a s = { s with
      tyres := (takeArrival a s).tyres, supervisor := (takeArrival a s).supervisor
      link := (takeArrival a s).link } := by
    unfold ArrivalOnly at frame
    generalize takeArrival a s = t at frame
    rw [frame]
  by_cases isPaired : paired
  · have taken := takeArrival_of_paired (pairedPosition_eq_some_iff.mpr isPaired)
    rw [isDown] at taken
    have record : y = { x.update a with
        bearing := down, changeMark := x.changeMark || x.watchedDiffer { x.update a with
          bearing := down } } := by
      rw [show y = (takeArrival a s).tyres[p] from rfl, taken]
      exact State.setTyre_get_self _ _ _
    have notLearned : ¬learned := fun h => h.1 p isPaired.1
    refine ⟨fun _ => ?_, fun _ => ?_, fun h => absurd h notLearned,
      fun h => absurd isPaired h, whole⟩
    · rw [record, if_pos isPaired]
      exact ⟨rfl, isPaired.1.2.2, rfl, rfl, rfl, rfl, rfl, rfl, rfl, rfl, rfl, rfl, rfl, rfl⟩
    · rw [record, taken]
      exact ⟨rfl, rfl, rfl⟩
  by_cases isLearned : learned
  · obtain ⟨free, learning, first, isFit⟩ := isLearned
    have taken := takeArrival_of_learning
      (pairedPosition_eq_none_iff.mpr fun q present pairs same => free q ⟨present, pairs, same⟩)
      (learningPosition_eq_some_iff.mpr ⟨learning, first⟩) ((qualifies_iff s a).mpr isFit)
    rw [learnArrival_eq a learning.2, isDown] at taken
    have record : y = x.learned a down := by
      rw [show y = (takeArrival a s).tyres[p] from rfl, taken]
      exact State.setTyre_get_self _ _ _
    refine ⟨fun _ => ?_, fun h => absurd h isPaired, fun _ => ?_,
      fun _ h => absurd ⟨free, learning, first, isFit⟩ h, whole⟩
    · rw [record, if_neg isPaired]
      exact ⟨rfl, rfl, rfl, rfl, rfl, rfl, rfl, rfl, rfl, rfl, rfl, rfl, rfl, rfl⟩
    · rw [record, taken]
      exact ⟨rfl, rfl, rfl, rfl, rfl⟩
  refine ⟨fun h => (h.elim isPaired isLearned).elim, fun h => absurd h isPaired,
    fun h => absurd h isLearned, fun _ _ => ?_, whole⟩
  show (takeArrival a s).tyres[p] = x
  have listed (h : takeArrival a s = listCandidate a s) : (takeArrival a s).tyres[p] = x := by
    rw [h, listCandidate_tyres]
  cases found : pairedPosition s a.id with
  | some q =>
    have other : p ≠ q := fun h => isPaired (pairedPosition_eq_some_iff.mp (h ▸ found))
    rw [takeArrival_of_paired found]
    exact State.setTyre_get_ne _ _ _ _ other
  | none =>
    have free (q : Fin 16) : ¬holds q := fun h => pairedPosition_eq_none_iff.mp found q h.1 h.2.1 h.2.2
    cases learning : learningPosition s with
    | none => exact listed (takeArrival_of_listed found (.inl learning))
    | some q =>
      by_cases isFit : qualifies s a = true
      · have stands := learningPosition_eq_some_iff.mp learning
        have other : p ≠ q := by
          rintro rfl
          exact isLearned ⟨free, stands.1, stands.2, (qualifies_iff s a).mp isFit⟩
        rw [takeArrival_of_learning found learning isFit, learnArrival_eq a stands.1.2]
        exact State.setTyre_get_ne _ _ _ _ other
      · exact listed (takeArrival_of_listed found (.inr (Bool.eq_false_iff.mpr isFit)))

/-! ### Ageing -/

theorem ageCandidates_eq (l : List Candidate) : ageCandidates l =
    (l.filter fun k => decide (k.age < 299)).map (fun k => { k with age := k.age + 1 }) := by
  unfold ageCandidates
  rw [List.filter_map]
  congr 2
  funext k
  simp only [Function.comp_apply]
  congr 1
  exact propext (by omega)

/-- Where only TYRE records differ. -/
def TyresOnly (s t : State) : Prop := t = { s with tyres := t.tyres }

theorem TyresOnly.trans {s t u : State} (h : TyresOnly s t) (k : TyresOnly t u) : TyresOnly s u := by
  unfold TyresOnly at h k ⊢
  rw [h] at k
  exact k

/-- R158, R160: an existing position after an aging expiry. -/
def Tyre.grown (x : Tyre) (timeout : Nat) (down : Bool) : Tyre :=
  { x.aged timeout with
    bearing := down
    changeMark := x.changeMark || x.watchedDiffer { x.aged timeout with bearing := down } }

theorem State.setTyre_self (s : State) (p : Fin 16) : s.setTyre p s.tyres[p] = s := by
  unfold State.setTyre
  rw [Fin.getElem_fin, Vector.set_getElem_self]

theorem ageTyre_eq (p : Fin 16) (s : State) : ageTyre p s = s.setTyre p
    (if s.tyres[p].present = true then
      s.tyres[p].grown s.device.missingTimeout (axleDown s (axleOfTyre p))
    else s.tyres[p]) := by
  unfold ageTyre
  by_cases present : s.tyres[p].present = true
  · rw [if_pos present, if_pos present]
    rfl
  · rw [if_neg present, if_neg present, State.setTyre_self]

theorem ageTyres_spec (s : State) : TyresOnly s (forEach 16 ageTyre s)
    ∧ ∀ p : Fin 16, (forEach 16 ageTyre s).tyres[p] = if s.tyres[p].present = true then
        s.tyres[p].grown s.device.missingTimeout (axleDown s (axleOfTyre p)) else s.tyres[p] := by
  have only (p : Fin 16) (t : State) : TyresOnly t (ageTyre p t) := by
    rw [ageTyre_eq]
    rfl
  refine ⟨forEach_rel TyresOnly (fun _ => rfl) .trans only s, fun p => ?_⟩
  obtain ⟨u, reached, unmoved, -, last⟩ := forEach_at TyresOnly (fun _ => rfl) .trans only
    (fun t => t.tyres[p]) p (fun q t ne => by
      rw [ageTyre_eq]
      exact State.setTyre_get_ne _ _ _ _ ne.symm) s
  have down : axleDown u (axleOfTyre p) = axleDown s (axleOfTyre p) := by
    rw [show u = _ from reached]
    rfl
  have timeout : u.device = s.device := by rw [show u = _ from reached]
  rw [last, ageTyre_eq, State.setTyre_get_self, unmoved, down, timeout]

theorem Tyre.grown_of_paired {x : Tyre} (paired : x.state = .live ∨ x.state = .missing)
    (timeout : Nat) (down : Bool) :
    (x.grown timeout down).age = min 65535 (x.age + 1)
      ∧ (x.grown timeout down).rateHistory
        = (if 121 ≤ min 65535 (x.age + 1) then none else x.rateHistory)
      ∧ (x.grown timeout down).state
        = if timeout ≤ min 65535 (x.age + 1) then .missing else x.state := by
  have isPaired : x.state.isPaired = true := (TyreState.isPaired_iff x.state).mpr paired
  unfold Tyre.grown Tyre.aged
  rw [if_pos isPaired]
  refine ⟨rfl, if_congr (and_iff_right isPaired) rfl rfl, ?_⟩
  obtain live | missing := paired
  · exact if_congr (and_iff_right live) rfl rfl
  · refine (if_neg fun h => TyreState.noConfusion (missing.symm.trans h.1)).trans ?_
    rw [missing, ite_self]

theorem Tyre.grown_of_not_paired {x : Tyre} (notPaired : ¬(x.state = .live ∨ x.state = .missing))
    (timeout : Nat) (down : Bool) :
    (x.grown timeout down).age = x.age ∧ (x.grown timeout down).state = x.state
      ∧ (x.grown timeout down).rateHistory = x.rateHistory := by
  have notIs : ¬x.state.isPaired = true := mt (TyreState.isPaired_iff x.state).mp notPaired
  exact ⟨if_neg notIs, if_neg fun h => notPaired (.inl h.1), if_neg fun h => notIs h.1⟩

theorem Tyre.grown_changeMark {x : Tyre} {timeout : Nat} {down : Bool}
    (changed : (x.grown timeout down).state ≠ x.state) : (x.grown timeout down).changeMark = true := by
  have differ : x.watchedDiffer { x.aged timeout with bearing := down } = true :=
    Tyre.watchedDiffer_of_state_ne (Ne.symm changed)
  exact (congrArg (x.changeMark || ·) differ).trans (Bool.or_true _)

/-- Settles O41: position by position. -/
theorem agingAndLearnTimeout : Obligations.AgingAndLearnTimeout := by
  intro p s running
  have body (f : State → State) : whileRunning f s = f s := whileRunning_of_running running
  refine ⟨fun timer => ?_, fun present learning timer first => ?_⟩
  · refine ⟨_, congrArg Host.Outcome.next ((body _).trans (if_pos timer)), ?_⟩
    obtain ⟨only, records⟩ := ageTyres_spec
      (s.setCandidates (ageCandidates s.supervisor.candidates))
    have record := records p
    generalize forEach 16 ageTyre (s.setCandidates (ageCandidates s.supervisor.candidates)) = t
      at only record
    have isDown : axleDown (s.setCandidates (ageCandidates s.supervisor.candidates)) (axleOfTyre p)
        = (s.axles[axleOfTyre p].present && (s.axles[axleOfTyre p].liftState == .down
          || s.axles[axleOfTyre p].liftState == .notLiftable)) := by
      change (_ && LiftState.isDown _) = _
      rw [isDown_eq]
      rfl
    rw [isDown] at record
    have candidates : t.supervisor.candidates = ageCandidates s.supervisor.candidates := by
      rw [show t = _ from only]
      rfl
    refine ⟨candidates.trans (ageCandidates_eq _), ?_, ?_⟩
    · intro x y paired age
      refine ⟨fun absent => record.trans (if_neg (Bool.eq_false_iff.mp absent)),
        fun present notPaired => ?_, fun present isPaired => ?_, fun present => ?_⟩
      · rw [show y = _ from record.trans (if_pos present)]
        exact Tyre.grown_of_not_paired notPaired _ _
      · rw [show y = _ from record.trans (if_pos present)]
        obtain ⟨ages, history, state⟩ := Tyre.grown_of_paired isPaired s.device.missingTimeout
          (s.axles[axleOfTyre p].present && (s.axles[axleOfTyre p].liftState == .down
            || s.axles[axleOfTyre p].liftState == .notLiftable))
        exact ⟨ages, history, state, Tyre.grown_changeMark⟩
      · rw [show y = _ from record.trans (if_pos present)]
        rfl
    · rw [candidates]
      exact only
  · refine congrArg Host.Outcome.next ((body _).trans ?_)
    rw [learningPosition_eq_some_iff.mpr ⟨⟨present, learning⟩, first⟩]
    exact (if_pos timer).trans (endLearning_of_learning .timeout learning)

end Sys2Proof.Machine
end

section
/-! The checks of an AMEND in their order (O44). -/

namespace Sys2Proof.Machine

/-! ### The record that a request names -/

theorem TableId.ofCode_code {table : BitVec 3} {t : TableId} (same : t.code = table.toNat) :
    TableId.ofCode table = some t := by
  unfold TableId.ofCode
  rw [← same]
  cases t <;> rfl

theorem TableId.code_ofCode {table : BitVec 3} {t : TableId} (named : TableId.ofCode table = some t) :
    t.code = table.toNat := by
  have all : ∀ table : BitVec 3, ∀ t ∈ TableId.ofCode table, t.code = table.toNat := by decide
  exact all table t named

theorem recordOf_index (r : RecordId) : recordOf r.table r.index = some r := by
  cases r with
  | device | rollover => rfl
  | axle i | wheel i | tyre i | channel i | candidate i => exact dif_pos i.isLt

theorem recordOf_eq_some {t : TableId} {index : Nat} {r : RecordId} (named : recordOf t index = some r) :
    r.table = t ∧ r.index = index := by
  cases t <;> unfold recordOf at named <;> dsimp only at named <;> split at named <;> cases named
  case device.isTrue zero => exact ⟨rfl, zero.symm⟩
  case rollover.isTrue zero => exact ⟨rfl, zero.symm⟩
  all_goals exact ⟨rfl, rfl⟩

theorem namedRecord_of_named {table : BitVec 3} {index : BitVec 5} {r : RecordId} (s : State)
    (named : r.table.code = table.toNat ∧ r.index = index.toNat) :
    namedRecord s table index = if recordExists s r then .ok r else .error .refusedAbsent := by
  obtain ⟨table', index'⟩ := named
  unfold namedRecord
  rw [TableId.ofCode_code table', ← index']
  dsimp only
  rw [recordOf_index]

theorem namedRecord_of_unnamed {table : BitVec 3} {index : BitVec 5} (s : State)
    (unnamed : ∀ q : RecordId, ¬(q.table.code = table.toNat ∧ q.index = index.toNat)) :
    namedRecord s table index = .error .refusedRange := by
  unfold namedRecord
  cases found : TableId.ofCode table with
  | none => rfl
  | some t =>
    dsimp only
    cases here : recordOf t index.toNat with
    | none => rfl
    | some r =>
      obtain ⟨inTable, atIndex⟩ := recordOf_eq_some here
      exact absurd ⟨(congrArg TableId.code inTable).trans (TableId.code_ofCode found), atIndex⟩
        (unnamed r)

/-! ### The settings of the field tables -/

/-- The settings amendable in STANDBY alone. -/
def StandbySetting (s : State) (r : RecordId) (n : Nat) : Prop :=
  match r with
  | .device => n = 4 ∨ n = 17 ∨ n = 18 ∨ n = 19
  | .axle a => n = 1 ∨ n = 2 ∨ n = 8 ∨ n = 9 ∨ n = 10 ∨ n = 11
      ∨ 16 ≤ n ∧ n < 16 + 2 * s.axles[a].curve.length ∧ n < 28
  | .wheel _ => n = 3 ∨ n = 4
  | .channel _ => n = 8 ∨ n = 9 ∨ n = 10
  | .tyre _ => False
  | .candidate _ => False
  | .rollover => False

/-- The settings amendable in every state. -/
def AnySetting (r : RecordId) (n : Nat) : Prop :=
  match r with
  | .device => n = 12 ∨ n = 16 ∨ n = 20 ∨ n = 21 ∨ n = 22 ∨ n = 30
  | .axle _ => n = 15 ∨ 28 ≤ n ∧ n ≤ 31
  | .wheel _ => n = 2
  | .tyre _ => n = 8
  | .channel _ => n = 15 ∨ n = 24
  | .candidate _ => False
  | .rollover => 8 ≤ n ∧ n ≤ 12

/-- R13, R177: the values that an enumerated setting refuses. -/
def BadSetting (r : RecordId) (n : Nat) (value : Word) : Prop :=
  match r with
  | .device => n = 4 ∧ value &&& 0xF202 ≠ 0 ∨ n = 17 ∧ 1 < value.toNat ∨ n = 22 ∧ 2 < value.toNat
  | .axle _ => (n = 1 ∨ n = 2) ∧ 1 < value.toNat ∨ n = 10 ∧ (value.toNat < 2 ∨ 6 < value.toNat)
      ∨ n = 15 ∧ 2 < value.toNat
  | .wheel _ => n = 2 ∧ 1 < value.toNat
  | .tyre _ => False
  | .channel _ => n = 24 ∧ 1 < value.toNat
  | .candidate _ => False
  | .rollover => False

/-- R11 step 5: what a domain refuses. -/
def Domain.Refuses (d : Domain) (value : Word) : Prop :=
  match d with
  | .range _ _ => False
  | .codes n => n ≤ value.toNat
  | .pointCount => value.toNat < 2 ∨ 6 < value.toNat
  | .mask => value &&& 0xF202 ≠ 0

theorem Domain.accept_eq_none_iff (d : Domain) (value : Word) :
    d.accept value.toNat = none ↔ d.Refuses value := by
  cases d with
  | range lo hi => simp [Domain.accept, Domain.Refuses]
  | codes n => simp [Domain.accept, Domain.Refuses]
  | pointCount => simp [Domain.accept, Domain.Refuses]; omega
  | mask => simp [Domain.accept, Domain.Refuses, unmaskable]

/-- R9, R11: a setting is of its class, and its domain refuses what the class refuses. -/
def Classified (standby anyState bad : Prop) (value : Word) : Option Setting → Prop
  | none => ¬standby ∧ ¬anyState
  | some x => (if x.standbyOnly then standby ∧ ¬anyState else anyState ∧ ¬standby)
      ∧ (x.domain.Refuses value ↔ bad)

theorem settingOf_classified (s : State) (r : RecordId) (n : Nat) (value : Word) :
    Classified (StandbySetting s r n) (AnySetting r n) (BadSetting r n value) value
      (settingOf s r n) := by
  cases r with
  | device =>
    unfold settingOf
    dsimp only
    split <;>
      simp_all [Classified, StandbySetting, AnySetting, BadSetting, Domain.Refuses, Nat.succ_le_iff]
  | axle a =>
    unfold settingOf
    dsimp only
    split
    case h_12 n1 n2 n8 n9 n10 n11 n15 n28 n29 n30 n31 =>
      have other : (n ≠ 1 ∧ n ≠ 2 ∧ n ≠ 8 ∧ n ≠ 9 ∧ n ≠ 10 ∧ n ≠ 11) ∧ n ≠ 15 ∧ n ≠ 28 ∧ n ≠ 29
          ∧ n ≠ 30 ∧ n ≠ 31 := ⟨⟨n1, n2, n8, n9, n10, n11⟩, n15, n28, n29, n30, n31⟩
      by_cases point : 16 ≤ n ∧ n < 28 ∧ (n - 16) / 2 < s.axles[a].curve.length
      · rw [if_pos point]
        refine ⟨⟨?_, ?_⟩, ?_⟩
        · exact .inr (.inr (.inr (.inr (.inr (.inr ⟨point.1, by omega, point.2.1⟩)))))
        · simp only [AnySetting]
          omega
        · have good : ¬BadSetting (.axle a) n value := by
            simp only [BadSetting]
            omega
          split <;> exact iff_of_false id good
      · rw [if_neg point]
        refine ⟨?_, ?_⟩
        · simp only [StandbySetting]
          omega
        · simp only [AnySetting]
          omega
    all_goals
      simp_all [Classified, StandbySetting, AnySetting, BadSetting, Domain.Refuses, Nat.succ_le_iff]
  | wheel w =>
    unfold settingOf
    dsimp only
    split <;>
      simp_all [Classified, StandbySetting, AnySetting, BadSetting, Domain.Refuses, Nat.succ_le_iff]
  | tyre p =>
    unfold settingOf
    dsimp only
    split <;> simp_all [Classified, StandbySetting, AnySetting, BadSetting, Domain.Refuses]
  | channel c =>
    unfold settingOf
    dsimp only
    split <;>
      simp_all [Classified, StandbySetting, AnySetting, BadSetting, Domain.Refuses, Nat.succ_le_iff]
  | candidate k => exact ⟨id, id⟩
  | rollover =>
    unfold settingOf
    dsimp only
    split <;>
      simp_all [Classified, StandbySetting, AnySetting, BadSetting, Domain.Refuses, Nat.succ_le_iff]
    omega

/-! ### The structural changes -/

theorem mem_innerPositions (a : Fin 4) (p : Fin 16) :
    p ∈ innerPositions a ↔ axleOfTyre p = a ∧ p.val % 2 = 1 := by
  revert a p
  decide

/-- R13: the structural changes that are refused. -/
def StructureRefused (s : State) (r : RecordId) (n v : Nat) : Prop :=
  match r with
  | .axle a =>
    n = 1 ∧ v = 0 ∧ s.axles[a].twin = true
        ∧ (∃ p : Fin 16, axleOfTyre p = a ∧ p.val % 2 = 1 ∧ s.tyres[p].state ≠ .unpaired)
      ∨ n = 2 ∧ v = 0 ∧ s.axles[a].liftable = true ∧ s.axles[a].liftState ≠ .down
      ∨ n = 2 ∧ v = 1 ∧ s.axles[a].liftable = false
        ∧ (∃ b : Fin 4, b ≠ a ∧ s.axles[b].present = true ∧ s.axles[b].liftable = true)
  | .device => False
  | .wheel _ => False
  | .tyre _ => False
  | .channel _ => False
  | .candidate _ => False
  | .rollover => False

theorem structureBlocks_iff (s : State) (r : RecordId) (n v : Nat) :
    structureBlocks s r n v = true ↔ StructureRefused s r n v := by
  cases r with
  | axle a =>
    simp only [structureBlocks, StructureRefused]
    by_cases twin : n = 1
    · subst twin
      simp only [if_true, Bool.and_eq_true, beq_iff_eq, List.any_eq_true, bne_iff_ne,
        mem_innerPositions, true_and, OfNat.one_ne_ofNat, false_and, or_false, and_assoc]
      exact and_left_comm
    by_cases liftable : n = 2
    · subst liftable
      cases has : s.axles[a].liftable <;> simp [and_assoc]
    · simp [twin, liftable]
  | device | wheel | tyre | channel | candidate | rollover =>
    exact iff_of_false Bool.false_ne_true id

/-- R11 steps 5 and 6: what is stored and what the structure blocks agree on the value. -/
theorem structureBlocks_accepted {s : State} {r : RecordId} {n : Nat} {x : Setting} {value : Word}
    {v : Nat} {clamped : Bool} (known : settingOf s r n = some x)
    (accepted : x.domain.accept value.toNat = some (v, clamped)) :
    structureBlocks s r n v = structureBlocks s r n value.toNat := by
  cases r with
  | axle a =>
    have codes (two : x = ⟨true, .codes 2⟩) : v = value.toNat := by
      subst two
      simp only [Domain.accept] at accepted
      split at accepted
      · cases accepted
        rfl
      · cases accepted
    by_cases twin : n = 1
    · subst twin
      rw [codes (Option.some.inj known.symm)]
    by_cases liftable : n = 2
    · subst liftable
      rw [codes (Option.some.inj known.symm)]
    · simp [structureBlocks, twin, liftable]
  | device | wheel | tyre | channel | candidate | rollover => rfl

end Sys2Proof.Machine
end

section
/-! The answers of an AMEND (O44). -/

namespace Sys2Proof.Machine

theorem Classified.eq_none {standby anyState bad : Prop} {value : Word} {o : Option Setting}
    (h : Classified standby anyState bad value o) (notStandby : ¬standby) (notAny : ¬anyState) :
    o = none := by
  cases o with
  | none => rfl
  | some x =>
    obtain ⟨cls, -⟩ := h
    split at cls
    · exact absurd cls.1 notStandby
    · exact absurd cls.1 notAny

theorem Classified.of_standby {standby anyState bad : Prop} {value : Word} {o : Option Setting}
    (h : Classified standby anyState bad value o) (isStandby : standby) :
    ∃ x, o = some x ∧ x.standbyOnly = true ∧ (x.domain.Refuses value ↔ bad) := by
  cases o with
  | none => exact absurd isStandby h.1
  | some x =>
    obtain ⟨cls, refuses⟩ := h
    split at cls
    · next only => exact ⟨x, rfl, only, refuses⟩
    · exact absurd isStandby cls.2

theorem Classified.of_any {standby anyState bad : Prop} {value : Word} {o : Option Setting}
    (h : Classified standby anyState bad value o) (isAny : anyState) :
    ∃ x, o = some x ∧ x.standbyOnly = false ∧ (x.domain.Refuses value ↔ bad) := by
  cases o with
  | none => exact absurd isAny h.2
  | some x =>
    obtain ⟨cls, refuses⟩ := h
    split at cls
    · exact absurd isAny cls.2
    · next free => exact ⟨x, rfl, Bool.eq_false_iff.mpr free, refuses⟩

/-- R11 step 4: the setting may be amended in this state. -/
def Amendable (s : State) (r : RecordId) (n : Nat) : Prop :=
  StandbySetting s r n ∧ s.device.state = .standby ∨ AnySetting r n

theorem Amendable.setting {s : State} {r : RecordId} {n : Nat} (h : Amendable s r n) (value : Word) :
    ∃ x, settingOf s r n = some x ∧ ¬(x.standbyOnly && s.device.state != .standby) = true
      ∧ (x.domain.Refuses value ↔ BadSetting r n value) := by
  have classified := settingOf_classified s r n value
  obtain ⟨isStandby, state⟩ | isAny := h
  · obtain ⟨x, known, -, refuses⟩ := classified.of_standby isStandby
    refine ⟨x, known, ?_, refuses⟩
    rw [state]
    simp
  · obtain ⟨x, known, free, refuses⟩ := classified.of_any isAny
    refine ⟨x, known, ?_, refuses⟩
    rw [free]
    exact Bool.false_ne_true

theorem amendRecord_of_known {s : State} {r : RecordId} {field value : Word} {x : Setting}
    (known : settingOf s r field.toNat = some x) : amendRecord r field value s =
      if x.standbyOnly && s.device.state != .standby then (.refusedState, s)
      else
        match x.domain.accept value.toNat with
        | none => (.refusedRange, s)
        | some (v, clamped) =>
          if structureBlocks s r field.toNat v then (.refusedState, s)
          else (if clamped then .doneClamped else .done, store r field.toNat v s) := by
  rw [amendRecord, known] <;> rfl

theorem amendRecord_of_refused_value {s : State} {r : RecordId} {field value : Word}
    (amendable : Amendable s r field.toNat) (bad : BadSetting r field.toNat value) :
    amendRecord r field value s = (.refusedRange, s) := by
  obtain ⟨x, known, open', refuses⟩ := amendable.setting value
  rw [amendRecord_of_known known, if_neg open',
    (x.domain.accept_eq_none_iff value).mpr (refuses.mpr bad)]

/-- R11 steps 3 to 5 pass: the value is admitted, and the structure decides. -/
theorem amendRecord_of_admitted {s : State} {r : RecordId} {field value : Word}
    (amendable : Amendable s r field.toNat) (good : ¬BadSetting r field.toNat value) :
    ∃ x v clamped, settingOf s r field.toNat = some x
      ∧ x.domain.accept value.toNat = some (v, clamped)
      ∧ amendRecord r field value s =
        if structureBlocks s r field.toNat value.toNat then (.refusedState, s)
        else (if clamped then .doneClamped else .done, store r field.toNat v s) := by
  obtain ⟨x, known, open', refuses⟩ := amendable.setting value
  cases accepted : x.domain.accept value.toNat with
  | none => exact absurd (refuses.mp ((x.domain.accept_eq_none_iff value).mp accepted)) good
  | some admitted =>
    obtain ⟨v, clamped⟩ := admitted
    refine ⟨x, v, clamped, known, accepted, ?_⟩
    rw [amendRecord_of_known known, if_neg open', accepted, ← structureBlocks_accepted known accepted]

/-! ### What a store leaves of the link -/

theorem storeMask_select (v : Nat) (s : State) : (storeMask v s).link.select = s.link.select := by
  have frame (t : State) : (settle (report .jam s.receiver.jam t)).link.select = t.link.select :=
    ((report_linkFrame _ _ _).trans (settle_linkFrame _)).select
  unfold storeMask
  dsimp only
  rw [frame]

theorem store_select (r : RecordId) (n v : Nat) (s : State) :
    (store r n v s).link.select = s.link.select := by
  cases r with
  | device =>
    unfold store
    dsimp only
    split
    case h_1 => exact storeMask_select v s
    case h_4 => exact (settle_linkFrame _).select
    all_goals rfl
  | axle a =>
    unfold store
    dsimp only
    split
    case h_1 =>
      refine keeps_ite (P := fun t => t.link.select = s.link.select) (fun _ => rfl) fun _ =>
        List.foldlRecOn (motive := fun t : State => t.link.select = s.link.select) _ _ rfl fun _ h _ _ => h
    case h_2 =>
      have requested (x : Axle) (l : LiftController) :
          (requestLift false { putAxle a x s with lift := l }).link.select = s.link.select :=
        (requestLift_liftDrove _ _).linkFrame.select
      exact keeps_ite (P := fun t => t.link.select = s.link.select) (fun _ => rfl) fun _ =>
        keeps_ite (P := fun t => t.link.select = s.link.select) (fun _ => requested _ _)
          fun _ => requested _ _
    all_goals rfl
  | candidate k => rfl
  | wheel | tyre | channel | rollover =>
    unfold store
    dsimp only
    split <;> rfl

/-- Settles O44: by the check that fails first. -/
theorem amendChecksInOrder : Obligations.AmendChecksInOrder := by
  intro table index field value r s served n v named refuses point standby anyState badValue structure'
  have record (isNamed : named) (exist : recordExists s r = true) :
      namedRecord (closeTransaction s) table index = .ok r :=
    (namedRecord_of_named (closeTransaction s) isNamed).trans (if_pos exist)
  have unnamed {e : Result} (refusal : namedRecord (closeTransaction s) table index = .error e) :
      refuses e := by
    refine congrArg Host.Outcome.next (request_answers served ?_)
    rw [amendOwner, refusal]
    rfl
  have refused {e : Result} (isNamed : named) (exist : recordExists s r = true)
      (refusal : amendRecord r field value (closeTransaction s) = (e, closeTransaction s)) :
      refuses e := by
    refine congrArg Host.Outcome.next (request_answers served ?_)
    rw [amendOwner, record isNamed exist]
    dsimp only
    rw [refusal]
    rfl
  have isStandby : StandbySetting (closeTransaction s) r n ↔ standby := by
    cases r <;> exact Iff.rfl
  have isAny : AnySetting r n ↔ anyState := by cases r <;> exact Iff.rfl
  have isBad : BadSetting r n value ↔ badValue := by cases r <;> exact Iff.rfl
  have blocks : structureBlocks (closeTransaction s) r n v = true ↔ structure' := by
    rw [structureBlocks_iff]
    cases r <;> exact Iff.rfl
  have amendable (h : standby ∧ s.device.state = .standby ∨ anyState) :
      Amendable (closeTransaction s) r n := h.imp (fun h => ⟨isStandby.mpr h.1, h.2⟩) isAny.mpr
  have classified := settingOf_classified (closeTransaction s) r n value
  refine ⟨fun no => unnamed (namedRecord_of_unnamed _ no), fun isNamed absent => ?_,
    fun isNamed exist notStandby notAny => refused isNamed exist ?_,
    fun isNamed exist only state => refused isNamed exist ?_,
    fun isNamed exist open' bad => refused isNamed exist
      (amendRecord_of_refused_value (amendable open') (isBad.mpr bad)),
    fun isNamed exist open' good blocked => refused isNamed exist ?_,
    fun isNamed exist open' good free => ?_⟩
  · refine unnamed ((namedRecord_of_named (closeTransaction s) isNamed).trans (if_neg ?_))
    exact (Bool.eq_false_iff.mp absent :)
  · rw [amendRecord, classified.eq_none (mt isStandby.mp notStandby) (mt isAny.mp notAny)]
  · obtain ⟨x, known, standbyOnly, -⟩ := classified.of_standby (isStandby.mpr only)
    rw [amendRecord_of_known known]
    refine if_pos ?_
    rw [standbyOnly]
    exact bne_iff_ne.mpr state
  · obtain ⟨x, w, clamped, -, -, amended⟩ :=
      amendRecord_of_admitted (amendable open') (mt isBad.mp good)
    rw [amended]
    exact if_pos (blocks.mpr blocked)
  · obtain ⟨x, w, clamped, -, -, amended⟩ :=
      amendRecord_of_admitted (amendable open') (mt isBad.mp good)
    rw [show (if structureBlocks (closeTransaction s) r field.toNat value.toNat then _ else _) = _
      from if_neg (mt blocks.mp free)] at amended
    refine ⟨_, congrArg Host.Outcome.next (request_of_served served), ?_⟩
    rw [amendOwner, record isNamed exist]
    dsimp only
    rw [amended]
    refine ⟨store_select r n w (closeTransaction s), rfl, rfl, rfl, ?_⟩
    cases clamped
    · exact .inl rfl
    · exact .inr rfl

end Sys2Proof.Machine
end

section
/-! The lookups (O43). -/

namespace Sys2Proof.Machine

/-! ### The record found -/

theorem recordOf_eq_none {t : TableId} {index : Nat} (past : t.size ≤ index) :
    recordOf t index = none := by
  cases t with
  | device | rollover => exact if_neg (Nat.one_le_iff_ne_zero.mp past)
  | axle | wheel | tyre | channel | candidate => exact dif_neg (Nat.not_lt.mpr past)

theorem TableId.size_eq (t : TableId) : t.size = [1, 4, 8, 16, 4, 8, 1].getD t.code 0 := by
  cases t <;> rfl

theorem lookupOwner_of_named {table : BitVec 3} {index : BitVec 5} {r : RecordId}
    (inTable : r.table.code = table.toNat) (atIndex : r.index = index.toNat) (group : BitVec 2)
    (s : State) : lookupOwner table index group s =
      if recordExists s r then answerRecord r group index (setCursor r.table index.toNat s)
      else (plainReply .refusedAbsent index, clearAbsent r.table (setCursor r.table index.toNat s)) := by
  unfold lookupOwner
  rw [TableId.ofCode_code inTable, ← atIndex]
  dsimp only
  rw [recordOf_index]

theorem lookupOwner_of_past {table : BitVec 3} {index : BitVec 5}
    (past : [1, 4, 8, 16, 4, 8, 1].getD table.toNat 0 ≤ index.toNat) (group : BitVec 2) (s : State) :
    lookupOwner table index group s = (plainReply .refusedRange index, s) := by
  unfold lookupOwner
  cases found : TableId.ofCode table with
  | none => rfl
  | some t =>
    dsimp only
    rw [recordOf_eq_none]
    rw [TableId.size_eq, TableId.code_ofCode found]
    exact past

/-! ### What a response clears -/

/-- R15, R169: what a response that carries a record's group clears. -/
structure Cleared (r : RecordId) (group : BitVec 2) (s t : State) : Prop where
  link : t.link = { s.link with
    faultPending := s.link.faultPending && !(r == .device && group == 0)
    rolloverPending := s.link.rolloverPending && r != .rollover
    candidatePending := s.link.candidatePending && r.table != .candidate }
  axles : ∀ a : Fin 4, t.axles[a] =
    if r = .axle a then { s.axles[a] with changeMark := false } else s.axles[a]
  tyres : ∀ p : Fin 16, t.tyres[p] =
    if r = .tyre p then { s.tyres[p] with changeMark := false, learnOutstanding := false }
    else s.tyres[p]
  frame : t = { s with link := t.link, axles := t.axles, tyres := t.tyres }

theorem clearLookedUp_cleared (r : RecordId) (group : BitVec 2) (s : State) :
    Cleared r group s (clearLookedUp r group s) := by
  have whole {x : RecordId} (notDevice : (x == .device && group == 0) = false)
      (notRollover : (x != .rollover) = true) (notCandidate : (x.table != .candidate) = true)
      {l : Link} (same : l = s.link) : l = { s.link with
        faultPending := s.link.faultPending && !(x == .device && group == 0)
        rolloverPending := s.link.rolloverPending && x != .rollover
        candidatePending := s.link.candidatePending && x.table != .candidate } := by
    rw [same, notDevice, notRollover, notCandidate, Bool.not_false, Bool.and_true, Bool.and_true,
      Bool.and_true]
  cases r with
  | device =>
    by_cases first : group = 0
    · subst first
      refine ⟨?_, fun _ => rfl, fun _ => rfl, rfl⟩
      simp [clearLookedUp, RecordId.table]
    · have same : clearLookedUp .device group s = s := if_neg first
      rw [same]
      refine ⟨whole ?_ rfl rfl rfl, fun _ => rfl, fun _ => rfl, rfl⟩
      rw [beq_eq_false_iff_ne.mpr first, Bool.and_false]
  | axle a =>
    refine ⟨whole rfl rfl rfl rfl, fun b => ?_, fun _ => rfl, rfl⟩
    by_cases here : b = a
    · subst here
      rw [if_pos rfl]
      exact State.setAxle_get_self _ _ _
    · rw [if_neg fun h => here (RecordId.axle.inj h).symm]
      exact State.setAxle_get_ne _ _ _ _ here
  | wheel w => exact ⟨whole rfl rfl rfl rfl, fun _ => rfl, fun _ => rfl, rfl⟩
  | tyre p =>
    refine ⟨whole rfl rfl rfl rfl, fun _ => rfl, fun q => ?_, rfl⟩
    by_cases here : q = p
    · subst here
      rw [if_pos rfl]
      exact State.setTyre_get_self _ _ _
    · rw [if_neg fun h => here (RecordId.tyre.inj h).symm]
      exact State.setTyre_get_ne _ _ _ _ here
  | channel c => exact ⟨whole rfl rfl rfl rfl, fun _ => rfl, fun _ => rfl, rfl⟩
  | candidate k =>
    refine ⟨?_, fun _ => rfl, fun _ => rfl, rfl⟩
    simp [clearLookedUp, RecordId.table]
  | rollover =>
    refine ⟨?_, fun _ => rfl, fun _ => rfl, rfl⟩
    simp [clearLookedUp, RecordId.table]

theorem clearAbsent_eq (t : TableId) (s : State) : clearAbsent t s = { s with link := { s.link with
    candidatePending := s.link.candidatePending && t != .candidate } } := by
  have kept : s = { s with link := { s.link with
      candidatePending := s.link.candidatePending && true } } := by
    rw [Bool.and_true]
  cases t with
  | candidate =>
    rw [show (TableId.candidate != .candidate) = false from rfl, Bool.and_false]
    rfl
  | device | axle | wheel | tyre | channel | rollover => exact kept

/-- R168: the cursor and SELECT are shown by no field. -/
theorem groupWords_of_cursor (t : TableId) (i : Nat) (r : RecordId) (group : BitVec 2) (s : State) :
    groupWords (setCursor t i (closeTransaction s)) r group
      = Vector.ofFn fun k => fieldWord s r (8 * group.toNat + k.val) := by
  cases r <;> rfl

/-- O43's first part: LOOKUP. -/
theorem lookup_answers (table : BitVec 3) (index : BitVec 5) (group : BitVec 2) {s : State}
    (served : Served s) {r : RecordId} (inTable : r.table.code = table.toNat)
    (atIndex : r.index = index.toNat) (exist : recordExists s r = true) :
    ∃ u, exec (.lookup table index group) s = .next (setResponse 1 ⟨.done, index,
        Vector.ofFn fun k => fieldWord s r (8 * group.toNat + k.val)⟩ u)
      ∧ Cleared r group (setCursor r.table index.toNat (closeTransaction s)) u := by
  refine ⟨clearLookedUp r group (setCursor r.table index.toNat (closeTransaction s)), ?_,
    clearLookedUp_cleared _ _ _⟩
  refine congrArg Host.Outcome.next ((request_of_served served).trans ?_)
  rw [lookupOwner_of_named inTable atIndex]
  have exist' : recordExists (closeTransaction s) r = true := by cases r <;> exact exist
  rw [if_pos exist', answerRecord, groupWords_of_cursor]

theorem recordExists_closeTransaction (s : State) (r : RecordId) :
    recordExists (closeTransaction s) r = recordExists s r := by
  cases r <;> rfl

theorem lookup_absent (table : BitVec 3) (index : BitVec 5) (group : BitVec 2) {s : State}
    (served : Served s) {r : RecordId} (inTable : r.table.code = table.toNat)
    (atIndex : r.index = index.toNat) (absent : recordExists s r = false) :
    exec (.lookup table index group) s = .next { s with link := { s.link with
      select := .high, response := ⟨.refusedAbsent, 1, index, Vector.replicate 8 0⟩
      cursorTable := r.table, cursorIndex := index.toNat
      candidatePending := s.link.candidatePending && r.table != .candidate } } := by
  refine congrArg Host.Outcome.next ((request_of_served served).trans ?_)
  rw [lookupOwner_of_named inTable atIndex, if_neg (by
    rw [recordExists_closeTransaction, absent]; exact Bool.false_ne_true), clearAbsent_eq]
  rfl

/-! ### The next record -/

theorem findSome?_range_eq_some {α : Type} {n k : Nat} {f : Nat → Option α} {x : α} (below : k < n)
    (here : f k = some x) (first : ∀ j < k, f j = none) : (List.range n).findSome? f = some x := by
  rw [← List.map_coe_finRange_eq_range, List.findSome?_map]
  exact findSome?_finRange_eq_some (a := ⟨k, below⟩) here fun j before => first j before

theorem nextRecord_eq_some {s : State} {t : TableId} {index k : Nat} {r : RecordId}
    (below : k < t.size) (inTable : r.table = t) (atIndex : r.index = (index + 1 + k) % t.size)
    (exist : recordExists s r = true)
    (first : ∀ j < k, ∀ q : RecordId,
      ¬(q.table = t ∧ q.index = (index + 1 + j) % t.size ∧ recordExists s q = true)) :
    nextRecord s t index = some ((index + 1 + k) % t.size, r) := by
  unfold nextRecord indicesAfter
  rw [List.findSome?_map]
  refine findSome?_range_eq_some below ?_ fun j before => ?_
  · rw [Function.comp_apply, ← atIndex, ← inTable, recordOf_index]
    exact if_pos exist
  · rw [Function.comp_apply]
    cases found : recordOf t ((index + 1 + j) % t.size) with
    | none => rfl
    | some q =>
      obtain ⟨inTable', atIndex'⟩ := recordOf_eq_some found
      exact if_neg fun exist' => first j before q ⟨inTable', atIndex', exist'⟩

theorem nextRecord_eq_none {s : State} {t : TableId} {index : Nat}
    (no : ∀ q : RecordId, q.table = t → recordExists s q = false) : nextRecord s t index = none := by
  refine List.findSome?_eq_none_iff.mpr fun i _ => ?_
  cases found : recordOf t i with
  | none => rfl
  | some q => exact if_neg (Bool.eq_false_iff.mp (no q (recordOf_eq_some found).1))

/-- O43's second part: LOOKUP_NEXT. -/
theorem lookupNext_answers (index : BitVec 5) (group : BitVec 2) {s : State} (served : Served s)
    {i : Nat} {r : RecordId} (next : nextRecord s s.link.cursorTable s.link.cursorIndex = some (i, r)) :
    ∃ u, exec (.lookupNext index group) s = .next (setResponse 2 ⟨.done, BitVec.ofNat 5 i,
        Vector.ofFn fun k => fieldWord s r (8 * group.toNat + k.val)⟩ u)
      ∧ Cleared r group (setCursor s.link.cursorTable i (closeTransaction s)) u := by
  refine ⟨clearLookedUp r group (setCursor s.link.cursorTable i (closeTransaction s)), ?_,
    clearLookedUp_cleared _ _ _⟩
  refine congrArg Host.Outcome.next ((request_of_served served).trans ?_)
  have next' : nextRecord (closeTransaction s) (closeTransaction s).link.cursorTable
      (closeTransaction s).link.cursorIndex = some (i, r) := next
  rw [lookupNextOwner, next']
  dsimp only
  rw [answerRecord, groupWords_of_cursor]
  rfl

theorem lookupNext_absent (index : BitVec 5) (group : BitVec 2) {s : State} (served : Served s)
    (next : nextRecord s s.link.cursorTable s.link.cursorIndex = none) :
    exec (.lookupNext index group) s = .next { s with link := { s.link with
      select := .high, response := ⟨.refusedAbsent, 2, index, Vector.replicate 8 0⟩
      candidatePending := s.link.candidatePending && s.link.cursorTable != .candidate } } := by
  refine congrArg Host.Outcome.next ((request_of_served served).trans ?_)
  have next' : nextRecord (closeTransaction s) (closeTransaction s).link.cursorTable
      (closeTransaction s).link.cursorIndex = none := next
  rw [lookupNextOwner, next']
  dsimp only
  rw [clearAbsent_eq]
  rfl

/-- R164, R167: the state after the response, of which only the response and SELECT are new. -/
theorem setResponse_cleared {kind : BitVec 6} {reply : Reply} {r : RecordId} {group : BitVec 2}
    {s t u : State} (cleared : Cleared r group s u) (is : t = setResponse kind reply u) :
    t.link = { s.link with
        response := ⟨reply.result, kind, reply.index, reply.data⟩
        faultPending := s.link.faultPending && !(r == .device && group == 0)
        rolloverPending := s.link.rolloverPending && r != .rollover
        candidatePending := s.link.candidatePending && r.table != .candidate }
      ∧ (∀ a : Fin 4, t.axles[a] =
        if r = .axle a then { s.axles[a] with changeMark := false } else s.axles[a])
      ∧ (∀ p : Fin 16, t.tyres[p] =
        if r = .tyre p then { s.tyres[p] with changeMark := false, learnOutstanding := false }
        else s.tyres[p])
      ∧ t = { s with link := t.link, axles := t.axles, tyres := t.tyres } := by
  subst is
  obtain ⟨link, axles, tyres, frame⟩ := cleared
  refine ⟨?_, axles, tyres, ?_⟩
  · exact (congrArg (fun l : Link => { l with
      response := ⟨reply.result, kind, reply.index, reply.data⟩ }) link).trans rfl
  · unfold setResponse
    rw [frame]

end Sys2Proof.Machine
end

section
/-! What the numbered fields show (O43). -/

namespace Sys2Proof.Machine

/-! ### Optional fields and sensor IDs -/

theorem optional_eq {α : Type} (f : α → Word) (o : Option α) :
    optional f o = (o.map f).getD 0x8000 := by
  cases o <;> rfl

theorem optional_map {α β : Type} (f : β → Word) (g : α → β) (o : Option α) :
    optional f (o.map g) = optional (fun a => f (g a)) o := by
  cases o <;> rfl

theorem idHigh_eq (id : SensorId) : idHigh id = BitVec.ofNat 16 (id.toNat / 65536) := by
  have small := id.isLt
  refine BitVec.eq_of_toNat_eq ?_
  rw [idHigh, BitVec.toNat_setWidth, BitVec.extractLsb'_toNat, BitVec.toNat_ofNat,
    Nat.shiftRight_eq_div_pow]
  omega

theorem idLow_eq (id : SensorId) : idLow id = BitVec.ofNat 16 id.toNat := by
  refine BitVec.eq_of_toNat_eq ?_
  rw [idLow, BitVec.extractLsb'_toNat, BitVec.toNat_ofNat, Nat.shiftRight_zero]

/-! ### The words of the fault kinds -/

theorem toList_any {n : Nat} (v : Vector FaultMark n) (f : FaultMark → Bool) :
    v.toList.any f = (List.finRange n).any fun i => f v[i] := by
  rw [Bool.eq_iff_iff, List.any_eq_true, List.any_eq_true]
  constructor
  · rintro ⟨m, mem, on⟩
    obtain ⟨i, below, rfl⟩ := List.getElem_of_mem mem
    rw [Vector.length_toList] at below
    refine ⟨⟨i, below⟩, List.mem_finRange _, ?_⟩
    rw [Vector.getElem_toList] at on
    exact on
  · rintro ⟨i, -, on⟩
    exact ⟨_, Vector.mem_toList_iff.mpr (Vector.getElem_mem i.isLt), on⟩

/-- The instances of the kind of a bit, in one mark. -/
def kindMark (f : FaultMark → Bool) (x : FaultSet) (k : Nat) : Bool :=
  allFaults.any fun id => id.bit == k && f (x.get id)

theorem kindMark_eq (f : FaultMark → Bool) (x : FaultSet) :
    kindMark f x 0 = x.valveOpen.toList.any f ∧ kindMark f x 1 = x.valveShort.toList.any f
      ∧ kindMark f x 2 = x.delivered.toList.any f ∧ kindMark f x 3 = f x.demand
      ∧ kindMark f x 4 = f x.reservoir ∧ kindMark f x 5 = x.bellows.toList.any f
      ∧ kindMark f x 6 = x.speed.toList.any f ∧ kindMark f x 7 = x.supplyWait.toList.any f
      ∧ kindMark f x 8 = f x.lift ∧ kindMark f x 9 = f x.supplyLow ∧ kindMark f x 10 = f x.jam
      ∧ kindMark f x 11 = f x.linkFrame ∧ kindMark f x 12 = false ∧ kindMark f x 13 = false
      ∧ kindMark f x 14 = false ∧ kindMark f x 15 = false := by
  have off (n : Nat) : ((List.finRange n).any fun _ => false) = false :=
    List.any_eq_false.mpr fun _ _ => Bool.false_ne_true
  simp only [toList_any]
  simp [kindMark, allFaults, FaultId.bit, FaultSet.get, Function.comp_def, off]

theorem kindBits_getLsbD (f : FaultMark → Bool) (x : FaultSet) (b : Fin 16) :
    (kindBits f x).getLsbD b = allFaults.any fun id => id.bit == b.val && f (x.get id) := by
  have word := kindBits_toNat f x
  have bit (n : Nat) (c : Bool) (h : (kindBits f x).toNat / 2 ^ n % 2 = c.toNat) :
      (kindBits f x).getLsbD n = c := by
    rw [BitVec.getLsbD, Nat.testBit_eq_decide_div_mod_eq, h]
    cases c <;> rfl
  have one (c : Bool) : c.toNat ≤ 1 := Bool.toNat_le c
  have bounds := And.intro (one (f x.linkFrame)) <| And.intro (one (f x.jam)) <|
    And.intro (one (f x.supplyLow)) <| And.intro (one (f x.lift)) <|
    And.intro (one (x.supplyWait.toList.any f)) <| And.intro (one (x.speed.toList.any f)) <|
    And.intro (one (x.bellows.toList.any f)) <| And.intro (one (f x.reservoir)) <|
    And.intro (one (f x.demand)) <| And.intro (one (x.delivered.toList.any f)) <|
    And.intro (one (x.valveShort.toList.any f)) (one (x.valveOpen.toList.any f))
  obtain ⟨k0, k1, k2, k3, k4, k5, k6, k7, k8, k9, k10, k11, k12, k13, k14, k15⟩ := kindMark_eq f x
  have zero (n : Nat) (h : (kindBits f x).toNat / 2 ^ n % 2 = 0) :
      (kindBits f x).getLsbD n = false := bit n false h
  change (kindBits f x).getLsbD b = kindMark f x b
  fin_cases b
  · exact (bit 0 _ (by omega)).trans k0.symm
  · exact (bit 1 _ (by omega)).trans k1.symm
  · exact (bit 2 _ (by omega)).trans k2.symm
  · exact (bit 3 _ (by omega)).trans k3.symm
  · exact (bit 4 _ (by omega)).trans k4.symm
  · exact (bit 5 _ (by omega)).trans k5.symm
  · exact (bit 6 _ (by omega)).trans k6.symm
  · exact (bit 7 _ (by omega)).trans k7.symm
  · exact (bit 8 _ (by omega)).trans k8.symm
  · exact (bit 9 _ (by omega)).trans k9.symm
  · exact (bit 10 _ (by omega)).trans k10.symm
  · exact (bit 11 _ (by omega)).trans k11.symm
  · exact (zero 12 (by omega)).trans k12.symm
  · exact (zero 13 (by omega)).trans k13.symm
  · exact (zero 14 (by omega)).trans k14.symm
  · exact (zero 15 (by omega)).trans k15.symm

/-- R176: the outputs with a latched mark, gathered bit by bit. -/
theorem foldl_twoPow_getLsbD (p : Fin 13 → Bool) (l : List (Fin 13)) (word : Word) (b : Fin 16) :
    (l.foldl (fun acc o => if p o then acc ||| BitVec.twoPow 16 o.val else acc) word).getLsbD b
      = (word.getLsbD b || l.any fun o => o.val == b.val && p o) := by
  induction l generalizing word with
  | nil => exact (Bool.or_false _).symm
  | cons o l ih =>
    rw [List.foldl_cons, ih, List.any_cons, ← Bool.or_assoc]
    congr 1
    cases p o
    · simp
    · rw [if_pos rfl, BitVec.getLsbD_or, BitVec.getLsbD_twoPow,
        decide_eq_true (show o.val < 16 by omega), Bool.true_and, Bool.and_true]
      rfl

theorem valveOutputsLatched_getLsbD (s : State) (b : Fin 16) : (valveOutputsLatched s).getLsbD b
    = (List.finRange 13).any fun o => o.val == b.val
      && (s.faults.valveOpen[o].latched || s.faults.valveShort[o].latched) := by
  refine (foldl_twoPow_getLsbD (fun o =>
    s.faults.valveOpen[o].latched || s.faults.valveShort[o].latched) _ 0 b).trans ?_
  rw [show (0 : Word).getLsbD b = false from BitVec.getLsbD_zero, Bool.false_or]

theorem fieldWord_candidate {s : State} {k : Fin 8} {e : Candidate}
    (listed : s.supervisor.candidates[k.val]? = some e) (n : Nat) :
    fieldWord s (.candidate k) n = candidateField e n := by
  unfold fieldWord
  dsimp only
  rw [listed]

/-- Settles O43: the two requests, and the fields table by table. -/
theorem lookupsAnswerRecords : Obligations.LookupsAnswerRecords := by
  refine ⟨fun table index group s served => ?_, fun index group k r s served => ?_,
    fun a c w p k b s => ?_⟩
  · intro words sizes
    refine ⟨fun r inTable atIndex => ⟨fun exist => ?_, fun absent =>
      lookup_absent table index group served inTable atIndex absent⟩, fun past =>
      congrArg Host.Outcome.next (request_answers served (lookupOwner_of_past past group _))⟩
    obtain ⟨u, answer, cleared⟩ := lookup_answers table index group served inTable atIndex exist
    exact ⟨_, answer, setResponse_cleared cleared rfl⟩
  · intro x size at' found
    have sized : x.size = size := TableId.size_eq x
    refine ⟨fun below here first => ?_, fun no => lookupNext_absent index group served
      (nextRecord_eq_none no)⟩
    obtain ⟨inTable, atIndex, exist⟩ := here
    have next : nextRecord s s.link.cursorTable s.link.cursorIndex = some (at' k, r) := by
      have here (j : Nat) : (s.link.cursorIndex + 1 + j) % x.size = at' j := by
        rw [sized]
      rw [← here]
      refine nextRecord_eq_some (sized.symm ▸ below) inTable (atIndex.trans (here k).symm) exist
        fun j before q ⟨inTable', atIndex', exist'⟩ => ?_
      have small : j < 16 := before.trans k.isLt
      exact first ⟨j, small⟩ before q ⟨inTable', atIndex'.trans (here j), exist'⟩
    obtain ⟨u, answer, cleared⟩ := lookupNext_answers index group served next
    exact ⟨_, answer, setResponse_cleared cleared rfl⟩
  · intro q z flag opt high low row d x v y m r
    have optIs (o : Option Nat) : opt o = optional quantity o := (optional_eq quantity o).symm
    have highIs : high = idHigh := funext fun id => (idHigh_eq id).symm
    have lowIs : low = idLow := funext fun id => (idLow_eq id).symm
    refine ⟨rfl, kindBits_getLsbD _ _ b, kindBits_getLsbD _ _ b, valveOutputsLatched_getLsbD s b, rfl,
      rfl, ?_, rfl, ?_, ?_, ?_, ?_, ?_, ?_, rfl, rfl, rfl, rfl, rfl, rfl, rfl, rfl, rfl, rfl, rfl, rfl, rfl,
      rfl, rfl, rfl, rfl, rfl, rfl, rfl, rfl, rfl, rfl, rfl, rfl, rfl⟩
    · simp only [optIs, optional_map]
      rfl
    · rw [optIs]
      rfl
    · rw [highIs, lowIs, optIs, optIs, ← optional_eq, ← optional_eq, ← optional_eq]
      rfl
    · rw [optIs, optIs, optional_map]
      rfl
    · intro e listed
      rw [highIs, lowIs, optIs]
      simp only [row, fieldWord_candidate listed]
      rfl
    · rw [optIs, optIs, optional_map, optional_map, ← optional_eq]
      rfl
    · cases listed : s.supervisor.candidates[k.val]? with
      | none =>
        have here (n : Nat) : fieldWord s (.candidate k) n = 0 := by
          unfold fieldWord
          dsimp only
          rw [listed]
        simp only [row, here]
        rfl
      | some e =>
        simp only [row, fieldWord_candidate listed]
        rfl

end Sys2Proof.Machine
end

section
/-! What an AMEND stores: the numeric settings (O45). -/

namespace Sys2Proof.Machine

/-! ### The answer of an AMEND that passes its checks -/

theorem amend_stores {table : BitVec 3} {index : BitVec 5} {field value : Word} {r : RecordId}
    {s : State} {x : Setting} {v : Nat} {clamped : Bool} (served : Served s)
    (named : r.table.code = table.toNat ∧ r.index = index.toNat) (exist : recordExists s r = true)
    (known : settingOf s r field.toNat = some x)
    (open' : x.standbyOnly = true → s.device.state = .standby)
    (accepted : x.domain.accept value.toNat = some (v, clamped))
    (free : structureBlocks s r field.toNat v = false) :
    exec (.amend table index field value) s = .next (setResponse 3
      (plainReply (if clamped then .doneClamped else .done) index)
      (store r field.toNat v (closeTransaction s))) := by
  refine congrArg Host.Outcome.next ((request_of_served served).trans ?_)
  have exist' : recordExists (closeTransaction s) r = true := by
    rw [recordExists_closeTransaction]
    exact exist
  have known' : settingOf (closeTransaction s) r field.toNat = some x := known
  have passes : ¬(x.standbyOnly && (closeTransaction s).device.state != .standby) = true := by
    rw [Bool.and_eq_true, bne_iff_ne]
    exact fun ⟨only, state⟩ => state (open' only)
  have free' : structureBlocks (closeTransaction s) r field.toNat v = false := free
  rw [amendOwner, (namedRecord_of_named _ named).trans (if_pos exist')]
  dsimp only
  rw [amendRecord_of_known known', if_neg passes, accepted]
  dsimp only
  rw [free']
  rfl

/-! ### What a store of one record leaves -/

/-- Outside of one record nothing moves, and its marks stand. -/
structure Stored (r : RecordId) (s t : State) : Prop where
  device : r ≠ .device → t.device = s.device
  axles : ∀ a : Fin 4, r ≠ .axle a → t.axles[a] = s.axles[a]
  wheels : ∀ w : Fin 8, r ≠ .wheel w → t.wheels[w] = s.wheels[w]
  tyres : ∀ p : Fin 16, r ≠ .tyre p → t.tyres[p] = s.tyres[p]
  channels : ∀ c : Fin 4, r ≠ .channel c → t.channels[c] = s.channels[c]
  rollover : r ≠ .rollover → t.rollover = s.rollover
  axleMarks : ∀ a : Fin 4, t.axles[a].present = s.axles[a].present
    ∧ t.axles[a].changeMark = s.axles[a].changeMark
  tyreMarks : ∀ p : Fin 16, t.tyres[p].present = s.tyres[p].present
    ∧ t.tyres[p].changeMark = s.tyres[p].changeMark
    ∧ t.tyres[p].learnOutstanding = s.tyres[p].learnOutstanding
  outputs : t.outputs = s.outputs
  faults : t.faults = s.faults
  analog : t.analog = s.analog
  capture : t.capture = s.capture
  loadUnit : t.loadUnit = s.loadUnit
  lift : t.lift = s.lift
  supervisor : t.supervisor = s.supervisor
  link : t.link = s.link

theorem Stored.attentionPending {r : RecordId} {s t : State} (h : Stored r s t) :
    attentionPending t = attentionPending s := by
  have axles : axleMarked t = axleMarked s := by
    simp only [axleMarked, h.axleMarks]
  have tyres : tyreMarked t = tyreMarked s := by
    simp only [tyreMarked, h.tyreMarks]
  have learns : learnOutstanding t = learnOutstanding s := by
    simp only [learnOutstanding, h.tyreMarks]
  rw [Machine.attentionPending, Machine.attentionPending, axles, tyres, learns, h.link]

/-- R12: the other records show what they showed. -/
theorem Stored.fieldWord {r q : RecordId} {s t : State} (h : Stored r s t) (other : q ≠ r) (n : Nat) :
    fieldWord t q n = fieldWord s q n := by
  cases q with
  | device =>
    show deviceField t n = deviceField s n
    unfold deviceField faultsPresent faultsLatched valveOutputsLatched
    rw [h.attentionPending, h.device other.symm, h.faults]
  | axle a =>
    show axleField t a n = axleField s a n
    unfold axleField
    rw [h.axles a other.symm, h.loadUnit]
  | wheel w => exact congrArg (wheelField · n) (h.wheels w other.symm)
  | tyre p => exact congrArg (tyreField p · n) (h.tyres p other.symm)
  | channel c =>
    show channelField t c n = channelField s c n
    unfold channelField
    rw [h.channels c other.symm, h.outputs]
  | candidate k =>
    unfold Machine.fieldWord
    dsimp only
    rw [h.supervisor]
  | rollover => exact congrArg (rolloverField · n) (h.rollover other.symm)

end Sys2Proof.Machine
end

section
/-! The numeric rows of the field tables, stored (O45). -/

namespace Sys2Proof.Machine

/-! ### The words of a record -/

/-- The 32 words of a record. -/
def recordWords (s : State) (r : RecordId) : List Word := (List.range 32).map (fieldWord s r)

theorem recordWords_getElem? (s : State) (r : RecordId) {n : Nat} (below : n < 32) :
    (recordWords s r)[n]? = some (fieldWord s r n) := by
  simp [recordWords, below]

/-- One field of the record shows a new word, the others what they showed. -/
def FieldSet (r : RecordId) (field : Nat) (w : Word) (s t : State) : Prop :=
  fieldWord t r field = w ∧ ∀ n < 32, n ≠ field → fieldWord t r n = fieldWord s r n

theorem FieldSet.of_words {r : RecordId} {field : Nat} {w : Word} {s t : State} (below : field < 32)
    (words : recordWords t r = (recordWords s r).set field w) : FieldSet r field w s t := by
  have at' (n : Nat) (small : n < 32) : some (fieldWord t r n) = ((recordWords s r).set field w)[n]? := by
    rw [← words, recordWords_getElem? t r small]
  refine ⟨Option.some.inj ((at' field below).trans ?_), fun n small other =>
    Option.some.inj ((at' n small).trans ?_)⟩
  · rw [List.getElem?_set_self (by simpa [recordWords] using below)]
  · rw [List.getElem?_set_ne (Ne.symm other), recordWords_getElem? s r small]

/-! ### One record replaced -/

theorem Stored.setDevice (s : State) (d : Device) (x : Receiver) :
    Stored .device s { s with device := d, receiver := x } :=
  ⟨fun h => absurd rfl h, fun _ _ => rfl, fun _ _ => rfl, fun _ _ => rfl, fun _ _ => rfl, fun _ => rfl,
    fun _ => ⟨rfl, rfl⟩, fun _ => ⟨rfl, rfl, rfl⟩, rfl, rfl, rfl, rfl, rfl, rfl, rfl, rfl⟩

theorem Stored.setRollover (s : State) (x : Rollover) : Stored .rollover s { s with rollover := x } :=
  ⟨fun _ => rfl, fun _ _ => rfl, fun _ _ => rfl, fun _ _ => rfl, fun _ _ => rfl, fun h => absurd rfl h,
    fun _ => ⟨rfl, rfl⟩, fun _ => ⟨rfl, rfl, rfl⟩, rfl, rfl, rfl, rfl, rfl, rfl, rfl, rfl⟩

theorem Stored.setAxle {s : State} {a : Fin 4} {x : Axle} (present : x.present = s.axles[a].present)
    (mark : x.changeMark = s.axles[a].changeMark) : Stored (.axle a) s (s.setAxle a x) := by
  have marks (b : Fin 4) : (s.setAxle a x).axles[b].present = s.axles[b].present
      ∧ (s.setAxle a x).axles[b].changeMark = s.axles[b].changeMark := by
    by_cases here : b = a
    · subst here
      rw [State.setAxle_get_self]
      exact ⟨present, mark⟩
    · rw [State.setAxle_get_ne _ _ _ _ here]
      exact ⟨rfl, rfl⟩
  exact ⟨fun _ => rfl,
    fun b ne => State.setAxle_get_ne _ _ _ _ fun h => ne (congrArg RecordId.axle h.symm),
    fun _ _ => rfl, fun _ _ => rfl, fun _ _ => rfl, fun _ => rfl, marks, fun _ => ⟨rfl, rfl, rfl⟩,
    rfl, rfl, rfl, rfl, rfl, rfl, rfl, rfl⟩

theorem Stored.setWheel (s : State) (w : Fin 8) (x : Wheel) : Stored (.wheel w) s (s.setWheel w x) :=
  ⟨fun _ => rfl, fun _ _ => rfl,
    fun v ne => State.setWheel_get_ne _ _ _ _ fun h : v = w => ne (congrArg RecordId.wheel h.symm),
    fun _ _ => rfl, fun _ _ => rfl, fun _ => rfl, fun _ => ⟨rfl, rfl⟩, fun _ => ⟨rfl, rfl, rfl⟩,
    rfl, rfl, rfl, rfl, rfl, rfl, rfl, rfl⟩

theorem Stored.setTyre {s : State} {p : Fin 16} {x : Tyre} (present : x.present = s.tyres[p].present)
    (mark : x.changeMark = s.tyres[p].changeMark)
    (learn : x.learnOutstanding = s.tyres[p].learnOutstanding) :
    Stored (.tyre p) s (s.setTyre p x) := by
  have marks (q : Fin 16) : (s.setTyre p x).tyres[q].present = s.tyres[q].present
      ∧ (s.setTyre p x).tyres[q].changeMark = s.tyres[q].changeMark
      ∧ (s.setTyre p x).tyres[q].learnOutstanding = s.tyres[q].learnOutstanding := by
    by_cases here : q = p
    · subst here
      rw [State.setTyre_get_self]
      exact ⟨present, mark, learn⟩
    · rw [State.setTyre_get_ne _ _ _ _ here]
      exact ⟨rfl, rfl, rfl⟩
  exact ⟨fun _ => rfl, fun _ _ => rfl, fun _ _ => rfl,
    fun q ne => State.setTyre_get_ne _ _ _ _ fun h => ne (congrArg RecordId.tyre h.symm),
    fun _ _ => rfl, fun _ => rfl, fun _ => ⟨rfl, rfl⟩, marks,
    rfl, rfl, rfl, rfl, rfl, rfl, rfl, rfl⟩

theorem Stored.setChannel (s : State) (c : Fin 4) (x : Channel) :
    Stored (.channel c) s (s.setChannel c x) :=
  ⟨fun _ => rfl, fun _ _ => rfl, fun _ _ => rfl, fun _ _ => rfl,
    fun d ne => State.setChannel_get_ne _ _ _ _ fun h : d = c => ne (congrArg RecordId.channel h.symm),
    fun _ => rfl, fun _ => ⟨rfl, rfl⟩, fun _ => ⟨rfl, rfl, rfl⟩,
    rfl, rfl, rfl, rfl, rfl, rfl, rfl, rfl⟩

/-! ### Rows of the field tables -/

/-- A value stored in a setting that nothing else follows: the field shows it, and SELECT is no matter. -/
structure PlainRow (r : RecordId) (field v : Nat) (s : State) : Prop where
  stored : Stored r s (store r field v s)
  set : FieldSet r field (quantity v) s (store r field v s)
  closes : store r field v (closeTransaction s) = closeTransaction (store r field v s)
  receiver : (store r field v s).receiver = s.receiver

theorem device_row (v : Nat) (s : State) {field : Nat} (row : field ∈ [12, 16, 18, 19, 20, 30]) :
    PlainRow .device field v s := by
  have plain {field : Nat} {d : Device} (below : field < 32)
      (is : ∀ u : State, u.device = s.device → store .device field v u = { u with device := d })
      (words : recordWords { s with device := d } .device
        = (recordWords s .device).set field (quantity v)) : PlainRow .device field v s := by
    refine ⟨?_, ?_, ?_, ?_⟩
    · rw [is s rfl]
      exact .setDevice s d s.receiver
    · refine .of_words below ?_
      rw [is s rfl]
      exact words
    · rw [is s rfl, is (closeTransaction s) rfl]
      rfl
    · rw [is s rfl]
  simp only [List.mem_cons, List.not_mem_nil, or_false] at row
  obtain rfl | rfl | rfl | rfl | rfl | rfl := row
  · exact plain (d := { s.device with dMin := v }) (by decide) (fun u h => by rw [← h]; rfl) rfl
  · exact plain (d := { s.device with supplyOn := v }) (by decide) (fun u h => by rw [← h]; rfl) rfl
  · exact plain (d := { s.device with changeoverGap := v }) (by decide) (fun u h => by rw [← h]; rfl) rfl
  · exact plain (d := { s.device with blankingTime := v }) (by decide) (fun u h => by rw [← h]; rfl) rfl
  · exact plain (d := { s.device with slipRel := v }) (by decide) (fun u h => by rw [← h]; rfl) rfl
  · exact plain (d := { s.device with missingTimeout := v }) (by decide) (fun u h => by rw [← h]; rfl) rfl

theorem rollover_row (v : Nat) (s : State) {field : Nat} (row : field ∈ [8, 9, 10, 11, 12]) :
    PlainRow .rollover field v s := by
  have plain {field : Nat} {x : Rollover} (below : field < 32)
      (is : ∀ u : State, u.rollover = s.rollover →
        store .rollover field v u = { u with rollover := x })
      (words : recordWords { s with rollover := x } .rollover
        = (recordWords s .rollover).set field (quantity v)) : PlainRow .rollover field v s := by
    refine ⟨?_, ?_, ?_, ?_⟩
    · rw [is s rfl]
      exact .setRollover s x
    · refine .of_words below ?_
      rw [is s rfl]
      exact words
    · rw [is s rfl, is (closeTransaction s) rfl]
      rfl
    · rw [is s rfl]
  simp only [List.mem_cons, List.not_mem_nil, or_false] at row
  obtain rfl | rfl | rfl | rfl | rfl := row
  · exact plain (x := { s.rollover with pTest := v }) (by decide) (fun u h => by rw [← h]; rfl) rfl
  · exact plain (x := { s.rollover with pRoll := v }) (by decide) (fun u h => by rw [← h]; rfl) rfl
  · exact plain (x := { s.rollover with aEmpty := v }) (by decide) (fun u h => by rw [← h]; rfl) rfl
  · exact plain (x := { s.rollover with aLaden := v }) (by decide) (fun u h => by rw [← h]; rfl) rfl
  · exact plain (x := { s.rollover with slipLift := v }) (by decide) (fun u h => by rw [← h]; rfl) rfl

theorem wheel_row (w : Fin 8) (v : Nat) (s : State) {field : Nat} (row : field ∈ [3, 4]) :
    PlainRow (.wheel w) field v s := by
  have plain {field : Nat} {x : Wheel} (below : field < 32)
      (is : ∀ u : State, u.wheels = s.wheels → store (.wheel w) field v u = u.setWheel w x)
      (words : (List.range 32).map (wheelField x)
        = ((List.range 32).map (wheelField s.wheels[w])).set field (quantity v)) :
      PlainRow (.wheel w) field v s := by
    refine ⟨?_, .of_words below ?_, ?_, ?_⟩
    · rw [is s rfl]
      exact .setWheel s w x
    · rw [is s rfl]
      unfold recordWords fieldWord
      dsimp only
      rw [State.setWheel_get_self]
      exact words
    · rw [is s rfl, is (closeTransaction s) rfl]
      rfl
    · rw [is s rfl]
      rfl
  simp only [List.mem_cons, List.not_mem_nil, or_false] at row
  obtain rfl | rfl := row
  · exact plain (x := { s.wheels[w] with teeth := v }) (by decide) (fun u h => by rw [← h]; rfl) rfl
  · exact plain (x := { s.wheels[w] with circumference := v }) (by decide)
      (fun u h => by rw [← h]; rfl) rfl

theorem tyre_row (p : Fin 16) (v : Nat) (s : State) : PlainRow (.tyre p) 8 v s := by
  refine ⟨.setTyre rfl rfl rfl, .of_words (by decide) ?_, rfl, rfl⟩
  change (List.range 32).map (tyreField p (s.setTyre p { s.tyres[p] with nominal := v }).tyres[p]) = _
  rw [State.setTyre_get_self]
  rfl

theorem channel_row (c : Fin 4) (v : Nat) (s : State) {field : Nat} (row : field ∈ [8, 9, 15]) :
    PlainRow (.channel c) field v s := by
  have plain {field : Nat} {x : Channel} (below : field < 32)
      (is : ∀ u : State, u.channels = s.channels → store (.channel c) field v u = u.setChannel c x)
      (words : recordWords (s.setChannel c x) (.channel c)
        = (recordWords s (.channel c)).set field (quantity v)) :
      PlainRow (.channel c) field v s := by
    refine ⟨?_, .of_words below ?_, ?_, ?_⟩
    · rw [is s rfl]
      exact .setChannel s c x
    · rw [is s rfl]
      exact words
    · rw [is s rfl, is (closeTransaction s) rfl]
      rfl
    · rw [is s rfl]
      rfl
  simp only [List.mem_cons, List.not_mem_nil, or_false] at row
  obtain rfl | rfl | rfl := row
  on_goal 1 =>
    refine plain (field := 8) (x := { s.channels[c] with gEmpty := v }) (by decide)
      (fun u h => by rw [← h]; rfl) ?_
  on_goal 2 =>
    refine plain (field := 9) (x := { s.channels[c] with gLaden := v }) (by decide)
      (fun u h => by rw [← h]; rfl) ?_
  on_goal 3 =>
    refine plain (field := 15) (x := { s.channels[c] with band := v }) (by decide)
      (fun u h => by rw [← h]; rfl) ?_
  all_goals
    unfold recordWords fieldWord channelField
    dsimp only
    rw [State.setChannel_get_self]
    rfl

theorem axle_row (a : Fin 4) (v : Nat) (s : State) {field : Nat}
    (row : field ∈ [8, 9, 11, 28, 29, 30, 31]) : PlainRow (.axle a) field v s := by
  have plain {field : Nat} {x : Axle} (below : field < 32)
      (is : ∀ u : State, u.axles = s.axles → store (.axle a) field v u = u.setAxle a x)
      (present : x.present = s.axles[a].present) (mark : x.changeMark = s.axles[a].changeMark)
      (words : recordWords (s.setAxle a x) (.axle a)
        = (recordWords s (.axle a)).set field (quantity v)) :
      PlainRow (.axle a) field v s := by
    refine ⟨?_, .of_words below ?_, ?_, ?_⟩
    · rw [is s rfl]
      exact .setAxle present mark
    · rw [is s rfl]
      exact words
    · rw [is s rfl, is (closeTransaction s) rfl]
      rfl
    · rw [is s rfl]
      rfl
  simp only [List.mem_cons, List.not_mem_nil, or_false] at row
  obtain rfl | rfl | rfl | rfl | rfl | rfl | rfl := row
  on_goal 1 =>
    refine plain (field := 8) (x := { s.axles[a] with l0 := v }) (by decide)
      (fun u h => by rw [← h]; rfl) rfl rfl ?_
  on_goal 2 =>
    refine plain (field := 9) (x := { s.axles[a] with l1 := v }) (by decide)
      (fun u h => by rw [← h]; rfl) rfl rfl ?_
  on_goal 3 =>
    refine plain (field := 11) (x := { s.axles[a] with trackWidth := v }) (by decide)
      (fun u h => by rw [← h]; rfl) rfl rfl ?_
  on_goal 4 =>
    refine plain (field := 28) (x := { s.axles[a] with fRaise := v }) (by decide)
      (fun u h => by rw [← h]; rfl) rfl rfl ?_
  on_goal 5 =>
    refine plain (field := 29) (x := { s.axles[a] with fLower := v }) (by decide)
      (fun u h => by rw [← h]; rfl) rfl rfl ?_
  on_goal 6 =>
    refine plain (field := 30) (x := { s.axles[a] with bUp := v }) (by decide)
      (fun u h => by rw [← h]; rfl) rfl rfl ?_
  on_goal 7 =>
    refine plain (field := 31) (x := { s.axles[a] with bDown := v }) (by decide)
      (fun u h => by rw [← h]; rfl) rfl rfl ?_
  all_goals
    unfold recordWords fieldWord axleField
    dsimp only
    rw [State.setAxle_get_self]
    rfl

/-! ### Curve points -/

/-- R13: the fields of the curve points. -/
theorem axleField_point (s : State) (a : Fin 4) {n : Nat} (low : 16 ≤ n) (high : n < 28) :
    axleField s a n = curveField s.axles[a].curve ((n - 16) / 2)
      (if n % 2 = 0 then CurvePoint.bellows else CurvePoint.load) := by
  interval_cases n <;> rfl

/-- R13: the other fields show of the curve its length alone. -/
theorem axleField_of_curve (s : State) (a : Fin 4) {curve : List CurvePoint}
    (length : curve.length = s.axles[a].curve.length) {n : Nat} (below : n < 32)
    (off : ¬(16 ≤ n ∧ n < 28)) :
    axleField (s.setAxle a { s.axles[a] with curve := curve }) a n = axleField s a n := by
  unfold axleField
  rw [State.setAxle_get_self]
  dsimp only
  obtain low | rfl | middle | high : n < 10 ∨ n = 10 ∨ (10 < n ∧ n < 16) ∨ 28 ≤ n := by omega
  · interval_cases n <;> rfl
  · exact congrArg quantity length
  · obtain ⟨past, before⟩ := middle
    interval_cases n <;> rfl
  · interval_cases n <;> rfl

/-- R13: a curve point with one coordinate replaced. -/
def CurvePoint.moved (p : CurvePoint) (field v : Nat) : CurvePoint :=
  if field % 2 = 0 then { p with bellows := v } else { p with load := v }

theorem curveField_modify (curve : List CurvePoint) (k j : Nat) (g : CurvePoint → CurvePoint)
    (f : CurvePoint → Nat) : curveField (curve.modify k g) j f
      = optional (fun p => quantity (f p)) (curve[j]?.map fun p => if k = j then g p else p) := by
  unfold curveField
  rw [List.getElem?_modify]
  rfl

theorem point_row (a : Fin 4) (v : Nat) (s : State) {field : Nat} (low : 16 ≤ field)
    (high : field < 28) (inside : (field - 16) / 2 < s.axles[a].curve.length) :
    PlainRow (.axle a) field v s := by
  have is (u : State) : store (.axle a) field v u = u.setAxle a { u.axles[a] with
      curve := u.axles[a].curve.modify ((field - 16) / 2) fun p => p.moved field v } := by
    interval_cases field <;> rfl
  have length : (s.axles[a].curve.modify ((field - 16) / 2) fun p => p.moved field v).length
      = s.axles[a].curve.length := List.length_modify _ _ _
  have shows (n : Nat) (low : 16 ≤ n) (high : n < 28) :
      fieldWord (store (.axle a) field v s) (.axle a) n
        = optional (fun p => quantity ((if n % 2 = 0 then CurvePoint.bellows else CurvePoint.load) p))
          (s.axles[a].curve[(n - 16) / 2]?.map fun p =>
            if (field - 16) / 2 = (n - 16) / 2 then p.moved field v else p) := by
    refine (axleField_point _ a low high).trans ?_
    rw [is, State.setAxle_get_self]
    exact curveField_modify _ _ _ _ _
  refine ⟨?_, ⟨?_, fun n below other => ?_⟩, ?_, ?_⟩
  · rw [is]
    exact .setAxle rfl rfl
  · rw [shows field low high, List.getElem?_eq_getElem inside, Option.map_some, if_pos rfl]
    unfold CurvePoint.moved
    by_cases even : field % 2 = 0
    · rw [if_pos even, if_pos even]
      rfl
    · rw [if_neg even, if_neg even]
      rfl
  · by_cases point : 16 ≤ n ∧ n < 28
    · rw [shows n point.1 point.2]
      refine Eq.trans ?_ (axleField_point s a point.1 point.2).symm
      unfold curveField
      rw [optional_map]
      congr 1
      funext p
      by_cases same : (field - 16) / 2 = (n - 16) / 2
      · rw [if_pos same]
        unfold CurvePoint.moved
        by_cases even : field % 2 = 0
        · rw [if_pos even, if_neg (by omega)]
        · rw [if_neg even, if_pos (by omega)]
      · rw [if_neg same]
    · rw [is]
      exact axleField_of_curve s a length below point
  · rw [is, is]
    rfl
  · rw [is]
    rfl

/-! ### The divisor and P_LIM, which other state follows -/

theorem divisor_row (v : Nat) (s : State) : Stored .device s (store .device 21 v s)
    ∧ FieldSet .device 21 (quantity v) s (store .device 21 v s)
    ∧ store .device 21 v (closeTransaction s) = closeTransaction (store .device 21 v s) :=
  ⟨.setDevice s _ _, .of_words (by decide) rfl, rfl⟩

/-- R79: what shows of P_LIM beside itself are the command and its source. -/
theorem pLim_row (c : Fin 4) (v : Nat) (s : State) :
    store (.channel c) 10 v s
        = s.setChannel c ({ s.channels[c] with pLim := v } : Channel).arbitrate
      ∧ fieldWord (store (.channel c) 10 v s) (.channel c) 10 = quantity v
      ∧ ∀ n < 32, n ≠ 10 → n ≠ 7 → n ≠ 16 →
        fieldWord (store (.channel c) 10 v s) (.channel c) n = fieldWord s (.channel c) n := by
  have is : store (.channel c) 10 v s
      = s.setChannel c ({ s.channels[c] with pLim := v } : Channel).arbitrate :=
    arbitrate_setChannel c _ s
  have shows (n : Nat) : fieldWord (store (.channel c) 10 v s) (.channel c) n
      = channelField (s.setChannel c ({ s.channels[c] with pLim := v } : Channel).arbitrate) c n := by
    rw [is]
    rfl
  refine ⟨is, ?_, fun n below other notSource notCommand => ?_⟩
  · rw [shows]
    unfold channelField
    rw [State.setChannel_get_self]
    rfl
  · rw [shows]
    show _ = channelField s c n
    unfold channelField
    rw [State.setChannel_get_self]
    obtain low | low | middle | high :
      n < 7 ∨ (7 < n ∧ n < 10) ∨ (10 < n ∧ n < 16) ∨ 16 < n := by omega
    · interval_cases n <;> rfl
    · obtain ⟨past, before⟩ := low
      interval_cases n <;> rfl
    · obtain ⟨past, before⟩ := middle
      interval_cases n <;> rfl
    · interval_cases n <;> rfl

end Sys2Proof.Machine
end

section
/-! The numeric settings, row by row (O45, first part). -/

namespace Sys2Proof.Machine

/-- The numeric settings: table, field, least and greatest value. -/
def numericRows : List (Nat × Nat × Nat × Nat) :=
  [(0, 12, 10, 60), (0, 16, 300, 700), (0, 18, 1, 30), (0, 19, 1, 20), (0, 20, 102, 410),
    (0, 21, 1, 65535), (0, 30, 60, 3600), (1, 8, 0, 2000), (1, 9, 0, 2000), (1, 11, 150, 260),
    (1, 28, 0, 1024), (1, 29, 0, 1024), (1, 30, 10, 100), (1, 31, 30, 300), (2, 3, 40, 160),
    (2, 4, 2000, 4000), (3, 8, 300, 1000), (4, 8, 100, 1024), (4, 9, 100, 1024),
    (4, 10, 100, 1000), (4, 15, 5, 50), (6, 8, 30, 150), (6, 9, 200, 700), (6, 10, 200, 800),
    (6, 11, 150, 800), (6, 12, 102, 512), (1, 16, 0, 1000), (1, 17, 0, 2000), (1, 18, 0, 1000),
    (1, 19, 0, 2000), (1, 20, 0, 1000), (1, 21, 0, 2000), (1, 22, 0, 1000), (1, 23, 0, 2000),
    (1, 24, 0, 1000), (1, 25, 0, 2000), (1, 26, 0, 1000), (1, 27, 0, 2000)]

/-- A numeric setting, by its row. -/
def numericRow (row : Fin 38) : Nat × Nat × Nat × Nat := numericRows.getD row.val (0, 0, 0, 0)

/-- The numeric settings of class any state. -/
def anyStateRows : List (Nat × Nat) :=
  [(0, 12), (0, 16), (0, 20), (0, 21), (0, 30), (1, 28), (1, 29), (1, 30), (1, 31), (3, 8),
    (4, 15), (6, 8), (6, 9), (6, 10), (6, 11), (6, 12)]

/-- R13: a row of an existing record; a curve point lies below the count. -/
structure OfRow (row : Fin 38) (r : RecordId) (s : State) : Prop where
  table : r.table.code = (numericRow row).1
  point : ∀ a : Fin 4, r = .axle a → 16 ≤ (numericRow row).2.1 → (numericRow row).2.1 < 28 →
    ((numericRow row).2.1 - 16) / 2 < s.axles[a].curve.length

theorem rows_of_tables : ∀ row : Fin 38,
    ((numericRow row).1 = 0 → row.val < 7) ∧ ((numericRow row).1 = 2 → 14 ≤ row.val ∧ row.val < 16)
      ∧ ((numericRow row).1 = 1 → 7 ≤ row.val ∧ (row.val < 14 ∨ 26 ≤ row.val))
      ∧ ((numericRow row).1 = 3 → row.val = 16)
      ∧ ((numericRow row).1 = 4 → 17 ≤ row.val ∧ row.val < 21) ∧ (numericRow row).1 ≠ 5
      ∧ ((numericRow row).1 = 6 → 21 ≤ row.val ∧ row.val < 26) := by
  decide

theorem fields_of_tables : ∀ row : Fin 38,
    ((numericRow row).1 = 0 → (numericRow row).2.1 = 21
        ∨ (numericRow row).2.1 ∈ [12, 16, 18, 19, 20, 30])
      ∧ ((numericRow row).1 = 1 → (numericRow row).2.1 ∈ [8, 9, 11, 28, 29, 30, 31]
        ∨ 16 ≤ (numericRow row).2.1 ∧ (numericRow row).2.1 < 28)
      ∧ ((numericRow row).1 = 2 → (numericRow row).2.1 ∈ [3, 4])
      ∧ ((numericRow row).1 = 3 → (numericRow row).2.1 = 8)
      ∧ ((numericRow row).1 = 4 → (numericRow row).2.1 = 10 ∨ (numericRow row).2.1 ∈ [8, 9, 15])
      ∧ ((numericRow row).1 = 6 → (numericRow row).2.1 ∈ [8, 9, 10, 11, 12]) := by
  decide

/-- The rows of the curve points. -/
theorem point_rows : ∀ row : Fin 38, 26 ≤ row.val →
    (16 ≤ (numericRow row).2.1 ∧ (numericRow row).2.1 < 28)
      ∧ (numericRow row).2.2 = (if (numericRow row).2.1 % 2 = 0 then (0, 1000) else (0, 2000))
      ∧ ((numericRow row).1, (numericRow row).2.1) ∉ anyStateRows := by
  decide

theorem settingOf_of_point {s : State} {a : Fin 4} {n : Nat} (low : 16 ≤ n) (high : n < 28)
    (inside : (n - 16) / 2 < s.axles[a].curve.length) : settingOf s (.axle a) n = some
      ⟨true, if n % 2 = 0 then .range 0 1000 else .range 0 2000⟩ := by
  have other : n ∉ [1, 2, 8, 9, 10, 11, 15, 28, 29, 30, 31] := by
    simp only [List.mem_cons, List.not_mem_nil, or_false]
    omega
  rw [settingOf_point other, if_pos ⟨low, high, inside⟩]

/-- R11, R12: the setting of a row. -/
theorem settingOf_row {row : Fin 38} {r : RecordId} {s : State} (h : OfRow row r s) :
    settingOf s r (numericRow row).2.1 = some
      ⟨!decide (((numericRow row).1, (numericRow row).2.1) ∈ anyStateRows),
        .range (numericRow row).2.2.1 (numericRow row).2.2.2⟩ := by
  obtain ⟨device, wheel, axle, tyre, channel, candidate, rollover⟩ := rows_of_tables row
  have points := point_rows row
  obtain ⟨table, point⟩ := h
  obtain ⟨i, below⟩ := row
  cases r with
  | device =>
    have here : i < 7 := device table.symm
    clear point points table device axle wheel tyre channel candidate rollover
    interval_cases i <;> rfl
  | axle a =>
    obtain ⟨past, plain | isPoint⟩ : 7 ≤ i ∧ (i < 14 ∨ 26 ≤ i) := axle table.symm
    · clear point points table device axle wheel tyre channel candidate rollover
      interval_cases i <;> rfl
    · obtain ⟨⟨low, high⟩, range, notAny⟩ := points isPoint
      rw [settingOf_of_point low high (point a rfl low high), decide_eq_false notAny, range]
      split <;> rfl
  | wheel w =>
    obtain ⟨past, here⟩ : 14 ≤ i ∧ i < 16 := wheel table.symm
    clear point points table device axle wheel tyre channel candidate rollover
    interval_cases i <;> rfl
  | tyre p =>
    obtain rfl : i = 16 := tyre table.symm
    rfl
  | channel c =>
    obtain ⟨past, here⟩ : 17 ≤ i ∧ i < 21 := channel table.symm
    clear point points table device axle wheel tyre channel candidate rollover
    interval_cases i <;> rfl
  | candidate k => exact absurd table.symm candidate
  | rollover =>
    obtain ⟨past, here⟩ : 21 ≤ i ∧ i < 26 := rollover table.symm
    clear point points table device axle wheel tyre channel candidate rollover
    interval_cases i <;> rfl

/-- R12: what a row stores, where other state does not follow. -/
theorem plainRow_of_row {row : Fin 38} {r : RecordId} {s : State} (h : OfRow row r s) (v : Nat)
    (notDivisor : ¬(r = .device ∧ (numericRow row).2.1 = 21))
    (notLimit : ¬∃ c, r = .channel c ∧ (numericRow row).2.1 = 10) :
    PlainRow r (numericRow row).2.1 v s := by
  obtain ⟨-, -, -, -, -, candidate, -⟩ := rows_of_tables row
  obtain ⟨device, axle, wheel, tyre, channel, rollover⟩ := fields_of_tables row
  obtain ⟨table, point⟩ := h
  cases r with
  | device =>
    exact device_row v s ((device table.symm).resolve_left fun h => notDivisor ⟨rfl, h⟩)
  | axle a =>
    obtain plain | ⟨low, high⟩ := axle table.symm
    · exact axle_row a v s plain
    · exact point_row a v s low high (point a rfl low high)
  | wheel w => exact wheel_row w v s (wheel table.symm)
  | tyre p =>
    rw [tyre table.symm]
    exact tyre_row p v s
  | channel c =>
    exact channel_row c v s ((channel table.symm).resolve_left fun h => notLimit ⟨c, rfl, h⟩)
  | candidate k => exact absurd table.symm candidate
  | rollover => exact rollover_row v s (rollover table.symm)

theorem structureBlocks_of_row {row : Fin 38} {r : RecordId} {s : State} (h : OfRow row r s) (v : Nat) :
    structureBlocks s r (numericRow row).2.1 v = false := by
  obtain ⟨-, axle, -⟩ := fields_of_tables row
  cases r with
  | axle a =>
    have other : (numericRow row).2.1 ≠ 1 ∧ (numericRow row).2.1 ≠ 2 := by
      obtain plain | point := axle h.table.symm
      · simp only [List.mem_cons, List.not_mem_nil, or_false] at plain
        omega
      · omega
    unfold structureBlocks
    dsimp only
    rw [if_neg other.1, if_neg other.2]
  | device | wheel | tyre | channel | candidate | rollover => rfl

theorem row_bounds : ∀ row : Fin 38, (numericRow row).1 < 8 ∧ (numericRow row).2.1 < 32 := by
  decide

theorem fieldWord_answered (kind : BitVec 6) (reply : Reply) (s : State) (r : RecordId) (n : Nat) :
    fieldWord (Answered kind reply s) r n = fieldWord s r n := by
  cases r <;> rfl

/-- R79, R137: what follows a setting of one record. -/
structure RowStored (row : Fin 38) (r : RecordId) (v : Nat) (s t : State) : Prop where
  closes : store r (numericRow row).2.1 v (closeTransaction s) = closeTransaction t
  stored : Stored r s t
  shown : fieldWord t r (numericRow row).2.1 = quantity v
  kept : ∀ n < 32, n ≠ (numericRow row).2.1 →
    ((numericRow row).1 = 4 ∧ (numericRow row).2.1 = 10 → n ≠ 7 ∧ n ≠ 16) →
    fieldWord t r n = fieldWord s r n
  limit : ∀ c : Fin 4, r = .channel c → (numericRow row).2.1 = 10 →
    t.channels[c] = ({ s.channels[c] with pLim := v } : Channel).arbitrate
  receiver : t.receiver = if (numericRow row).1 = 0 ∧ (numericRow row).2.1 = 21 then
      { s.receiver with
        armed := false, startPending := false, character := none, collected := []
        gapTimer := none
        jamTimer := s.receiver.jamTimer.map fun _ =>
          32 * ((if s.device.parity = .noParity then 10 else 11) * (4 * v))
        markTimer := s.receiver.markTimer.map fun _ =>
          (if s.device.parity = .noParity then 10 else 11) * (4 * v) }
    else s.receiver

theorem rowStored_of_row {row : Fin 38} {r : RecordId} {s : State} (h : OfRow row r s) (v : Nat) :
    RowStored row r v s (store r (numericRow row).2.1 v s) := by
  by_cases divisor : r = .device ∧ (numericRow row).2.1 = 21
  · obtain ⟨rfl, field⟩ := divisor
    have table : (numericRow row).1 = 0 := h.table.symm
    obtain ⟨stored, ⟨shown, kept⟩, closes⟩ := divisor_row v s
    rw [← field] at stored shown kept closes
    refine ⟨closes, stored, shown, fun n below other _ => kept n below other,
      fun c h => RecordId.noConfusion h, ?_⟩
    rw [if_pos ⟨table, field⟩, field]
    have time := charTime_eq { s with device := { s.device with divisor := v } }
    dsimp only at time
    rw [← time]
    rfl
  by_cases limit : ∃ c, r = .channel c ∧ (numericRow row).2.1 = 10
  · obtain ⟨c, rfl, field⟩ := limit
    have table : (numericRow row).1 = 4 := h.table.symm
    obtain ⟨is, shown, kept⟩ := pLim_row c v s
    rw [← field] at is shown kept
    refine ⟨?_, ?_, shown, fun n below other special => ?_, fun d same _ => ?_, ?_⟩
    · rw [field]
      rfl
    · rw [is]
      exact .setChannel s c _
    · obtain ⟨notSource, notCommand⟩ := special ⟨table, field⟩
      exact kept n below other notSource notCommand
    · obtain rfl := RecordId.channel.inj same
      rw [is, State.setChannel_get_self]
    · rw [is, if_neg fun h => absurd (h.1.symm.trans table) (by decide)]
      rfl
  · obtain ⟨stored, ⟨shown, kept⟩, closes, receiver⟩ := plainRow_of_row h v divisor limit
    refine ⟨closes, stored, shown, fun n below other _ => kept n below other,
      fun c same field => absurd ⟨c, same, field⟩ limit, receiver.trans (if_neg ?_).symm⟩
    rintro ⟨table, field⟩
    refine divisor ⟨?_, field⟩
    have code := h.table.trans table
    cases r with
    | device => rfl
    | axle | wheel | tyre | channel | candidate | rollover => exact absurd code (Nat.succ_ne_zero _)

/-- O45's first part: a numeric setting, clamped and stored. -/
theorem amendStoresNumbers (index : BitVec 5) (value : Word) (row : Fin 38) {s : State}
    (served : Served s)
    (open' : s.device.state = .standby
      ∨ ((numericRow row).1, (numericRow row).2.1) ∈ anyStateRows)
    {r : RecordId} (h : OfRow row r s) (atIndex : r.index = index.toNat)
    (exist : recordExists s r = true) {v : Nat}
    (clamped : v = max (numericRow row).2.2.1 (min (numericRow row).2.2.2 value.toNat)) :
    exec (.amend (BitVec.ofNat 3 (numericRow row).1) index (BitVec.ofNat 16 (numericRow row).2.1) value) s
      = .next (Answered 3 ⟨if v = value.toNat then .done else .doneClamped, index,
        Vector.replicate 8 0⟩ (store r (numericRow row).2.1 v s)) := by
  obtain ⟨smallTable, smallField⟩ := row_bounds row
  have field : (BitVec.ofNat 16 (numericRow row).2.1).toNat = (numericRow row).2.1 := by
    rw [BitVec.toNat_ofNat]
    exact Nat.mod_eq_of_lt (by omega)
  have table : r.table.code = (BitVec.ofNat 3 (numericRow row).1).toNat := by
    rw [BitVec.toNat_ofNat, h.table]
    exact (Nat.mod_eq_of_lt (by omega)).symm
  have known := settingOf_row h
  rw [← field] at known
  have accepted : Domain.accept (.range (numericRow row).2.2.1 (numericRow row).2.2.2) value.toNat
      = some (v, v != value.toNat) := by
    rw [clamped]
    rfl
  have free := structureBlocks_of_row h v
  rw [← field] at free
  refine (amend_stores served ⟨table, atIndex⟩ exist known (fun only => ?_) accepted free).trans ?_
  · refine open'.resolve_right ?_
    rw [Bool.not_eq_true', decide_eq_false_iff_not, field] at only
    exact only
  · rw [field, (rowStored_of_row h v).closes]
    by_cases same : v = value.toNat
    · rw [if_pos same, same, bne_self_eq_false]
      rfl
    · rw [if_neg same, bne_iff_ne.mpr same]
      rfl

end Sys2Proof.Machine
end

section
/-! The structural and enumerated settings (O45). -/

namespace Sys2Proof.Machine

/-! ### An AMEND that is answered DONE -/

theorem amend_done {table : BitVec 3} {index : BitVec 5} {field value : Word} {r : RecordId}
    {s : State} {x : Setting} {v : Nat} (served : Served s)
    (named : r.table.code = table.toNat ∧ r.index = index.toNat) (exist : recordExists s r = true)
    (known : settingOf s r field.toNat = some x)
    (open' : x.standbyOnly = true → s.device.state = .standby)
    (accepted : x.domain.accept value.toNat = some (v, false))
    (free : structureBlocks s r field.toNat v = false) {u : State}
    (stores : store r field.toNat v (closeTransaction s) = u) :
    exec (.amend table index field value) s = .next (setResponse 3 (plainReply .done index) u)
      ∧ (setResponse 3 (plainReply .done index) u).link.response
        = ⟨.done, 3, index, Vector.replicate 8 0⟩
      ∧ (setResponse 3 (plainReply .done index) u).link.select = .high := by
  subst stores
  exact ⟨amend_stores served named exist known open' accepted free, rfl,
    store_select r _ v (closeTransaction s)⟩

theorem axle_named (a : Fin 4) : (RecordId.axle a).table.code = (1 : BitVec 3).toNat
    ∧ (RecordId.axle a).index = (BitVec.ofNat 5 a.val).toNat :=
  ⟨rfl, (Nat.mod_eq_of_lt (show a.val < 2 ^ 5 by omega)).symm⟩

theorem accept_codes {n : Nat} {value : Word} (below : value.toNat < n) :
    Domain.accept (.codes n) value.toNat = some (value.toNat, false) := if_pos below

/-! ### TWIN -/

theorem foldl_setTyre_spec (g : Tyre → Tyre) (l : List (Fin 16)) (nodup : l.Nodup) (s : State) :
    TyresOnly s (l.foldl (fun s p => s.setTyre p (g s.tyres[p])) s)
      ∧ ∀ q : Fin 16, (l.foldl (fun s p => s.setTyre p (g s.tyres[p])) s).tyres[q]
        = if q ∈ l then g s.tyres[q] else s.tyres[q] := by
  induction l generalizing s with
  | nil => exact ⟨rfl, fun q => (if_neg List.not_mem_nil).symm⟩
  | cons p l ih =>
    obtain ⟨notLater, rest⟩ := List.nodup_cons.mp nodup
    obtain ⟨only, tyres⟩ := ih rest (s.setTyre p (g s.tyres[p]))
    refine ⟨TyresOnly.trans (t := s.setTyre p (g s.tyres[p])) rfl only, fun q => (tyres q).trans ?_⟩
    by_cases here : q = p
    · subst here
      rw [if_neg notLater, State.setTyre_get_self, if_pos List.mem_cons_self]
    · rw [State.setTyre_get_ne _ _ _ _ here]
      refine if_congr ?_ rfl rfl
      rw [List.mem_cons, or_iff_right here]

theorem innerPositions_nodup : ∀ a : Fin 4, (innerPositions a).Nodup := by decide

/-- R3: an INNER position after TWIN is stored. -/
def Tyre.twinned (twin : Bool) (x : Tyre) : Tyre :=
  if twin then freshTyre true
  else { x with present := false, changeMark := false, learnOutstanding := false }

theorem storeTwin_spec {a : Fin 4} {v : Nat} {s : State} (changes : s.axles[a].twin ≠ (v == 1)) :
    TyresOnly (s.setAxle a { s.axles[a] with twin := v == 1 }) (storeTwin a v s)
      ∧ ∀ p : Fin 16, (storeTwin a v s).tyres[p]
        = if axleOfTyre p = a ∧ p.val % 2 = 1 then s.tyres[p].twinned (v == 1) else s.tyres[p] := by
  have is : storeTwin a v s = (innerPositions a).foldl
      (fun s p => s.setTyre p (s.tyres[p].twinned (v == 1)))
      (s.setAxle a { s.axles[a] with twin := v == 1 }) := if_neg changes
  obtain ⟨only, tyres⟩ := foldl_setTyre_spec (Tyre.twinned (v == 1)) (innerPositions a)
    (innerPositions_nodup a) (s.setAxle a { s.axles[a] with twin := v == 1 })
  rw [is]
  refine ⟨only, fun p => (tyres p).trans ?_⟩
  exact if_congr (mem_innerPositions a p) rfl rfl

theorem amendTwin {value : Word} {a : Fin 4} {s : State} (served : Served s)
    (standby : s.device.state = .standby) (present : s.axles[a].present = true)
    (flag : value.toNat ≤ 1) (changes : s.axles[a].twin ≠ (value.toNat == 1))
    (idle : value.toNat = 0 → ∀ p : Fin 16, axleOfTyre p = a ∧ p.val % 2 = 1 →
      s.tyres[p].state = .unpaired) :
    ∃ t, (exec (.amend 1 (BitVec.ofNat 5 a.val) 1 value) s = .next t
        ∧ t.link.response = ⟨.done, 3, BitVec.ofNat 5 a.val, Vector.replicate 8 0⟩
        ∧ t.link.select = .high)
      ∧ t.axles = s.axles.set a { s.axles[a] with twin := value.toNat == 1 }
      ∧ (∀ p : Fin 16, t.tyres[p] = if axleOfTyre p = a ∧ p.val % 2 = 1 then
          s.tyres[p].twinned (value.toNat == 1) else s.tyres[p])
      ∧ t = { s with link := t.link, axles := t.axles, tyres := t.tyres } := by
  obtain ⟨only, tyres⟩ := storeTwin_spec (s := closeTransaction s) (a := a) (v := value.toNat) changes
  have free : structureBlocks s (.axle a) 1 value.toNat = false := by
    rw [← Bool.not_eq_true, structureBlocks_iff]
    rintro (⟨-, zero, -, p, onAxle, inner, paired⟩ | ⟨other, -⟩ | ⟨other, -⟩)
    · exact paired (idle zero p ⟨onAxle, inner⟩)
    · exact absurd other (by decide)
    · exact absurd other (by decide)
  refine ⟨_, amend_done (field := 1) (v := value.toNat) served (axle_named a) present rfl (fun _ => standby)
    (accept_codes (by omega)) free rfl, ?_⟩
  have only : TyresOnly _ (store (.axle a) (1 : Word).toNat value.toNat (closeTransaction s)) := only
  have tyres : ∀ p : Fin 16, (store (.axle a) (1 : Word).toNat value.toNat
    (closeTransaction s)).tyres[p] = _ := tyres
  generalize store (.axle a) (1 : Word).toNat value.toNat (closeTransaction s) = u at only tyres
  refine ⟨(congrArg State.axles only).trans rfl, tyres, ?_⟩
  unfold TyresOnly at only
  rw [only]
  rfl

end Sys2Proof.Machine
end

section
/-! LIFTABLE, the point count, the mask and the enumerated settings (O45). -/

namespace Sys2Proof.Machine

/-! ### LIFTABLE -/

/-- R13, R67: an axle whose LIFTABLE has just been stored. -/
theorem requestLift_put_spec (a : Fin 4) (x : Axle) (l : LiftController) (s : State) :
    let t := requestLift false { putAxle a x s with lift := l }
    (t.axles[a].liftable = x.liftable ∧ t.axles[a].liftState = x.liftState
        ∧ t.axles[a].liftMode = x.liftMode)
      ∧ t.lift = l ∧ t.outputs[liftOutput].energised = false
      ∧ (∀ b : Fin 4, b ≠ a → t.axles[b] = s.axles[b])
      ∧ (∀ o : Fin 13, o ≠ liftOutput → t.outputs[o] = s.outputs[o])
      ∧ t.device = s.device ∧ t.channels = s.channels ∧ t.wheels = s.wheels
      ∧ t.tyres = s.tyres ∧ t.rollover = s.rollover := by
  intro t
  have step : LiftStep a { putAxle a x s with lift := l } t _ _ := requestLift_step a false _
  have only := requestLift_valveOnly false { putAxle a x s with lift := l }
  have off := (requestLift_self false { putAxle a x s with lift := l }).2 rfl
  have axle := step.axle
  have self := putAxle_get_self a x s
  refine ⟨?_, step.lift, off, fun b other => (step.axles b other).trans (putAxle_get_ne other x s),
    fun o other => step.outputs o other, step.device, step.channels, only.wheels, only.tyres,
    step.rollover⟩
  rw [axle]
  rw [show ({ putAxle a x s with lift := l } : State).axles[a] = _ from self]
  exact ⟨rfl, rfl, rfl⟩

theorem amendLiftableOn {a : Fin 4} {s : State} (served : Served s)
    (standby : s.device.state = .standby) (present : s.axles[a].present = true)
    (fixed : s.axles[a].liftable = false)
    (alone : ∀ b : Fin 4, s.axles[b].present = true → s.axles[b].liftable = false) :
    ∃ t, (exec (.amend 1 (BitVec.ofNat 5 a.val) 2 1) s = .next t
        ∧ t.link.response = ⟨.done, 3, BitVec.ofNat 5 a.val, Vector.replicate 8 0⟩
        ∧ t.link.select = .high)
      ∧ t.axles[a].liftable = true ∧ t.axles[a].liftState = .lowering
      ∧ t.axles[a].liftMode = .auto ∧ t.lift = ⟨none, some 6000000, 0⟩
      ∧ t.outputs[liftOutput].energised = false
      ∧ (∀ b : Fin 4, b ≠ a → t.axles[b] = s.axles[b])
      ∧ (∀ o : Fin 13, o ≠ liftOutput → t.outputs[o] = s.outputs[o])
      ∧ t.device = s.device ∧ t.channels = s.channels ∧ t.wheels = s.wheels
      ∧ t.tyres = s.tyres ∧ t.rollover = s.rollover := by
  have free : structureBlocks s (.axle a) 2 1 = false := by
    rw [← Bool.not_eq_true, structureBlocks_iff]
    rintro (⟨other, -⟩ | ⟨-, zero, -⟩ | ⟨-, -, -, b, -, standing, liftable⟩)
    · exact absurd other (by decide)
    · exact absurd zero (by decide)
    · exact Bool.noConfusion ((alone b standing).symm.trans liftable)
  have stores : store (.axle a) 2 1 (closeTransaction s) = requestLift false
      { putAxle a { s.axles[a] with liftable := true, liftState := .lowering, liftMode := .auto }
        (closeTransaction s) with lift := ⟨none, some 6000000, 0⟩ } :=
    if_neg (by
      rw [show (closeTransaction s).axles[a].liftable = false from fixed]
      exact Bool.noConfusion)
  obtain ⟨⟨liftable, liftState, liftMode⟩, rest⟩ := requestLift_put_spec a
    { s.axles[a] with liftable := true, liftState := .lowering, liftMode := .auto }
    ⟨none, some 6000000, 0⟩ (closeTransaction s)
  exact ⟨_, amend_done (field := 2) (value := 1) served (axle_named a) present rfl (fun _ => standby)
    (accept_codes (by decide)) free stores, liftable, liftState, liftMode, rest⟩

theorem amendLiftableOff {a : Fin 4} {s : State} (served : Served s)
    (standby : s.device.state = .standby) (present : s.axles[a].present = true)
    (lifts : s.axles[a].liftable = true) (down : s.axles[a].liftState = .down) :
    ∃ t, (exec (.amend 1 (BitVec.ofNat 5 a.val) 2 0) s = .next t
        ∧ t.link.response = ⟨.done, 3, BitVec.ofNat 5 a.val, Vector.replicate 8 0⟩
        ∧ t.link.select = .high)
      ∧ t.axles[a].liftable = false ∧ t.axles[a].liftState = .notLiftable
      ∧ t.lift = ⟨none, none, 0⟩ ∧ (∀ b : Fin 4, b ≠ a → t.axles[b] = s.axles[b])
      ∧ (∀ o : Fin 13, o ≠ liftOutput → t.outputs[o] = s.outputs[o])
      ∧ t.device = s.device ∧ t.channels = s.channels ∧ t.wheels = s.wheels
      ∧ t.tyres = s.tyres ∧ t.rollover = s.rollover := by
  have free : structureBlocks s (.axle a) 2 0 = false := by
    rw [← Bool.not_eq_true, structureBlocks_iff]
    rintro (⟨other, -⟩ | ⟨-, -, -, raised⟩ | ⟨-, one, -⟩)
    · exact absurd other (by decide)
    · exact raised down
    · exact absurd one (by decide)
  have stores : store (.axle a) 2 0 (closeTransaction s) = requestLift false
      { putAxle a { s.axles[a] with liftable := false, liftState := .notLiftable }
        (closeTransaction s) with lift := ⟨none, none, 0⟩ } :=
    (if_neg (by
      rw [show (closeTransaction s).axles[a].liftable = true from lifts]
      exact Bool.noConfusion)).trans (if_neg Bool.noConfusion)
  obtain ⟨⟨liftable, liftState, -⟩, lift, -, rest⟩ := requestLift_put_spec a
    { s.axles[a] with liftable := false, liftState := .notLiftable } ⟨none, none, 0⟩
    (closeTransaction s)
  exact ⟨_, amend_done (field := 2) (value := 0) served (axle_named a) present rfl (fun _ => standby)
    (accept_codes (by decide)) free stores, liftable, liftState, lift, rest⟩

/-! ### The point count -/

theorem resizeCurve_getElem? {curve : List CurvePoint} {n k : Nat} (points : curve ≠ []) (below : k < n) :
    (resizeCurve curve n)[k]? = if k < curve.length then curve[k]? else curve.getLast? := by
  unfold resizeCurve
  by_cases inside : k < curve.length
  · rw [if_pos inside, List.getElem?_append_left (by rw [List.length_take]; omega),
      List.getElem?_take_of_lt below]
  · have past : (curve.take n).length = curve.length := by
      rw [List.length_take]
      omega
    rw [if_neg inside, List.getElem?_append_right (by omega), past, List.getElem?_replicate,
      if_pos (by omega)]
    cases curve with
    | nil => exact absurd rfl points
    | cons p rest => simp [List.getLast?_cons]

theorem amendPointCount {value : Word} {a : Fin 4} {s : State} (served : Served s)
    (standby : s.device.state = .standby) (present : s.axles[a].present = true)
    (least : 2 ≤ value.toNat) (most : value.toNat ≤ 6) (points : s.axles[a].curve ≠ []) :
    ∃ t, (exec (.amend 1 (BitVec.ofNat 5 a.val) 10 value) s = .next t
        ∧ t.link.response = ⟨.done, 3, BitVec.ofNat 5 a.val, Vector.replicate 8 0⟩
        ∧ t.link.select = .high)
      ∧ t.axles[a].curve.length = value.toNat
      ∧ (∀ k < value.toNat, t.axles[a].curve[k]? =
        (if k < s.axles[a].curve.length then s.axles[a].curve[k]? else s.axles[a].curve.getLast?))
      ∧ t = { s with link := t.link, axles := s.axles.set a { s.axles[a] with
        curve := t.axles[a].curve } } := by
  have stores : store (.axle a) 10 value.toNat (closeTransaction s) = (closeTransaction s).setAxle a
      { s.axles[a] with curve := resizeCurve s.axles[a].curve value.toNat } := rfl
  have curve : ((closeTransaction s).setAxle a { s.axles[a] with
      curve := resizeCurve s.axles[a].curve value.toNat }).axles[a].curve
        = resizeCurve s.axles[a].curve value.toNat := by
    rw [State.setAxle_get_self]
  refine ⟨_, amend_done (field := 10) served (axle_named a) present rfl (fun _ => standby)
    (if_pos ⟨least, most⟩) rfl stores, ?_, fun k below => ?_, ?_⟩
  · exact (congrArg List.length curve).trans (resizeCurve_length _ _)
  · exact (congrArg (fun l : List CurvePoint => l[k]?) curve).trans (resizeCurve_getElem? points below)
  · have whole {l : List CurvePoint} (same : l = resizeCurve s.axles[a].curve value.toNat) :
        setResponse 3 (plainReply .done (BitVec.ofNat 5 a.val)) ((closeTransaction s).setAxle a
          { s.axles[a] with curve := resizeCurve s.axles[a].curve value.toNat })
        = { s with
          link := (setResponse 3 (plainReply .done (BitVec.ofNat 5 a.val)) (closeTransaction s)).link
          axles := s.axles.set a { s.axles[a] with curve := l } } := by
      rw [same]
      rfl
    exact whole curve

/-! ### The mask -/

theorem ValveOnly.eq_of_outputs {s t : State} (h : ValveOnly s t) (outputs : t.outputs = s.outputs) :
    t = { s with faults := t.faults, channels := t.channels, link := t.link } := by
  obtain ⟨pending, device, analog, capture, loadUnit, lift, axles, wheels, tyres, rollover, receiver,
    supervisor, -⟩ := h
  cases s
  cases t
  simp_all

/-- R177: the state after a new mask, before the channels follow. -/
def remasked (value : Word) (s : State) : State :=
  { s with
    device := { s.device with faultMask := value }
    faults := allFaults.foldl
      (fun x f => if value.getLsbD f.bit then x.set clearMark f else x) s.faults }

theorem storeMask_eq (value : Word) (s : State) : storeMask value.toNat s
    = settle (report .jam s.receiver.jam (remasked value s)) := by
  unfold storeMask remasked masked
  rw [BitVec.ofNat_toNat, BitVec.setWidth_eq]

theorem remasked_get (value : Word) (s : State) (f : FaultId) : (remasked value s).faults.get f
    = if value.getLsbD f.bit then ⟨false, false⟩ else s.faults.get f := by
  refine (foldl_clear_get (fun f => value.getLsbD f.bit) allFaults s.faults f).trans ?_
  exact if_congr (and_iff_right (mem_allFaults f)) rfl rfl

/-- R177, R83: a new mask where nothing is energised and every channel has fallen back. -/
theorem storeMask_spec (value : Word) {s : State} (out : inControl s = false) (init : InitState s) :
    let t := storeMask value.toNat s
    t.device = { s.device with faultMask := value }
      ∧ (∀ f, f ≠ .jam → t.faults.get f =
        if value.getLsbD f.bit then ⟨false, false⟩ else s.faults.get f)
      ∧ t.faults.jam.present = (s.receiver.jam && !value.getLsbD 10)
      ∧ (∀ c : Fin 4, t.channels[c] =
        if s.channels[c].present = true ∧ s.channels[c].state ≠ .off then
          { s.channels[c] with reason := .notActive } else s.channels[c])
      ∧ t = { s with
        device := t.device, faults := t.faults, channels := t.channels, link := t.link } := by
  intro t
  have is : t = settle (report .jam s.receiver.jam (remasked value s)) := storeMask_eq value s
  have other (f : FaultId) (notJam : f ≠ .jam) :=
    (report_other notJam s.receiver.jam (remasked value s)).trans (remasked_get value s f)
  have before : report .jam s.receiver.jam (remasked value s) = { s with
      device := { s.device with faultMask := value }
      faults := (report .jam s.receiver.jam (remasked value s)).faults } := by
    rw [report_jam]
    rfl
  have jam : (report .jam s.receiver.jam (remasked value s)).faults.jam.present
      = (s.receiver.jam && !value.getLsbD 10) := by
    rw [report_jam]
    rfl
  generalize report .jam s.receiver.jam (remasked value s) = u at is other before jam
  clear_value t
  have outU : inControl u = false := by
    rw [before]
    exact out
  have initU : InitState u := by
    rw [before]
    exact ⟨init.off, init.channels⟩
  obtain ⟨outputs, faults, channels⟩ := settle_initState initU outU
  have only := (settle_drove u).toValveOnly
  rw [← is] at outputs faults channels only
  have sameChannels : u.channels = s.channels := by rw [before]
  have whole := only.eq_of_outputs outputs
  refine ⟨only.device.trans (by rw [before]), fun f notJam => ?_, ?_, fun c => ?_, ?_⟩
  · rw [faults]
    exact other f notJam
  · rw [faults]
    exact jam
  · rw [channels, sameChannels]
  · refine whole.trans ?_
    rw [only.device, before]

theorem amendMask {value : Word} {s : State} (served : Served s)
    (standby : s.device.state = .standby) (maskable : value &&& 0xF202 = 0)
    (off : ∀ o : Fin 13, s.outputs[o].energised = false)
    (fallen : ∀ c : Fin 4, s.channels[c].present = true → s.channels[c].state = .fallback) :
    ∃ t, (exec (.amend 0 0 4 value) s = .next t
        ∧ t.link.response = ⟨.done, 3, 0, Vector.replicate 8 0⟩ ∧ t.link.select = .high)
      ∧ t.device = { s.device with faultMask := value }
      ∧ (∀ f ∈ allFaults, f ≠ .jam → t.faults.get f =
        if value.getLsbD f.bit then ⟨false, false⟩ else s.faults.get f)
      ∧ t.faults.jam.present = (s.receiver.jam && !value.getLsbD 10)
      ∧ (∀ c : Fin 4, t.channels[c] =
        if s.channels[c].present then { s.channels[c] with reason := .notActive }
        else s.channels[c])
      ∧ t = { s with
        device := t.device, faults := t.faults, channels := t.channels, link := t.link } := by
  have accepted : Domain.accept .mask value.toNat = some (value.toNat, false) := by
    refine if_pos ?_
    rw [BitVec.ofNat_toNat, BitVec.setWidth_eq]
    exact maskable
  refine ⟨_, amend_done (r := .device) (field := 4) served ⟨rfl, rfl⟩ rfl rfl (fun _ => standby)
    accepted rfl rfl, ?_⟩
  have out : inControl (closeTransaction s) = false := by
    rw [← Bool.not_eq_true, inControl_iff]
    rintro (active | wait)
    · exact DeviceState.noConfusion (standby.symm.trans active)
    · exact DeviceState.noConfusion (standby.symm.trans wait)
  obtain ⟨device, faults, jam, channels, whole⟩ := storeMask_spec value out
    ⟨off, fun c present => .inr (fallen c present)⟩
  have store' : store .device (4 : Word).toNat value.toNat (closeTransaction s)
      = storeMask value.toNat (closeTransaction s) := rfl
  rw [store']
  generalize storeMask value.toNat (closeTransaction s) = u at device faults jam channels whole
  refine ⟨device, fun f _ => faults f, jam, fun c => (channels c).trans (if_congr ?_ rfl rfl), ?_⟩
  · refine and_iff_left_of_imp fun present => ?_
    rw [show (closeTransaction s).channels[c].state = _ from fallen c present]
    exact ControllerState.noConfusion
  · rw [whole]
    rfl

end Sys2Proof.Machine
end

section
/-! The enumerated settings, and O45. -/

namespace Sys2Proof.Machine

theorem Parity.ofCode_eq {v : Nat} (listed : v ≤ 2) :
    Parity.ofCode v = if v = 0 then .noParity else if v = 1 then .odd else .even := by
  interval_cases v <;> rfl

theorem LiftMode.ofCode_toNat {v : Nat} (listed : v ≤ 2) :
    LiftMode.ofCode v = if v = 0 then .auto else if v = 1 then .manualUp else .manualDown := by
  interval_cases v <;> rfl

theorem amendParity {value : Word} {s : State} (served : Served s) (listed : value.toNat ≤ 2) :
    ∃ t, (exec (.amend 0 0 22 value) s = .next t
        ∧ t.link.response = ⟨.done, 3, 0, Vector.replicate 8 0⟩ ∧ t.link.select = .high)
      ∧ t.device = { s.device with parity :=
        if value.toNat = 0 then .noParity else if value.toNat = 1 then .odd else .even }
      ∧ t = { s with link := t.link, device := t.device } := by
  refine ⟨_, amend_done (r := .device) (field := 22) served ⟨rfl, rfl⟩ rfl rfl
    (fun only => Bool.noConfusion only) (accept_codes (by omega)) rfl rfl, ?_, rfl⟩
  rw [← Parity.ofCode_eq listed]
  rfl

theorem amendStopOnValveFault {value : Word} {s : State} (served : Served s)
    (standby : s.device.state = .standby) (flag : value.toNat ≤ 1) :
    ∃ t, (exec (.amend 0 0 17 value) s = .next t
        ∧ t.link.response = ⟨.done, 3, 0, Vector.replicate 8 0⟩ ∧ t.link.select = .high)
      ∧ t.device = { s.device with stopOnValveFault := value.toNat == 1 } := by
  have stores : store .device (17 : Word).toNat value.toNat (closeTransaction s)
      = settle { closeTransaction s with
        device := { s.device with stopOnValveFault := value.toNat == 1 } } := rfl
  have device := (settle_drove { closeTransaction s with
    device := { s.device with stopOnValveFault := value.toNat == 1 } }).device
  generalize settle _ = u at stores device
  exact ⟨_, amend_done (table := 0) (index := 0) (r := .device) (field := 17) served ⟨rfl, rfl⟩ rfl rfl
    (fun _ => standby) (accept_codes (by omega)) rfl stores, device⟩

theorem amendLiftMode {value : Word} {a : Fin 4} {s : State} (served : Served s)
    (present : s.axles[a].present = true) (listed : value.toNat ≤ 2) :
    ∃ t, (exec (.amend 1 (BitVec.ofNat 5 a.val) 15 value) s = .next t
        ∧ t.link.response = ⟨.done, 3, BitVec.ofNat 5 a.val, Vector.replicate 8 0⟩
        ∧ t.link.select = .high)
      ∧ t = { s with link := t.link, axles := s.axles.set a { s.axles[a] with
        liftMode := if value.toNat = 0 then .auto else if value.toNat = 1 then .manualUp
          else .manualDown } } := by
  refine ⟨_, amend_done (field := 15) served (axle_named a) present rfl
    (fun only => Bool.noConfusion only) (accept_codes (by omega)) rfl rfl, ?_⟩
  rw [← LiftMode.ofCode_toNat listed]
  rfl

theorem wheel_named (w : Fin 8) : (RecordId.wheel w).table.code = (2 : BitVec 3).toNat
    ∧ (RecordId.wheel w).index = (BitVec.ofNat 5 w.val).toNat :=
  ⟨rfl, (Nat.mod_eq_of_lt (show w.val < 2 ^ 5 by omega)).symm⟩

theorem channel_named (c : Fin 4) : (RecordId.channel c).table.code = (4 : BitVec 3).toNat
    ∧ (RecordId.channel c).index = (BitVec.ofNat 5 c.val).toNat :=
  ⟨rfl, (Nat.mod_eq_of_lt (show c.val < 2 ^ 5 by omega)).symm⟩

theorem amendWheelEnabled {value : Word} {w : Fin 8} {s : State} (served : Served s)
    (present : s.wheels[w].present = true) (flag : value.toNat ≤ 1) :
    exec (.amend 2 (BitVec.ofNat 5 w.val) 2 value) s = .next
      (Answered 3 ⟨.done, BitVec.ofNat 5 w.val, Vector.replicate 8 0⟩
        (s.setWheel w { s.wheels[w] with enabled := value.toNat == 1 })) :=
  (amend_done (r := .wheel w) (field := 2) served
    (wheel_named w) present rfl (fun only => Bool.noConfusion only)
    (accept_codes (by omega)) rfl rfl).1

theorem amendChannelPolicy {value : Word} {c : Fin 4} {s : State} (served : Served s)
    (present : s.channels[c].present = true) (flag : value.toNat ≤ 1) :
    exec (.amend 4 (BitVec.ofNat 5 c.val) 24 value) s = .next
      (Answered 3 ⟨.done, BitVec.ofNat 5 c.val, Vector.replicate 8 0⟩
        (s.setChannel c { s.channels[c] with
          policy := if value.toNat = 0 then .selectLow else .selectHigh })) :=
  (amend_done (r := .channel c) (field := 24) served
    (channel_named c) present rfl (fun only => Bool.noConfusion only)
    (accept_codes (by omega)) rfl rfl).1

/-- Settles O45: the numeric settings row by row, the others one by one. -/
theorem amendStoresSettings : Obligations.AmendStoresSettings := by
  refine ⟨fun index value row s served => ?_, fun value a s served => ?_⟩
  · intro rows table field lo hi v anyState open' r inTable atIndex exist inside
    have isRow : OfRow row r s := ⟨inTable, inside⟩
    have row' := rowStored_of_row isRow v
    refine ⟨_, amendStoresNumbers index value row served open' isRow atIndex exist rfl, ?_⟩
    obtain ⟨-, stored, shown, kept, limit, receiver⟩ := row'
    have word (q : RecordId) (n : Nat) := fieldWord_answered 3
      ⟨if v = value.toNat then .done else .doneClamped, index, Vector.replicate 8 0⟩
      (store r (numericRow row).2.1 v s) q n
    refine ⟨?_, (word r _).trans shown, fun q n below other special => (word q n).trans ?_, limit,
      stored.outputs, stored.faults, stored.analog, stored.capture, stored.loadUnit, stored.lift,
      stored.supervisor, receiver⟩
    · exact congrArg (fun l : Link => { l with
        select := .high
        response := ⟨if v = value.toNat then .done else .doneClamped, 3, index,
          Vector.replicate 8 0⟩ }) stored.link
    · by_cases same : q = r
      · subst same
        exact kept n below (other.resolve_left (not_not.mpr rfl)) fun isLimit =>
          special ⟨isLimit.1, isLimit.2, rfl⟩
      · exact stored.fieldWord same n
  · intro standby x v inner done amend
    refine ⟨fun state present flag changes idle => ?_, fun state present one fixed alone => ?_,
      fun state present zero lifts down => ?_, fun state present least most points => ?_,
      fun state maskable off fallen => ?_, fun listed => ?_, fun state flag => ?_,
      fun present listed => ?_, fun w present flag => amendWheelEnabled served present flag,
      fun c present flag => amendChannelPolicy served present flag⟩
    · obtain ⟨t, answer, axles, tyres, whole⟩ := amendTwin served state present flag changes idle
      refine ⟨t, answer.1, answer, axles, fun p outside => (tyres p).trans (if_neg outside),
        fun p inside => ?_, whole⟩
      have here := (tyres p).trans (if_pos inside)
      obtain zero | one : v = 0 ∨ v = 1 := by omega
      · rw [if_neg (by omega), here, show value.toNat = 0 from zero]
        rfl
      · rw [if_pos one, here, show value.toNat = 1 from one]
        rfl
    · subst one
      obtain ⟨t, answer, rest⟩ := amendLiftableOn served state present fixed alone
      exact ⟨t, answer.1, answer, rest⟩
    · subst zero
      obtain ⟨t, answer, rest⟩ := amendLiftableOff served state present lifts down
      exact ⟨t, answer.1, answer, rest⟩
    · obtain ⟨t, answer, rest⟩ := amendPointCount served state present least most points
      exact ⟨t, answer.1, answer, rest⟩
    · obtain ⟨t, answer, device, faults, rest⟩ := amendMask served state maskable off fallen
      exact ⟨t, answer.1, answer, device, faults, rest⟩
    · obtain ⟨t, answer, rest⟩ := amendParity served listed
      exact ⟨t, answer.1, answer, rest⟩
    · obtain ⟨t, answer, rest⟩ := amendStopOnValveFault served state flag
      exact ⟨t, answer.1, answer, rest⟩
    · obtain ⟨t, answer, rest⟩ := amendLiftMode served present listed
      exact ⟨t, answer.1, answer, rest⟩

end Sys2Proof.Machine
end
